-- ==== Sys2Proof/Word.lean ====
section
/-!
DEFINITION. The plain types that every file shares: the two parts and sparse tables.
-/

namespace Sys2Proof

/-- The two parts of R1: the W512, and the W384, which is the same silicon with fewer units. -/
inductive Part where
  | w512 | w384
  deriving DecidableEq, Repr

/-- A sparse table: pairs of a key and an entry, keys strictly rising, no entry equal to what a key with no entry
reads as. -/
abbrev Tab (α : Type) := List (Nat × α)

end Sys2Proof
end

