-- ==== Sys2Proof/Config.lean ====
section
/-!
DEFINITION. What one device is given at manufacture and the values the spec leaves open. None has a body: nothing can
be proved of the value of any of them.
-/

namespace Sys2Proof.Config

/-- SILICON_REVISION, set at manufacture (R315, Table 10.17). -/
opaque siliconRevision : Nat

/-- SERIAL_NUMBER, set at manufacture (Table 10.17). -/
opaque serialNumber : Nat

/-- ETH_MAC_ADDRESS of an Ethernet port, set at manufacture (Table 10.17). -/
opaque macAddress : Nat → Nat

/-- VENDOR_CREDENTIAL, from the ROM (Table 12.18). -/
opaque vendorCredential : Nat

/-- VERSION of the image that manufacture puts into slot A. -/
opaque factoryVersion : Nat

/-- DEVICEID_PUBLIC, derived from the UDS (Table 12.3). -/
opaque deviceIdPublic : Nat

/-- The private keys and secrets that a boot derives (Table 12.3): the DeviceID key, CDI_L1 and the Alias key of what layer 1
measures, and KWK of a STORE_EPOCH (R341). -/
opaque deviceIdPrivate : Nat
opaque cdiOne : Nat → Nat
opaque aliasPrivate : Nat → Nat
opaque storeKey : Nat → Nat

/-- AES-256 KW of a secret under KWK, and its inverse (R341). -/
opaque keyWrap : Nat → Nat → Nat
opaque keyUnwrap : Nat → Nat → Nat

/-- The state of the DRBG at the first start, and after a request (R356). -/
opaque drbgSeed : Nat
opaque drbgNext : Nat → Nat

/-- SHA-384 of the Onadan root certificate (R352). -/
opaque onadanRoot : Nat

/-- ALIAS_PUBLIC and the measurement digest of a boot: functions of what layer 1 measures (Tables 12.3 and 12.4). -/
opaque aliasPublic : Nat → Nat
opaque measurementDigest : Nat → Nat

/-- The current that a lane draws at a rate code, in Q16.16 A (R324). The spec gives no number. -/
opaque laneCurrent : Nat → Nat

/-- Whether a debug address lies in the UDS, or in the key store (R442). The spec gives no such addresses. -/
opaque udsAddress : Nat → Bool
opaque keyStoreAddress : Nat → Bool

/-- JOURNAL_WEAR: how much of its rated endurance a journal that has reached a commit number has used (Table 10.17). The spec gives
no endurance. -/
opaque journalWear : Nat → Nat

/-- An answer of the SPDM responder (Table 12.6) that cryptography computes: a function of the request and what it covers. -/
opaque spdmAnswer : Nat → Nat → Nat

/-- A free value: the `n`-th value the device draws where the spec states none. `State` counts the draws. -/
opaque freeValue : Nat → Nat

end Sys2Proof.Config
end

