-- ==== Sys2Proof/Syntax.lean ====
section
/-!
DEFINITION. The commands of the block: one constructor of `Instr` for each row of the table of operations and events,
and the plain data they carry. A command is an operation a sender asks for, or an event that reaches the device; an
event's operands say what the environment delivers with it.
-/

namespace Sys2Proof

/-- The channels of Table 4.1. -/
inductive Chan where
  | posted | nonPosted | completion | m2sReq | m2sRwD | s2mNdr | s2mDrs | biSnp | biRsp
  deriving DecidableEq, Repr

/-- Who sends a ZMP operation: a session by its slot, the FM API (credential 0xFE, R314), or the device itself when a
rule says it acts as though a command were accepted (R29). -/
inductive Caller where
  | session (slot : Nat) | fmApi | device
  deriving DecidableEq, Repr

/-- A firmware image as it lies in a slot or in the flash (Table 12.2): the fields of its header, and the outcome of the four cryptographic checks of R342 on it (the key digest against the fuses of its slot, the two
signatures, the body's hash). -/
structure Image where
  magic : Nat := 0x31574657
  headerVersion : Nat := 1
  bodyLength : Nat
  svn : Nat
  keySlot : Nat
  version : Nat
  bodyHash : Nat := 0
  ecdsaKey : Nat := 0
  mldsaKey : Nat := 0
  ecdsaSig : Nat := 0
  mldsaSig : Nat := 0
  digestOk : Bool
  ecdsaOk : Bool
  mldsaOk : Bool
  bodyOk : Bool
  deriving DecidableEq, Repr

/-- What the world around the device answers while a write is carried out: rails already good before their enable
(R369), whether the journal can store (Table 10.12 code 16), the outcome of the self-tests (R356), units whose test
fails (R400), records found bad at a restore with their previous good value, if any (R292), and the image in the external flash. -/
structure Env where
  prebias : Nat := 0
  journalFails : Bool := false
  katFails : Nat := 0
  badSlices : Nat := 0
  badEngines : Nat := 0
  badCores : Nat := 0
  badRecords : List (Nat × Option (Nat × Nat)) := []
  flash : Option Image := none
  refValid : Nat := 0xFF
  deriving DecidableEq, Repr

/-- One write as it reaches the serialiser: the caller, the sequence number a WRITE_CAS expects (none for a WRITE),
the length of the value, and the world around it. -/
structure Call where
  caller : Caller
  expect : Option Nat := none
  len : Nat
  env : Env := {}
  deriving DecidableEq, Repr

/-- An object reference: index and sub-index. -/
structure ObjRef where
  index : Nat
  sub : Nat
  deriving DecidableEq, Repr

/-- One operation of a request message (Table 10.10). -/
inductive ZmpOp where
  | read (o : ObjRef)
  | write (o : ObjRef) (len v : Nat)
  | writeCas (o : ObjRef) (expect len v : Nat)
  | describe (o : ObjRef)
  | next (o : ObjRef)
  | bad (o : ObjRef)
  deriving DecidableEq, Repr

/-- A decrypted request message (Table 10.9): its MSG_ID, STOP_ON_ERROR, its length in bytes, whether it is well
formed, how many earlier messages of the session are unanswered (R299), and its operations. -/
structure ZmpMsg where
  msgId : Nat
  stopOnError : Bool
  bytes : Nat
  wellFormed : Bool
  unanswered : Nat
  ops : List ZmpOp
  env : Env := {}
  deriving DecidableEq, Repr

/-- How a message reaches the device on its transport (Table 10.8): the address it was sent to (an IPv4 address, or the SMBus
target address), the UDP port, the bytes of a datagram reassembled from fragments, and on MCTP the message type, the vendor ID
and the byte before the frame. -/
structure Carriage where
  address : Nat := 0x5C
  port : Nat := 47720
  fragments : Nat := 0
  mctpType : Nat := 0x7E
  vendor : Nat := 0x1F7A
  lead : Nat := 0x5A
  deriving DecidableEq, Repr

/-- The binding of a requester (Table 10.8): transport t of Table 10.17, source address (or EID), port (or quay); with the carriage
of the message at hand. -/
structure Binding where
  transport : Nat
  source : Nat
  port : Nat
  via : Carriage := {}
  deriving DecidableEq, Repr

/-- The address that identifies a requester on its transport, whatever carries one message. -/
def Binding.address (b : Binding) : Binding := { b with via := {} }

/-- Physical Port Control by its opcode (Table 10.16): Reset PPB of a quay, or an FM API command that the table does not list. -/
inductive FmControl where
  | resetPpb (q : Fin 128)
  | other (opcode : Nat)
  deriving DecidableEq, Repr

/-- The body of a frame by its FRAME_TYPE (Table 10.7). `spdm` messages are commands of their own. -/
inductive FrameBody where
  | secured (session : Nat) (m : ZmpMsg)
  | identify
  | other
  deriving DecidableEq, Repr

/-- A frame as it arrives (Table 10.6). `lenOk` says whether its length agrees with its transport. -/
structure Frame where
  binding : Binding
  magic : Nat
  version : Nat
  bodyLen : Nat
  lenOk : Bool
  body : FrameBody
  deriving DecidableEq, Repr

/-- The request a CXL.mem message carries, in the kinds of Table 6.4: a shared read (SnpData), an ownership read
(SnpInv), MemInv, an uncached read (NoOp), a write (which keeps no copy, or keeps S by its metadata), a clean eviction
(MemClnEvct); `none` for PCIe and CXL.io traffic. -/
inductive MemOp where
  | none | sharedRd | ownRd | memInv | uncachedRd | write | writeKeepS | cleanEvict
  deriving DecidableEq, Repr

/-- The kinds of PCIe and CXL.io request that Customs tells apart (Table 9.3): memory reads, memory writes, AtomicOps,
and everything it never checks: configuration requests (DOE among them), MCTP messages, and others (messages, a host's own port and
Harbour function, R265). -/
inductive ReqSort where
  | memRead | memWrite | atomic | config | mctp | other
  deriving DecidableEq, Repr

/-- One whole message (R106): its channel, what a PCIe or CXL.io request is, traffic class, first byte, data bytes (0:
header only), bytes it names, tag, the quay or fabric ID that routing selects, its CXL.mem operation, its source fabric ID
on a Fabric quay, its data and whether that is poisoned, its requester ID, and its relaxed-ordering and ID-ordering
attributes. -/
structure Msg where
  chan : Chan
  sort : ReqSort := .other
  tc : Nat := 0
  addr : Nat := 0
  len : Nat := 0
  size : Nat := 0
  tag : Nat := 0
  dest : Nat := 0
  op : MemOp := .none
  source : Nat := 0
  data : Nat := 0
  /-- Byte enables of a CXL.mem write: bit i for byte i of the line. -/
  be : Nat := 0xFFFFFFFFFFFFFFFF
  poison : Bool := false
  relaxed : Bool := false
  ido : Bool := false
  requester : Nat := 0
  deriving DecidableEq, Repr

/-- What training finds (R47, R67): the highest rate that the two ends' lanes can run, the protocol that they negotiate, the quay
lanes that failed to train, the widest link and the exit burst of the partner, L0p in effect, and what the partner offers. -/
structure TrainResult where
  width : Nat
  rate : Nat
  protocol : Nat
  reversed : Bool := false
  failed : Nat := 0
  l0p : Bool := true
  pbr : Bool := true
  partnerMax : Nat := 16
  burst : Nat := 0
  tagBits : Nat := 14
  /-- The partner supports flit mode (R47). -/
  flit : Bool := true
  /-- The CXL protocols that the partner supports, by their codes in Table 3.7. -/
  cxl : List Nat := []
  /-- The partner offers only CXL 1.1 (R54). -/
  cxl11 : Bool := false
  /-- The partner's CXL revision defines 128 GT/s (R57). -/
  cxl128 : Bool := true
  /-- The partner offers back-invalidate snoops. -/
  bi : Bool := true
  /-- The presets that transmitter equalisation evaluates, each with the error ratio it gives on every lane (R64). -/
  presets : List (Nat × List Nat) := []
  deriving DecidableEq, Repr

/-- A flit as received (R81): whether it passed CRC after FEC and (under IDE) its integrity check, the IDE stream that carries
it (0: the link stream), its sequence number, the acknowledgement and the credits it carries, header and data bytes per channel of Table 4.1. -/
structure RxFlit where
  crcOk : Bool
  ideOk : Bool := true
  idle : Bool := false
  seq : Nat
  ack : Nat
  credits : List (Nat × Nat) := []
  stream : Fin 5 := 0
  deriving DecidableEq, Repr

/-- A pooled access on its way through its home (R178 to R207): host slot (0xFF: an internal master), tag, the quay its
answer leaves on, home key, Ledger index, kind, data and byte enables of a write, the attribute Customs
delivered (0 write-back, 1 write-through, 2 uncached), its level, the host-physical address and berth it was decoded from,
and its check (R275). -/
structure Access where
  host : Nat
  tag : Nat
  quay : Nat := 0
  key : Nat
  index : Nat
  op : MemOp
  data : Nat := 0
  be : Nat := 0xFFFFFFFFFFFFFFFF
  attr : Nat := 0
  level : Nat := 0
  hpa : Nat := 0
  berth : Nat := 0
  chk : Nat := 0
  /-- ORDER of its region is strict (R273). -/
  strict : Bool := false
  /-- A write that marks its line poisoned (R230). -/
  poison : Bool := false
  /-- An access of Crane for an instance, which no host is answered for. -/
  internal : Bool := false
  /-- The PBR ID of its source, when it came over the fabric: its answer goes to that ID (R98). -/
  pbr : Option Nat := none
  /-- The master it is charged to (Table 9.1; 0xFFFF for none), and that master's privilege at its check. -/
  master : Nat := 0xFFFF
  priv : Bool := true
  /-- What was sampled when it entered its home slice (R150, R151, R175): near-sharer supply applies; a near copy may be made. -/
  entered : Option (Bool × Bool) := none
  /-- The copy read of a migration slot (R214). -/
  copyOf : Option Nat := none
  /-- The number of an access of a Crane piece, whose end the piece awaits (R224, R236). -/
  piece : Option Nat := none
  deriving DecidableEq, Repr

/-- A condition of Table 14.4 on an error line to the collector (R384): its type, the instance of its source and
which of the type's source groups it is of (0: the first), the unit its action falls on, the DETAIL of Table 14.10,
the TARGET of its report and the report's payload. -/
structure Err where
  typ : Nat
  inst : Nat
  alt : Nat := 0
  unit : Nat := 0
  detail : Nat := 0
  target : Nat := 0xFFFF
  report : Nat := 0
  /-- Type 31: the masters with a region in the failed word. -/
  masters : List Nat := []
  deriving DecidableEq, Repr

/-- How a memory device (or an endpoint) answers a request the device originated: data, poisoned data, a completion,
or a completion that says the write was not performed (R94, R204). -/
inductive MemRsp where
  | data (v : Nat) | poison | done | notPerformed
  deriving DecidableEq, Repr

/-- Which shaper object a SHAPER_WRITE names (R128). -/
inductive ShaperObj where
  | rate | burst | refill
  deriving DecidableEq, Repr

/-- A host's request for a Basin line as it reaches the home tracker (R146): host slot, the quay its answer leaves on,
tag, kind, data and byte enables. -/
structure BasinReq where
  host : Fin 64
  quay : Fin 128
  tag : Nat
  op : MemOp
  data : Nat := 0
  be : Nat := 0xFFFFFFFFFFFFFFFF
  deriving DecidableEq, Repr

/-- An answer that reaches a home transaction: a ring answer from a slice, or BIRsp from a host with the data of its
write-back, if any. -/
inductive SnoopAns where
  | ring (s : Fin 16)
  | host (h : Fin 64) (data : Option Nat)
  deriving DecidableEq, Repr

/-- The kind of the host's conflicting request in a BIConflict (R159). -/
inductive ConflictKind where
  | write | read
  deriving DecidableEq, Repr

/-- Whose answer a snoop timer waits for (R166). -/
inductive SnoopTarget where
  | host (h : Fin 64)
  | slice (s : Fin 16)
  deriving DecidableEq, Repr

/-- Which object a BASIN_CONFIG_WRITE names (R165). -/
inductive BasinObj where
  | homeSetBase | homeSetSize | members | snoopTimeout | nearCopy
  deriving DecidableEq, Repr

/-- Which change a BERTH_CHANGE makes (R182). -/
inductive BerthObj where
  | base | limit | disable
  deriving DecidableEq, Repr

/-- A queue context (Table 8.7). `rsvdZero` says whether every reserved byte is 0. -/
structure QContext where
  ringBase : Nat
  ringEntries : Nat
  complBase : Nat
  headAddr : Nat
  pollInterval : Nat
  weight : Nat
  burst : Nat
  format : Nat
  vector : Nat
  queueId : Nat
  rsvdZero : Bool := true
  deriving DecidableEq, Repr

/-- What a host resets (R256): a function, by the number of its instance or, with no instance bound, its own (`funcOf`); or the VFs of a
quay, by a clear of VF Enable. -/
inductive FuncReset where
  | function (f : Fin 36992)
  | vfEnable (quay : Fin 128)
  deriving DecidableEq, Repr

/-- What the host has in the registers of a function (Table 8.12) when it sets CRANE_ENABLE, or what it writes there
later: the administrative context, the contexts of queues 0 to 63, the vectors, the event ring, entries of the MSI-X table (vector,
16 bytes), and the status bits it clears by writing 1 (M2H_VALID, EVT_OVERFLOW, RECOVERY_LOSS). -/
structure FuncRegs where
  admin : Option QContext := none
  contexts : List QContext := []
  mboxVector : Nat := 0
  capVector : Nat := 0
  evtBase : Nat := 0
  evtEntries : Nat := 0
  evtVector : Nat := 0
  evtHead : Nat := 0
  msix : List (Nat × Nat) := []
  clearM2h : Bool := false
  clearOverflow : Bool := false
  clearLoss : Bool := false
  deriving DecidableEq, Repr

/-- How the copying of a bale ends (R214, R217): every write has completed, with the lines that were written poisoned as a
mask, and those of them whose read timed out; or the write of a line failed, with its cause of Table 7.7. -/
inductive BaleEnd where
  | done (poisoned : Nat) (late : Nat := 0)
  | failed (line cause : Nat)
  deriving DecidableEq, Repr

/-- How an FM API Initiate Dynamic Capacity Add selects its pages (Table 10.16): freely (a Table 7.5 request), or
prescriptively (Ledger writes, then the extent to announce). -/
inductive DcAdd where
  | free (req : Nat)
  | prescriptive (writes : List Nat) (announce : Nat)
  deriving DecidableEq, Repr

/-- What the ROM finds when VAUX reaches its good level (R450): TEST_MODE high, ETH_MODE as a mask by port, and the world around it. -/
structure StartFacts where
  testMode : Bool := false
  ethMode : Nat := 0
  env : Env := {}
  deriving DecidableEq, Repr

/-- A PLDM platform command (Table 10.15): read a numeric sensor, get a PDR, poll for an event, or another one. -/
inductive PldmCmd where
  | sensorReading (n : Nat) | pdr (n : Nat) | pollEvent | other (command : Nat)
  deriving DecidableEq, Repr

/-- A chain frame of 40 bits (Table 11.3). -/
abbrev ChainFrame := Nat

/-- A KEY_EXCHANGE with mutual authentication (R348): the requester's leaf public key (96 B), and whether its proof
verifies. -/
structure KeyExchange where
  leaf : Nat
  proofOk : Bool
  deriving DecidableEq, Repr

/-- An IDE_KM key programming (R355): stream (0: the link stream), key set, sub-stream, the key of a partner that is the requester, and
the SHA-384 of the root in which the partner's certificate chain ends (none: it does not verify), which the device as requester
asks for (R352). -/
structure KeyProg where
  stream : Fin 5
  set : Fin 2
  sub : Fin 3
  key : Nat
  root : Option Nat := none
  deriving DecidableEq, Repr

/-- A certificate chain that a session installs (R346): its bytes, and the public key of the certificate in which it ends. -/
structure CertChain where
  bytes : Nat
  leafKey : Nat
  deriving DecidableEq, Repr

/-- A firmware update (R344, R471): the image, and the world around a boot that follows it. -/
structure ImageUpdate where
  image : Image
  env : Env := {}
  deriving DecidableEq, Repr

/-- A condition that a block detects itself. -/
abbrev ErrIn := Err

/-- A unit with a progress monitor (R393). -/
inductive UnitRef where
  | slice (s : Fin 16) | engine (e : Fin 16) | core (k : Fin 8) | ring (s : Fin 16) | checker (p : Fin 196)
  | management (p : Fin 4)
  deriving DecidableEq, Repr

/-- A host's data read of a window (R414): far offset, bytes, tag. -/
structure WinRead where
  offset : Nat
  len : Nat
  tag : Nat := 0
  deriving DecidableEq, Repr

/-- A host's data write of a window (R414): far offset, bytes, data. -/
structure WinWrite where
  offset : Nat
  len : Nat
  data : Nat
  deriving DecidableEq, Repr

/-- A unit with programmable counters (Table 16.1). -/
inductive CtrUnit where
  | quay (q : Fin 128) | slice (s : Fin 16) | engine (e : Fin 16) | tide
  deriving DecidableEq, Repr

/-- Which counter object a COUNTER_CONFIG_WRITE names (R433). -/
inductive CtrConfig where
  | config (u : CtrUnit) (k : Fin 8) | filter (u : CtrUnit) (k : Fin 8) | enable
  deriving DecidableEq, Repr

/-- How a generated request ends (R443): good, with the data of a read; poisoned; an error completion; a timeout. -/
inductive TgResult where
  | good (data : Nat) | poison | error | timeout
  deriving DecidableEq, Repr


/-- The commands, in the order of the table of operations and events. -/
inductive Instr where
  /-- HANDSHAKE_EVALUATION (R117). An output arbiter samples its requests and control objects, grants the next unit of the core flit in progress or, at a break point, chooses a class and input. -/
  | handshakeEvaluation (out : Fin 196)
  /-- WHARF_CLOCK_STOP (R17). A wharf's transmit PLL or reference stops; its synchronisers offer no more units, and traffic bound for it waits in the crossbar input queues. -/
  | wharfClockStop (w : Fin 32)
  /-- SERVICE_GO (R26). The command moves the device from Slipway to Bulk, Swift or Lean and applies the target profile at its quiesce points. -/
  | serviceGo (c : Call) (v : Nat)
  /-- MODE_CHANGE (R26). The command starts a live transition from one service mode to another. -/
  | modeChange (c : Call) (v : Nat)
  /-- ENTER_SALVAGE (R26). The command abandons any transition and puts the device in Salvage within 10 µs. -/
  | enterSalvage (c : Call) (v : Nat)
  /-- RECOVERY_RESET (R378). The command runs the recovery reset of Table 13.2 and ends in Slipway. -/
  | recoveryReset (c : Call) (v : Nat)
  /-- ENTER_DRYDOCK (R381). The command from the authorising session moves Slipway to Drydock, and the pending debug level takes effect. -/
  | enterDrydock (c : Call) (v : Nat)
  /-- LEAVE_DRYDOCK (R26). The command leaves Drydock through a recovery reset to Slipway. -/
  | leaveDrydock (c : Call) (v : Nat)
  /-- POWER_STATE_REQUEST (R38). The command asks for Full or Standby and is judged against the mode, any transition in progress and any power change in progress. -/
  | powerStateRequest (c : Call) (v : Nat)
  /-- AUTOSTART (R377). Once its delay has elapsed and its conditions are met, the device acts as though SERVICE_GO naming AUTOSTART_MODE were accepted, as a device commit. -/
  | autostart
  /-- PROFILE_WRITE (R30). A write to a mode profile object is stored for later, or starts a live transition to the same mode if that mode is in force. -/
  | profileWrite (c : Call) (m : Fin 3) (sub : Fin 10) (v : Nat)
  /-- WHARF_RETRAIN_DONE (R469). A wharf finishes its rate change, and the next waiting wharf starts retraining. -/
  | wharfRetrainDone (w : Fin 32)
  /-- SLICE_PARK_DONE (R32). A slice finishes writing back and invalidating its lines, its slots are rehashed, and the next slice starts parking. -/
  | sliceParkDone (s : Fin 16)
  /-- SLICE_UNPARK_DONE (R138). A slice returns from parking, takes back its HOME_MAP slots and releases the requests held at ingress. -/
  | sliceUnparkDone (s : Fin 16)
  /-- LULL_ENTRY (R36). Every quay and Crane queue has been idle for LULL_IDLE_TIME, so the device enters Lull and parks slices. -/
  | lullEntry
  /-- LULL_EXIT (R36). The first request at a quay or Crane queue ends Lull; the request waits at ingress until slices are unparked. -/
  | lullExit
  /-- LULL_ENTRY_ABORT (R37). A request that arrives during entry to Lull ends the entry, unparks the slices already parked and returns to Full. -/
  | lullEntryAbort
  /-- DECISION (R40). A write of a verdict for a pending token is carried out, or refused as stale or as an undefined verdict. -/
  | decision (c : Call) (v : Nat)
  /-- DECISION_LIMIT_EXPIRY (R41). The decision limit or window of a held operation expires, and its expiry default is carried out. -/
  | decisionLimitExpiry (token : Nat)
  /-- FUNCTION_MODE_WRITE (R43). A write to a function's MODE applies to later operations and gives every pending operation its expiry default. -/
  | functionModeWrite (c : Call) (f : Fin 7) (v : Nat)
  /-- DECISION_LIMIT_WRITE (R43). A write to a function's DECISION_LIMIT applies only to operations that arise after its commit. -/
  | decisionLimitWrite (c : Call) (f : Fin 7) (v : Nat)
  /-- BIFURCATION_WRITE (R51). A write in Slipway recuts a wharf: its quays are declared down, NARROW resets where needed, and the quays train again. -/
  | bifurcationWrite (c : Call) (w : Fin 32) (v : Nat)
  /-- NARROW_WRITE (R50). A write narrows an x4 quay to x2 or x1, or is stored for a quay number that the present cut does not take. -/
  | narrowWrite (c : Call) (q : Fin 128) (v : Nat)
  /-- ROLE_WRITE (R78). A write in Slipway sets a quay's role, resets CXL_OFFER to the role's default and retrains the wharf. -/
  | roleWrite (c : Call) (q : Fin 128) (v : Nat)
  /-- CXL_OFFER_WRITE (R78). A write sets the CXL features offered, and it is checked against the quay's role. -/
  | cxlOfferWrite (c : Call) (q : Fin 128) (v : Nat)
  /-- MIN_WIDTH_WRITE (R71). A write of MIN_WIDTH takes effect at its commit and raises a Contained error if an UP quay is now narrower than it. -/
  | minWidthWrite (c : Call) (q : Fin 128) (v : Nat)
  /-- WHARF_START (R59). A lane tile's wharves start and their reference is judged PRESENT or NOT_STARTED. -/
  | wharfStart (t : Fin 8) (refValid : Bool)
  /-- REFCLK_ABSENT_CHECK (R59). 10 µs after a wharf start with no valid reference, a Contained Type 10 event is raised if any quay of the tile is used. -/
  | refclkAbsentCheck (t : Fin 8)
  /-- REFCLK_LOSS (R59). A reference input is lost; REFCLK_STATUS reads LOST, the tile's wharves read NO_CLOCK, and a Contained event is raised. -/
  | refclkLoss (t : Fin 8)
  /-- REFCLK_RETURN (R59). A lost reference returns and the tile's PLLs start to relock. -/
  | refclkReturn (t : Fin 8)
  /-- PLL_RELOCK (R59). A wharf PLL locks again, REFCLK_STATUS returns to PRESENT, and the quays train without command. -/
  | pllRelock (w : Fin 32)
  /-- LANE_FOM_SAMPLE (R64). Every 1 ms each lane samples its figure of merit into LANE_FOM. -/
  | laneFomSample (q : Fin 128) (foms : List Nat)
  /-- LANE_LOCK_LOSS_TIMEOUT (R66). A lane that lost lock has not regained it after 10 µs and is declared failed. -/
  | laneLockLossTimeout (q : Fin 128) (lane : Fin 16)
  /-- WIDTH_RETRAIN (R68). The quay retrains through Recovery to the width chosen by hardware mode, verdict or expiry. -/
  | widthRetrain (q : Fin 128) (r : TrainResult)
  /-- RESTORE_WIDTH (R72). The command retrains the quay with every configured lane. -/
  | restoreWidth (c : Call) (q : Fin 128) (v : Nat)
  /-- WIDTH_REQUEST (R73). The command asks for an L0p width change on a quay. -/
  | widthRequest (c : Call) (q : Fin 128) (v : Nat)
  /-- PARTNER_WIDTH_REQUEST (R74). The partner's L0p width-change request arrives. -/
  | partnerWidthRequest (q : Fin 128) (width : Nat)
  /-- L0P_CHANGE_DONE (R75). An L0p width change completes; the device compares its requested width and marks the request DONE, REISSUED or FAILED. -/
  | l0pChangeDone (q : Fin 128) (width : Nat)
  /-- WIDTH_REISSUE (R75). Within 10 µs of a lost collision the device re-issues its width request. -/
  | widthReissue (q : Fin 128)
  /-- L1_ENTRY (R62). A quay with L1_ENABLE enters L1 under the base specification. -/
  | l1Entry (q : Fin 128)
  /-- L1_EXIT (R62). An exit trigger returns the quay to L0 within 4 µs, with an EIEOS and a training burst. -/
  | l1Exit (q : Fin 128)
  /-- FLIT_RECEIVED (R81). A received flit is checked; a good one is acknowledged, a bad one causes a replay request. -/
  | flitReceived (q : Fin 128) (f : RxFlit)
  /-- FLIT_TRANSMIT (R81). The device transmits a flit that carries an acknowledgement and any freed credits. -/
  | flitTransmit (q : Fin 128) (n : Nat)
  /-- PARTNER_REPLAY_REQUEST (R81). The partner asks for a standard or selective replay, and the device honours it. -/
  | partnerReplayRequest (q : Fin 128) (selective : Bool) (seq : Nat)
  /-- REPLAY_TIMEOUT (R83). No acknowledgement advances within the replay timeout, so every unacknowledged flit is replayed. -/
  | replayTimeout (q : Fin 128)
  /-- LINK_LOSS (R85). The LTSSM leaves L0, L0p and L1, and the quay becomes HELD with its traffic kept. -/
  | linkLoss (q : Fin 128) (failed : Nat) (dlDown : Bool)
  /-- LINK_UP (R85). The LTSSM reaches L0, and the quay reads UP. -/
  | linkUp (q : Fin 128) (r : TrainResult)
  /-- DL_UP (R87). At DL_Up after a DL_Down, the replay contents are resent or discarded by kind, after the identity check on Fabric quays. -/
  | dlUp (q : Fin 128)
  /-- FABRIC_IDENTITY_MESSAGE (R97). The partner's fabric-ID message arrives on a Fabric quay and is judged under Table 4.6. -/
  | fabricIdentityMessage (q : Fin 128) (id : Nat)
  /-- FABRIC_IDENTITY_TIMEOUT (R97). No fabric-ID message arrives within 1 ms of DL_Up, and Table 4.6 decides the outcome. -/
  | fabricIdentityTimeout (q : Fin 128)
  /-- QUAY_DOWN (R105). The command declares the named quay down. -/
  | quayDown (c : Call) (v : Nat)
  /-- QUAY_RELEASE (R105). The command lets a quay that was declared down train again. -/
  | quayRelease (c : Call) (v : Nat)
  /-- HOST_PERST_ASSERT (R88). The PERST input of a Host quay is asserted; the quay is declared down and its instances reset. -/
  | hostPerstAssert (q : Fin 128)
  /-- HOST_PERST_DEASSERT (R382). The PERST input of a Host quay is deasserted, and the quay enters Detect within 20 ms. -/
  | hostPerstDeassert (q : Fin 128)
  /-- HOT_RESET_RECEIVED (R88). A hot reset or link disable from the host declares the Host quay down. -/
  | hotResetReceived (q : Fin 128)
  /-- ORIGINATED_REQUEST_EXPIRY (R91). The timer of a request that the device originated expires; the request is removed or its generation becomes stale, and the initiator receives a timeout outcome. -/
  | originatedRequestExpiry (q : Fin 128) (slot gen : Nat)
  /-- ORIGINATED_RESPONSE (R94). A response to an originated request arrives; it is matched to an open generation, discarded as late, or reported as unexpected. -/
  | originatedResponse (q : Fin 128) (slot gen : Nat) (r : MemRsp)
  /-- PBR_FLIT_ROUTE (R99). A PBR flit is routed by its destination ID through the route table, primary or alternate quay, or not forwarded. -/
  | pbrFlitRoute (q : Fin 128) (id : Nat) (m : Msg)
  /-- ROUTE_BLOCK_WRITE (R99). A write replaces 64 route entries in one commit. -/
  | routeBlockWrite (c : Call) (k : Fin 64) (v : Nat)
  /-- FABRIC_ID_WRITE (R96). A write in Slipway sets the device's 12-bit fabric ID. -/
  | fabricIdWrite (c : Call) (v : Nat)
  /-- MESSAGE_ADMISSION (R106). A whole, checked message from a quay is admitted to its VOQ after the Customs check, decode and class assignment. -/
  | messageAdmission (q : Fin 128) (m : Msg)
  /-- IMPOUND_PROPAGATION (R279). The impound reaches every other checker within 100 ns. -/
  | impoundPropagation (master : Nat)
  /-- CELL_RECHARGE (R112). A unit's cell is recharged to the shared part when every limit allows, and the reservation's credit is returned. -/
  | cellRecharge (inp out : Fin 196) (cls : Fin 8)
  /-- PRIORITY_WRITE (R118). A write to CLASS_PRIORITY, INPUT_WEIGHT or a policy object is sent to the arbiters it governs, in commit order. -/
  | priorityWrite (c : Call) (p : Fin 196) (weight : Bool) (v : Nat)
  /-- PRIORITY_REACHES_ARBITER (R119). A priority write reaches an arbiter and stays pending until its next decision. -/
  | priorityReachesArbiter (out : Fin 196)
  /-- GATE_COMMIT (R122). The command checks the shadow gate list and makes it the pending list with a start instant. -/
  | gateCommit (c : Call) (q : Fin 128) (v : Nat)
  /-- GATE_LIST_START (R123). At its start instant the pending gate list replaces the running one, and GATE_STATUS reads RUNNING. -/
  | gateListStart (q : Fin 128)
  /-- GATE_ENTRY_CHANGE (R121). A gate entry's duration ends, and the next entry comes into force. -/
  | gateEntryChange (q : Fin 128)
  /-- GATE_ENABLE_WRITE (R123). A write to GATE_ENABLE opens every gate, or starts the stored list, at its commit. -/
  | gateEnableWrite (c : Call) (q : Fin 128) (v : Nat)
  /-- SHAPER_REFILL (R126). At each refill instant each class bucket gains SHAPE_RATE × SHAPER_REFILL and is clamped to SHAPE_BURST. -/
  | shaperRefill
  /-- SHAPER_WRITE (R128). A write to SHAPE_RATE, SHAPE_BURST or SHAPER_REFILL takes effect at the next refill instant. -/
  | shaperWrite (c : Call) (q : Fin 128) (cls : Fin 8) (what : ShaperObj) (v : Nat)
  /-- QUEUE_SAMPLE (R129). At each SAMPLE_INTERVAL the depth and delay of every egress quay and class are sampled. -/
  | queueSample
  /-- HOST_BASIN_REQUEST (R146). A host request for a Basin line reaches its home tracker and opens a transaction, or waits in the line-conflict queue. -/
  | hostBasinRequest (b : Fin 64) (line : Nat) (r : BasinReq)
  /-- RING_SNOOP_ARRIVAL (R154). A ring snoop reaches a slice, which answers the home within 1 µs from its copy or as a miss. -/
  | ringSnoopArrival (s : Fin 16) (key : Nat)
  /-- SNOOP_ANSWER (R152). A ring answer, BIRsp or near-copy acknowledgement reaches the home transaction that awaits it. -/
  | snoopAnswer (s : Fin 16) (key : Nat) (a : SnoopAns)
  /-- NEAR_COPY_ACK (R150). The near slice acknowledges installation of a near copy in F. -/
  | nearCopyAck (s : Fin 16) (key : Nat)
  /-- BICONFLICT (R159). A BIConflict from a host orders its conflicting request before or after the BISnp and sends BIConflictAck. -/
  | biconflict (s : Fin 16) (key : Nat) (host : Fin 64) (k : ConflictKind)
  /-- PEER_COPY_DROP (R155). A slice other than the home drops an S or F copy without a message. -/
  | peerCopyDrop (s : Fin 16) (key : Nat)
  /-- M_LINE_EVICTION (R156). The home evicts a line in M to its victim buffer and writes it back. -/
  | mLineEviction (s : Fin 16) (key : Nat)
  /-- WRITE_BACK_COMPLETE (R156). The memory device completes a write-back, and the line leaves the victim buffer. -/
  | writeBackComplete (s : Fin 16) (key : Nat) (performed : Bool)
  /-- SNOOP_TIMEOUT_EXPIRY (R166). A BISnp or ring snoop is not answered within SNOOP_TIMEOUT, and the Basin goes DOWN. -/
  | snoopTimeoutExpiry (s : Fin 16) (key : Nat) (who : SnoopTarget)
  /-- BASIN_ENABLE_WRITE (R164). A write of 1 unparks the home set and makes the Basin UP; a write of 0 starts the reset walk. -/
  | basinEnableWrite (c : Call) (b : Fin 64) (v : Nat)
  /-- BASIN_CONFIG_WRITE (R165). A write to HOME_SET_BASE, HOME_SET_SIZE or MEMBERS is judged against the Basin state. -/
  | basinConfigWrite (c : Call) (b : Fin 64) (what : BasinObj) (v : Nat)
  /-- BASIN_RESET (R170). The command makes a DOWN Basin RESETTING and starts the reset walk. -/
  | basinReset (c : Call) (b : Fin 64) (v : Nat)
  /-- RESET_WALK_END (R171). The reset walk completes; the Basin becomes UP or FLUSH_WINDOW, or UNUSED when disabled. -/
  | resetWalkEnd (b : Fin 64)
  /-- BASIN_OPEN (R172). The command makes a Basin in FLUSH_WINDOW UP with no entries. -/
  | basinOpen (c : Call) (b : Fin 64) (v : Nat)
  /-- SLOT_BINDING_WRITE (R176). A write to SLOT_KIND or SLOT_SOURCE binds a host slot to a quay or fabric source ID. -/
  | slotBindingWrite (c : Call) (h : Fin 64) (source : Bool) (v : Nat)
  /-- BERTH_ENABLE_WRITE (R177). A write of BERTH_ENABLE = 1 enables a berth after checking alignment, overlap and Ledger runs. -/
  | berthEnableWrite (c : Call) (n : Fin 1024) (v : Nat)
  /-- BERTH_CHANGE (R182). A write to the bounds of an enabled berth, or BERTH_ENABLE = 0, opens a pool epoch and writes back lines outside the window. -/
  | berthChange (c : Call) (n : Fin 1024) (what : BerthObj) (v : Nat)
  /-- LEDGER_WALK_DONE (R186). A Ledger walk returns; it fills the translation cache, or gives LEDGER_FAIL to every waiting request. -/
  | ledgerWalkDone (s : Fin 16) (line : Nat) (ok : Bool)
  /-- LEDGER_INIT (R188). The command writes every entry invalid, marks the region RESERVED and other pages ZEROING, and makes the Ledger ACTIVE. -/
  | ledgerInit (c : Call) (v : Nat)
  /-- LEDGER_ADOPT (R188). The command takes the Ledger and map as memory holds them, and returns every migrating page to its source. -/
  | ledgerAdopt (c : Call) (v : Nat)
  /-- LEDGER_WRITE (R189). The command replaces one Ledger entry, opens a pool epoch and adjusts the mapped-page counts. -/
  | ledgerWrite (c : Call) (v : Nat)
  /-- PAGE_FENCE_DONE (R191). Home slices finish writing back and invalidating a remapped page, and waiting accesses proceed. -/
  | pageFenceDone (index : Nat)
  /-- POOL_BARRIER (R193). The command captures the pool epoch and sets BARRIER_STATUS to PENDING. -/
  | poolBarrier (c : Call) (v : Nat)
  /-- POOL_BARRIER_DONE (R193). Every access of an earlier epoch has completed; BARRIER_STATUS reads DONE and an event is raised. -/
  | poolBarrierDone
  /-- ALLOC_GRANT (R195). A capacity request is checked and granted from FREE pages, made to wait for zeroing, or answered. -/
  | allocGrant (c : Call) (v : Nat)
  /-- ZERO_WAIT_EXPIRY (R195). ZERO_WAIT_LIMIT expires for a waiting request, which is granted if it reaches MIN_PAGES. -/
  | zeroWaitExpiry (target : Nat)
  /-- EXTENT_ANNOUNCE (R198). The command raises the add events and acceptance for pages already mapped by LEDGER_WRITE. -/
  | extentAnnounce (c : Call) (v : Nat)
  /-- HOST_EXTENT_RESPONSE (R197). A host accepts or declines a dynamic capacity extent; a declined extent is unmapped to ZEROING. -/
  | hostExtentResponse (n : Fin 1024) (first : Nat) (accept : Bool)
  /-- ADD_RESPONSE_EXPIRY (R197). A host does not accept an extent within ADD_RESPONSE_LIMIT, and the extent is unmapped. -/
  | addResponseExpiry (n : Fin 1024) (first : Nat)
  /-- CAPACITY_RELEASE (R199). A host releases capacity; its pages are unmapped and go to ZEROING once no earlier-epoch access remains. -/
  | capacityRelease (n : Fin 1024) (first pages : Nat)
  /-- PAGE_ZERO_DONE (R200). Every zeroing write of a page completes, and the page becomes FREE, or a failure is retried or marks it RESERVED. -/
  | pageZeroDone (d : Fin 64) (page : Nat) (ok : Bool)
  /-- HOST_PRIVATE_WRITE (R201). A host write to a private line merges into the home copy under the berth's write policy. -/
  | hostPrivateWrite (a : Access)
  /-- BERTH_FLUSH (R203). The command writes back every line of the berth that is in M. -/
  | berthFlush (c : Call) (n : Fin 1024) (v : Nat)
  /-- MEMORY_WRITE_FAIL (R205). A write to memory fails; the DPA is listed as poison, a poisoned write is sent and an event is raised. -/
  | memoryWriteFail (q : Fin 128) (slot gen : Nat) (cause : Fin 4)
  /-- POISONED_WRITE_COMPLETE (R205). The poisoned write, or a later good write of the line, completes, and the DPA leaves the poison list. -/
  | poisonedWriteComplete (d : Fin 64) (line : Nat)
  /-- PREFETCH_HINT (R210). A prefetch hint reaches the line's home, which reads the line at level 0 or drops the hint. -/
  | prefetchHint (s : Fin 16) (key : Nat)
  /-- MIGRATE (R212). The command starts a page migration to a target device and page. -/
  | migrate (c : Call) (v : Nat)
  /-- BALE_DONE (R214). Every target write of a bale completes; its bitmap bit is set and the held writes go to the target. -/
  | baleDone (m : Fin 256) (r : BaleEnd)
  /-- SOURCE_PAGE_RELEASE (R216). No earlier-epoch access remains to the source page; it goes to ZEROING and the slot is freed. -/
  | sourcePageRelease (d : Fin 64) (page : Nat)
  /-- MIGRATE_ABORT (R217). The command aborts a migration, copies authoritative bales back to the source and clears MIGRATING. -/
  | migrateAbort (c : Call) (v : Nat)
  /-- TIER_FOLD (R219). At each TIER_EPOCH the access counts of translation entries are folded into ACCESS. -/
  | tierFold
  /-- TIER_SWEEP (R220). The sweep visits one VALID entry, may propose a promotion or demotion, and halves ACCESS. -/
  | tierSweep
  /-- ALLOWANCE_REFILL (R227). Every 1 µs the engine and instance allowance buckets gain their share and are clamped. -/
  | allowanceRefill (e : Fin 16)
  /-- ENGINE_ROUND (R228). An engine runs one round of migration bales, zeroing units and queue turns. -/
  | engineRound (e : Fin 16)
  /-- PIECE_COMPLETE (R230). A piece's accesses complete; the descriptor may complete with its status. -/
  | pieceComplete (inst : Fin 4096) (qid : Nat) (entry : Nat) (piece : Nat) (engine : Fin 16)
  /-- QUEUE_POLL (R235). A due queue is polled at its fetch position and posted entries are fetched into its cache. -/
  | queuePoll (inst : Fin 4096) (qid : Nat) (posted : List Nat) (ok : Bool)
  /-- INVALIDATE (R237). Setting INVALIDATE discards unstarted cached entries and sets INVAL_HEAD. -/
  | invalidate (inst : Fin 4096) (qid : Nat)
  /-- DISABLE (R247). Setting DISABLE on a W128 queue cuts descriptors in execution to PARTIAL and makes the queue DISABLED. -/
  | disable (inst : Fin 4096) (qid : Nat)
  /-- DISABLE_CLEAR (R247). Clearing DISABLE makes a DISABLED queue RUNNING at the published head. -/
  | disableClear (inst : Fin 4096) (qid : Nat)
  /-- CRANE_ENABLE (R239). Setting CRANE_ENABLE checks the contexts and makes each queue RUNNING or ERROR. -/
  | craneEnable (inst : Fin 36992) (r : FuncRegs)
  /-- CREATE_QUEUE (R240). An administrative command creates a RUNNING queue from its context. -/
  | createQueue (inst : Fin 4096) (ctx : Option QContext)
  /-- DESTROY_QUEUE (R241). An administrative command makes a queue DESTROYING. -/
  | destroyQueue (inst : Fin 4096) (qid : Nat)
  /-- QUERY_QUEUE (R240). An administrative command writes a queue's control block and context to memory. -/
  | queryQueue (inst : Fin 4096) (qid : Nat) (ok : Bool)
  /-- QUEUE_DESTROY_DONE (R241). A DESTROYING queue is empty and a poll finds nothing posted; it becomes ABSENT. -/
  | queueDestroyDone (inst : Fin 4096) (qid : Nat)
  /-- HOST_DECISION (R244). An instance writes a function 7 verdict for a token of its own queues. -/
  | hostDecision (inst : Fin 4096) (token verdict : Nat)
  /-- H2M_POST (R251). A host posts a mailbox message, and an event goes to the managers. -/
  | h2mPost (inst : Fin 36992) (msg : Nat)
  /-- MBOX_H2M_ACK (R251). A manager acknowledges an instance's host-to-manager message, and H2M_POST clears. -/
  | mboxH2mAck (c : Call) (v : Nat)
  /-- MBOX_M2H (R251). A manager fills the M2H half, sets M2H_VALID and raises MBOX_VECTOR. -/
  | mboxM2h (c : Call) (v : Nat)
  /-- CAP_REQUEST (R254). GO with RELEASE = 0 submits CAP_REQ as a capacity request. -/
  | capRequest (inst : Fin 36992) (req : Nat)
  /-- CAP_RELEASE (R254). GO with RELEASE = 1 releases pages of berths 8 to 15. -/
  | capRelease (inst : Fin 36992) (req : Nat)
  /-- INST_CONFIG (R252). A write binds, changes or unbinds an instance's configuration record. -/
  | instConfig (c : Call) (v : Nat)
  /-- INST_RESET (R256). The command resets an instance: fetches stop, pieces drain, and PARTIAL records are written. -/
  | instReset (c : Call) (v : Nat)
  /-- FUNCTION_LEVEL_RESET (R256). A function-level reset, or VF Enable clear, resets the instances concerned. -/
  | functionLevelReset (f : FuncReset)
  /-- INST_DRAIN_EXPIRY (R256). INST_DRAIN_LIMIT expires during an instance reset, and the remaining pieces are reported with UNCERTAIN. -/
  | instDrainExpiry (inst : Fin 4096)
  /-- REGION_SET (R268). The command writes one region entry and opens a Customs epoch. -/
  | regionSet (c : Call) (v : Nat)
  /-- REGION_CLEAR_MASTER (R269). The command clears every region of a master and returns them to the pool. -/
  | regionClearMaster (c : Call) (v : Nat)
  /-- PRIVILEGE_SET (R274). The command sets a master's privilege and opens a Customs epoch. -/
  | privilegeSet (c : Call) (v : Nat)
  /-- EPOCH_REACHES_CHECKER (R274). A checker takes a new Customs table whole, within 500 ns of its commit. -/
  | epochReachesChecker (k : Fin 196)
  /-- CUSTOMS_BARRIER (R275). The command captures the Customs epoch and sets the barrier PENDING. -/
  | customsBarrier (c : Call) (v : Nat)
  /-- CUSTOMS_BARRIER_DONE (R275). Every checker holds the epoch and every earlier access has completed; the barrier is DONE. -/
  | customsBarrierDone
  /-- CUSTOMS_BARRIER_EXPIRY (R276). The barrier is not DONE within CUSTOMS_BARRIER_LIMIT; it reads EXPIRED and reports outstanding accesses. -/
  | customsBarrierExpiry
  /-- RELEASE_RECHECK (R281). RELEASE in mode 0 re-checks held requests in order and frees the master, or impounds it again. -/
  | releaseRecheck (c : Call) (v : Nat)
  /-- RELEASE_DISCARD (R281). RELEASE in mode 1 answers held requests unperformed and frees the master. -/
  | releaseDiscard (c : Call) (v : Nat)
  /-- ZMP_FRAME (R294). A frame arrives on a transport and is checked, routed by type or discarded with FRAME_ERROR. -/
  | zmpFrame (f : Frame)
  /-- IDENTIFY (R294). An IDENTIFY frame is answered with identity values without a session. -/
  | identify (b : Binding)
  /-- READ (R302). A ZMP READ operation returns an object's value and LAST_SEQ. -/
  | read (c : Call) (o : ObjRef)
  /-- WRITE (R302). A ZMP WRITE operation is judged, takes a commit number, and replaces an object's value where no other row applies. -/
  | write (c : Call) (o : ObjRef) (v : Nat)
  /-- WRITE_CAS (R305). A conditional write is accepted only if EXPECT_SEQ equals the object's LAST_SEQ. -/
  | writeCas (c : Call) (o : ObjRef) (seq v : Nat)
  /-- DESCRIBE (R300). The operation returns an object's descriptor. -/
  | describe (c : Call) (o : ObjRef)
  /-- NEXT (R300). The operation returns the next existing object in the dictionary. -/
  | next (c : Call) (o : ObjRef)
  /-- EVENT_ACK (R310). A session acknowledges events up to ACK_SEQ. -/
  | eventAck (slot : Nat) (seq : Nat)
  /-- EVENT_RETRY (R310). Every EVENT_RETRY the device resends unacknowledged events. -/
  | eventRetry
  /-- COMMAND_ANSWER (R306). A deferred command answer is sent as an event carrying the operation's sequence number and status. -/
  | commandAnswer (slot seq status value : Nat)
  /-- STORE (R290). The command journals every persistent-on-commit object with its LAST_SEQ. -/
  | store (c : Call) (v : Nat)
  /-- RESTORE_DEFAULTS (R291). The command restores every persistent object to its default, except those R291 keeps. -/
  | restoreDefaults (c : Call) (v : Nat)
  /-- GROUP_CLAIM (R308). The command makes the caller's credential master of record of a group. -/
  | groupClaim (c : Call) (v : Nat)
  /-- GROUP_RELEASE (R308). The command clears the master of record of a group. -/
  | groupRelease (c : Call) (v : Nat)
  /-- SESSION_CLOSE (R298). The command ends a named session after the message that carries it. -/
  | sessionClose (c : Call) (v : Nat)
  /-- HEARTBEAT_TIMEOUT (R298). No secured message arrives for twice HEARTBEAT_PERIOD, and the session ends. -/
  | heartbeatTimeout (slot : Nat)
  /-- TIME_MEASUREMENT (R312). A PTP or PTM measurement arrives; fabric time is stepped or slewed and TIME_STATE updated. -/
  | timeMeasurement (src : Nat) (offset : Int)
  /-- TIME_HOLDOVER (R312). No valid measurement for 3 s, or the PTM quay leaves UP; TIME_STATE becomes HOLDOVER. -/
  | timeHoldover
  /-- TIME_SOURCE_WRITE (R316). A change of TIME_SOURCE is a loss of lock followed by acquisition of the new source. -/
  | timeSourceWrite (c : Call) (v : Nat)
  /-- IDENTIFY_SWITCH_DEVICE (R314). The FM API command is carried out as reads of identity and quay counts. -/
  | identifySwitchDevice (b : Binding)
  /-- GET_PHYSICAL_PORT_STATE (R314). The FM API command is carried out as reads of the quay objects. -/
  | getPhysicalPortState (b : Binding) (quays : List Nat)
  /-- RESET_PPB (R314). Physical Port Control Reset PPB is carried out as QUAY_DOWN then QUAY_RELEASE. -/
  | resetPpb (b : Binding) (c : FmControl)
  /-- GET_VIRTUAL_CXL_SWITCH_INFO (R314). The Harbourmaster answers with the virtual CXL switch of a Host quay. -/
  | getVirtualCxlSwitchInfo (b : Binding) (q : Fin 128)
  /-- BIND_VPPB (R314). The Harbourmaster binds a vPPB on a Host quay's virtual CXL switch. -/
  | bindVppb (b : Binding) (q : Fin 128) (vppb target : Nat)
  /-- UNBIND_VPPB (R314). The Harbourmaster unbinds a vPPB. -/
  | unbindVppb (b : Binding) (q : Fin 128) (vppb : Nat)
  /-- TUNNEL_MANAGEMENT_COMMAND (R314). The command is forwarded to the FM-owned LD of a multi-logical device. -/
  | tunnelManagementCommand (b : Binding) (q : Fin 128) (body : Nat)
  /-- INITIATE_DYNAMIC_CAPACITY_ADD (R314). The FM API add is carried out as ALLOC_GRANT, or as LEDGER_WRITE and EXTENT_ANNOUNCE. -/
  | initiateDynamicCapacityAdd (b : Binding) (a : DcAdd)
  /-- INITIATE_DYNAMIC_CAPACITY_RELEASE (R314). The FM API release is carried out as a release under R199. -/
  | initiateDynamicCapacityRelease (b : Binding) (n : Fin 1024) (first pages : Nat)
  /-- GET_EVENT_RECORDS (R314). The FM API command reads from EVENT_LOG. -/
  | getEventRecords (b : Binding) (count : Nat)
  /-- CLEAR_EVENT_RECORDS (R314). The FM API command advances the FM API read pointer. -/
  | clearEventRecords (b : Binding) (upTo : Nat)
  /-- ZMP_TUNNEL (R314). Vendor opcode 0xC5A0 carries one unencrypted ZMP message under FMAPI_ROLE and credential 0xFE. -/
  | zmpTunnel (b : Binding) (m : ZmpMsg)
  /-- PLDM_BASE_COMMAND (R313). A PLDM base command is answered. -/
  | pldmBaseCommand (b : Binding) (command : Nat) (arg : Nat)
  /-- PLDM_PLATFORM_COMMAND (R313). A PLDM platform monitoring command reads sensors, PDRs or polled events. -/
  | pldmPlatformCommand (b : Binding) (command : PldmCmd)
  /-- PLDM_FIRMWARE_UPDATE (R471). A PLDM update writes the inactive slot, marks it PENDING, judges it and sets its state and FW_NEXT_SLOT. -/
  | pldmFirmwareUpdate (b : Binding) (u : ImageUpdate)
  /-- MCTP_CONTROL (R295). An MCTP control message is answered. -/
  | mctpControl (b : Binding) (command arg : Nat)
  /-- RAIL_POWER_GOOD (R317). A rail gives power-good during power-up, and the next rail is enabled. -/
  | railPowerGood (r : Fin 6) (nextGood : Bool)
  /-- RAIL_POWER_GOOD_TIMEOUT (R318). A rail gives no power-good within 5 ms; the rails go down and the device stays in Standby. -/
  | railPowerGoodTimeout (r : Fin 6)
  /-- RAIL_POWER_GOOD_LOST (R318). An enabled rail drops power-good; a Fatal error takes the rails down and the device into Salvage in Standby. -/
  | railPowerGoodLost (r : Fin 6)
  /-- RAIL_PMBUS_READ (R318). Every 1 ms Tide reads each rail regulator's voltage and current over PMBus. -/
  | railPmbusRead (r : Fin 6) (reading : Option (Nat × Nat × Nat))
  /-- AVS_UPDATE (R319). Every 50 µs Tide compares CORE_RATE with the target and requests a new VCORE and VSRAM. -/
  | avsUpdate (coreRate : Nat)
  /-- DROOP (R320). The die voltage falls below 0.585 V; DROOP_EVENTS rises and the ceiling stops rising. -/
  | droop (low : Bool)
  /-- DROOP_FATAL (R320). The die voltage stays below 0.55 V for more than 1 µs, a Fatal error. -/
  | droopFatal (volts : Nat)
  /-- GOVERNOR_WINDOW (R321). Every 100 ns the governor estimates current and meters admission against the ceiling. -/
  | governorWindow (demand : Nat)
  /-- FORE_LEAD_EXPIRY (R323). FORE_LEAD, or the chained start, elapses and the ceiling ramps to demand. -/
  | foreLeadExpiry
  /-- FORE_RAMP_END (R323). The ramp ends and TIDE_FORE_N is deasserted. -/
  | foreRampEnd
  /-- SYNC_FRAME (R325). A chain frame arrives; it is forwarded, removed or dropped, and may move the device's own step. -/
  | syncFrame (f : ChainFrame)
  /-- SYNC_HEARTBEAT (R325). Position 0 sends a heartbeat frame every 100 µs. -/
  | syncHeartbeat
  /-- SYNC_BROKEN (R328). No frame arrives for 1 ms; SYNC_STATE reads BROKEN and an event is raised. -/
  | syncBroken
  /-- POWER_CONTROL_UPDATE (R329). Every 1 ms Tide computes power and adjusts the power cap. -/
  | powerControlUpdate
  /-- THERMAL_SAMPLE (R330). Every 100 µs TJ_MAX is sampled and throttle, Fatal error or trip is applied. -/
  | thermalSample (tj : Nat)
  /-- SLOT_PRESENCE (R331). Presence appears on an EMPTY slot, and it enters SEATING. -/
  | slotPresence (s : Fin 48)
  /-- SLOT_PRESENCE_LOST (R331). Presence is lost; the slot goes EMPTY and its quay is declared down. -/
  | slotPresenceLost (s : Fin 48)
  /-- SLOT_SEAT_EDGE (R331). An edge on SLOT_SEAT_N restarts the debounce, or removes power from a powered slot. -/
  | slotSeatEdge (s : Fin 48) (low : Bool)
  /-- SEAT_DEBOUNCE_END (R332). Seating and cool-down are over, and the slot goes to READY_OFF, DECIDING or WAIT_SUPPLY. -/
  | seatDebounceEnd (s : Fin 48)
  /-- SLOT_POWER_ON (R331). SLOT_POWER with argument 1 moves READY_OFF to WAIT_SUPPLY. -/
  | slotPowerOn (c : Call) (s : Fin 48)
  /-- SLOT_POWER_OFF (R331). SLOT_POWER with argument 0 asserts PERST, turns the gate off and holds the quay. -/
  | slotPowerOff (c : Call) (s : Fin 48)
  /-- SLOT_RAMP_START (R331). The supply is ON and the slot starts its ramp. -/
  | slotRampStart (s : Fin 48)
  /-- SLOT_POWER_GOOD (R335). After PG_SETTLE in the window the slot is POWERED with power-good. -/
  | slotPowerGood (s : Fin 48)
  /-- PERST_DELAY_EXPIRY (R335). PERST_DELAY after power-good, SLOT_PERST_N is deasserted. -/
  | perstDelayExpiry (s : Fin 48)
  /-- SLOT_CURRENT_LIMIT (R334). The current reaches CURRENT_LIMIT; the channel holds it and the fault timer runs. -/
  | slotCurrentLimit (s : Fin 48)
  /-- SLOT_CURRENT_RECOVER (R334). The current stays below the limit for 100 µs and the fault timer clears. -/
  | slotCurrentRecover (s : Fin 48)
  /-- FAULT_TIMER_EXPIRY (R334). The fault timer reaches FAULT_TIMER and the channel trips. -/
  | faultTimerExpiry (s : Fin 48)
  /-- SLOT_HARD_TRIP (R334). The current exceeds twice CURRENT_LIMIT and the channel trips within 1 µs. -/
  | slotHardTrip (s : Fin 48)
  /-- SLOT_COOLDOWN_END (R336). The 500 ms cool-down ends; a tripped slot goes to RETRY_WAIT or LATCHED_OFF. -/
  | slotCooldownEnd (s : Fin 48)
  /-- RETRY_DELAY_EXPIRY (R331). RETRY_DELAY from the trip ends and the slot retries from WAIT_SUPPLY. -/
  | retryDelayExpiry (s : Fin 48)
  /-- SLOT_RESET_FAULT (R331). The command moves a LATCHED_OFF slot to READY_OFF and clears its retry count. -/
  | slotResetFault (c : Call) (s : Fin 48) (v : Nat)
  /-- SLOT_INPUT_LOW (R337). The slot input falls below PWRWARN_LEVEL and SLOT_PWRWARN_N asserts. -/
  | slotInputLow (s : Fin 48)
  /-- BP_ENABLE_WRITE (R338). BP_ENABLE = 1 starts pre-charge; 0 opens both paths. -/
  | bpEnableWrite (c : Call) (b : Fin 2) (v : Nat)
  /-- BP_PRECHARGE_DONE (R338). The bus reaches its input within 2 V and the bypass closes; the channel reads ON. -/
  | bpPrechargeDone (b : Fin 2)
  /-- BP_PRECHARGE_EXPIRY (R338). BP_PRECHARGE_LIMIT expires; the channel opens and enters COOLDOWN. -/
  | bpPrechargeExpiry (b : Fin 2)
  /-- BP_COOLDOWN_END (R338). The 5 s cool-down ends; the channel reads FAULT and raises a Contained event. -/
  | bpCooldownEnd (b : Fin 2)
  /-- BP_OVERCURRENT (R338). Bypass current exceeds BP_CURRENT_LIMIT; the bypass opens and the channel reads FAULT. -/
  | bpOvercurrent (b : Fin 2)
  /-- BP_RESET_FAULT (R338). The command restarts pre-charge from FAULT. -/
  | bpResetFault (c : Call) (b : Fin 2) (v : Nat)
  /-- VAUX_GOOD (R370). VAUX reaches its good level and start-up from Off runs Table 13.1. -/
  | vauxGood (st : StartFacts)
  /-- VAUX_LOSS (R453). VAUX falls below 2.85 V; the device is Off and enables and gates are held off. -/
  | vauxLoss
  /-- SVN_COMMIT (R345). The command sets the SVN fuses to the running image's SVN. -/
  | svnCommit (c : Call) (v : Nat)
  /-- KEY_SLOT_REVOKE (R345). The command blows the revoke fuse of a key slot. -/
  | keySlotRevoke (c : Call) (v : Nat)
  /-- GET_VERSION (R351). The SPDM request is answered. -/
  | getVersion (b : Binding)
  /-- GET_CAPABILITIES (R351). The SPDM request is answered with the capabilities of Table 12.6. -/
  | getCapabilities (b : Binding)
  /-- NEGOTIATE_ALGORITHMS (R351). The SPDM request selects the algorithms. -/
  | negotiateAlgorithms (b : Binding) (offered : Nat)
  /-- GET_DIGESTS (R351). The SPDM request returns certificate chain digests. -/
  | getDigests (b : Binding)
  /-- GET_CERTIFICATE (R351). The SPDM request returns a certificate chain. -/
  | getCertificate (b : Binding) (slot : Nat)
  /-- CHALLENGE (R351). The SPDM request is answered with a signature by the Alias key. -/
  | challenge (b : Binding) (slot nonce : Nat)
  /-- GET_MEASUREMENTS (R351). The SPDM request returns the measurement blocks of Table 12.4. -/
  | getMeasurements (b : Binding) (index : Nat) (nonce : Nat)
  /-- KEY_EXCHANGE (R348). A mutually authenticated key exchange opens a session bound to the matching credential. -/
  | keyExchange (b : Binding) (k : KeyExchange)
  /-- PSK_EXCHANGE (R348). A PSK exchange opens a session bound to the credential named by its hint. -/
  | pskExchange (b : Binding) (hint : Nat) (proofOk : Bool)
  /-- END_SESSION (R298). The SPDM request ends the session. -/
  | endSession (slot : Nat)
  /-- KEY_UPDATE (R296). The SPDM request updates the session keys. -/
  | keyUpdate (slot : Nat)
  /-- SET_CERTIFICATE (R346). A Security Officer session installs certificate slot 1. -/
  | setCertificate (session slot : Nat) (chain : CertChain)
  /-- CREDENTIAL_WRITE (R349). A write of a credential entry ends any session bound to it after the response. -/
  | credentialWrite (c : Call) (k : Fin 64) (v : Nat)
  /-- KEY_PROG (R355). An IDE_KM key programming message loads a key set into a stream. -/
  | keyProg (q : Fin 128) (k : KeyProg)
  /-- K_SET_GO (R355). IDE_KM switches a stream to a key set. -/
  | kSetGo (q : Fin 128) (stream : Nat) (set : Fin 2) (go : Bool)
  /-- IDE_REKEY (R355). IDE_REKEY_INTERVAL expires and the device as requester moves the stream to the other key set. -/
  | ideRekey (q : Fin 128) (stream : Nat)
  /-- KEY_SET_RETIREMENT (R355). The retired key set is zeroised within 10 µs after its last flit is checked. -/
  | keySetRetirement (q : Fin 128) (stream : Nat)
  /-- IDE_REQUIRED_WRITE (R353). A write of IDE_REQUIRED controls whether the quay admits requests without a SECURE stream. -/
  | ideRequiredWrite (c : Call) (q : Fin 128) (v : Nat)
  /-- DRBG_RESEED (R356). The DRBG reseeds after 2²⁰ requests or 1 s. -/
  | drbgReseed
  /-- ENTROPY_HEALTH_WINDOW (R356). A continuous entropy test window ends, giving SOFT_ERROR or, at the third failure, HARD_ERROR. -/
  | entropyHealthWindow (ok : Bool)
  /-- PERIODIC_SELF_TEST (R356). Every 24 h the known-answer tests run again. -/
  | periodicSelfTest (fails : Nat)
  /-- SELF_TEST (R356). The command runs the self-tests and sets BW_STATE. -/
  | selfTest (c : Call) (v : Nat)
  /-- TAMPER (R358). A supply, temperature or clock tamper gives HARD_ERROR and zeroises volatile CSPs. -/
  | tamper (kinds : Fin 8)
  /-- HARD_ERROR_RESET (R380). 1 s after HARD_ERROR, Breakwater starts one recovery reset. -/
  | hardErrorReset (env : Env)
  /-- ZEROISE (R359). The command zeroises every CSP and credential after its response and ends every session. -/
  | zeroise (c : Call) (v : Nat)
  /-- LIFECYCLE_ARM (R360). The command arms a lifecycle transition to a target. -/
  | lifecycleArm (c : Call) (v : Nat)
  /-- LIFECYCLE_CONFIRM (R360). The command confirms an arming, then journals intent, erases, programs the fuses and starts a recovery reset. -/
  | lifecycleConfirm (c : Call) (v : Nat)
  /-- LIFECYCLE_ARMING_LAPSE (R360). An arming lapses after 10 s without confirmation. -/
  | lifecycleArmingLapse
  /-- DEBUG_AUTHORISE (R363). The command grants D1 at once, or makes D2 or D3 pending for the calling session. -/
  | debugAuthorise (c : Call) (v : Nat)
  /-- DEBUG_PENDING_LAPSE (R363). A pending D2 or D3 lapses 60 s after authorisation without an accepted ENTER_DRYDOCK. -/
  | debugPendingLapse
  /-- DEBUG_REVOKE (R364). The command ends the caller's authorisation and those at the levels its role may authorise. -/
  | debugRevoke (c : Call) (v : Nat)
  /-- ERROR_REPORT (R385). An error reaches the collector; it takes the latch and waits in a window or acts, or only counts. -/
  | errorReport (e : Option ErrIn)
  /-- CLASS_ACK (R387). The command clears a LATCHED class when its count matches the argument. -/
  | classAck (c : Call) (cls : Fin 3) (v : Nat)
  /-- STALL_DETECT (R394). A unit completes no handshake for INTERNAL_TIMEOUT while a unit waits to enter, and a stall is raised. -/
  | stallDetect (u : UnitRef)
  /-- FENCED_REQUEST_TIMEOUT (R395). INTERNAL_TIMEOUT after a fence, each open request ends with a synthesised answer. -/
  | fencedRequestTimeout (u : UnitRef)
  /-- FENCE_UNIT (R400). The command fences a slice, engine or core as a hardware action does. -/
  | fenceUnit (c : Call) (v : Nat)
  /-- FENCE_REHASH_DONE (R396). The fenced slice's slots are given away, its dirty mirror is written poisoned, and held requests are released. -/
  | fenceRehashDone (s : Fin 16)
  /-- FENCE_CLEAR (R400). The command marks a fenced unit for return at the next reset or start. -/
  | fenceClear (c : Call) (v : Nat)
  /-- SOURCE_CLEAR (R384). The command clears the error count of one source or all sources. -/
  | sourceClear (c : Call) (v : Nat)
  /-- SALVAGE_FLUSH_END (R402). The Salvage write-back ends and SALVAGE_FLUSH_STATE reads COMPLETE or INCOMPLETE. -/
  | salvageFlushEnd (lost : Nat)
  /-- BUS_TRANSFER (R409). The bridge starts the next waiting transfer on a bus by priority. -/
  | busTransfer (b : Fin 50)
  /-- FAR_TRANSFER_DONE (R409). A far transfer ends with a far-side code. -/
  | farTransferDone (b : Fin 50) (code : Nat) (data : Nat)
  /-- CLOCK_TIMEOUT (R409). A target holds the clock low for more than 25 ms and the transfer fails. -/
  | clockTimeout (b : Fin 50)
  /-- BUS_CLEAR (R410). Data held low at START is cleared with nine clocks; a bus still stuck reads STUCK and is retried every 100 ms. -/
  | busClear (b : Fin 50) (ok : Bool)
  /-- SIGNAL_POLL (R411). Every POLL_PERIOD the bridge samples presence, seating and alert and reports accepted changes. -/
  | signalPoll (b : Fin 50) (sample : Fin 8)
  /-- WINDOW_DATA_READ (R419). A host data read acts on the window's read slot under Table 15.4. -/
  | windowDataRead (w : Fin 128) (a : WinRead)
  /-- WINDOW_DATA_WRITE (R416). A host data write is queued and cut into far pieces, or dropped. -/
  | windowDataWrite (w : Fin 128) (a : WinWrite)
  /-- WR_ERROR_CLEAR (R418). Writing 1 to WR_ERROR clears it on a non-posted window. -/
  | wrErrorClear (w : Fin 128)
  /-- WIN_HOLD_EXPIRY (R420). A read held for WIN_HOLD completes with 0xFF bytes and the slot stays PENDING. -/
  | winHoldExpiry (w : Fin 128)
  /-- DISCARD_TIMER_EXPIRY (R421). An uncollected READY or FAILED read is logged, reported and the slot becomes IDLE. -/
  | discardTimerExpiry (w : Fin 128)
  /-- WIN_ENABLE_WRITE (R424). WIN_ENABLE = 0 drops queued writes and logs the read slot. -/
  | winEnableWrite (c : Call) (w : Fin 128) (v : Nat)
  /-- SENSOR_READ (R426). Every SENSOR_PERIOD a sensor reads its device, converts the value and checks its limits. -/
  | sensorRead (n : Fin 64) (code data : Nat)
  /-- VOUT_MODE_READ (R425). Every 1 s a LINEAR16 sensor reads VOUT_MODE again. -/
  | voutModeRead (n : Fin 64) (code data : Nat)
  /-- CTR_VALUE_WRITE (R432). A write sets a counter value, with any concurrent increment added. -/
  | ctrValueWrite (c : Call) (u : CtrUnit) (k : Fin 8) (v : Nat)
  /-- CTR_OVERFLOW_CLEAR (R432). Writing 1 clears an overflow bit, ordered against a concurrent wrap. -/
  | ctrOverflowClear (c : Call) (u : CtrUnit) (v : Nat)
  /-- COUNTER_CONFIG_WRITE (R433). A write to CTR_CONFIG, CTR_FILTER or COUNT_ENABLE reaches its counters within 500 ns. -/
  | counterConfigWrite (c : Call) (w : CtrConfig) (v : Nat)
  /-- BW_WINDOW_END (R434). A bandwidth window ends and BW_RX and BW_TX are updated. -/
  | bwWindowEnd (q : Fin 128)
  /-- BW_WINDOW_WRITE (R434). A write discards the window in progress and restarts at the next multiple. -/
  | bwWindowWrite (c : Call) (q : Fin 128) (v : Nat)
  /-- INIT_CLEAR (R436). The command clears an initiator's statistics. -/
  | initClear (c : Call) (i : Fin 40) (v : Nat)
  /-- TELEMETRY_PERIOD (R437). At each TLM_PERIOD the device builds device, quay and slice records. -/
  | telemetryPeriod
  /-- TRACE_START (R440). The command clears the trace buffer and drops and starts recording. -/
  | traceStart (c : Call) (v : Nat)
  /-- TRACE_STOP (R440). The command stops trace. -/
  | traceStop (c : Call) (v : Nat)
  /-- EXTEST (R441). The instruction drives the boundary cells where allowed; quays are HELD. -/
  | extest
  /-- SAMPLE_PRELOAD (R441). The instruction samples or preloads the boundary register. -/
  | samplePreload (v : Nat)
  /-- IDCODE (R441). The instruction selects the 32-bit device ID. -/
  | idcode
  /-- CLAMP (R441). The instruction holds the boundary outputs and selects bypass where allowed. -/
  | clamp
  /-- HIGHZ (R441). The instruction floats the outputs where allowed. -/
  | highz
  /-- EXTEST_PULSE (R441). The IEEE 1149.6 pulse test runs where allowed. -/
  | extestPulse
  /-- EXTEST_TRAIN (R441). The IEEE 1149.6 train test runs where allowed. -/
  | extestTrain
  /-- DEBUG_ACCESS (R442). A 96-bit debug register access reads or writes a domain register, or is DENIED. -/
  | debugAccess (a : Nat)
  /-- BYPASS (R441). The instruction selects the bypass register. -/
  | bypass
  /-- TAP_RESET (R441). Test-Logic-Reset returns the balls to their functions and loads IDCODE. -/
  | tapReset
  /-- TG_START (R443). The command starts a Drydock traffic generator. -/
  | tgStart (c : Call) (g : Fin 4) (v : Nat)
  /-- TG_STOP (R443). The command stops a traffic generator to IDLE. -/
  | tgStop (c : Call) (g : Fin 4) (v : Nat)
  /-- TG_REQUEST_RESULT (R443). A generated request completes, and errors are counted and may stop the generator. -/
  | tgRequestResult (g : Fin 4) (r : TgResult)
  /-- PRBS_PATTERN_WRITE (R444). A write starts or stops PRBS on a quay and restarts the error counts. -/
  | prbsPatternWrite (c : Call) (v : Nat)
  /-- LANE_LOCK_LOSS (R66). One lane of a quay in L0 loses symbol or block lock while the other lanes hold theirs, which starts the 10 µs failure timer. -/
  | laneLockLoss (q : Fin 128) (lane : Fin 16)
  /-- LANE_LOCK_REGAIN (R66). A lane that lost lock regains symbol or block lock before 10 µs have passed, and it is not declared failed. -/
  | laneLockRegain (q : Fin 128) (lane : Fin 16)
  /-- REFCLK_FIRST_ARRIVAL (R59). A valid reference first arrives at a tile whose REFCLK_STATUS reads NOT_STARTED, and the tile's wharves start. -/
  | refclkFirstArrival (t : Fin 8)
  /-- ENUMERATION_DONE (R183). The Harbourmaster completes enumeration of a Downstream partner: the memory device becomes READY and the built-in management regions are set up. -/
  | enumerationDone (q : Fin 128)
  /-- ETH_LINK_CHANGE (R315). A management Ethernet port's link comes up or goes down, and ETH_LINK_STATE reads UP or DOWN. -/
  | ethLinkChange (p : Fin 2) (up : Bool)
  /-- IN_BAND_INTERRUPT (R408). An I3C in-band interrupt arrives on a slot bus in I3C mode and is treated as an alert: the address is taken and ALERT_LAST is written. -/
  | inBandInterrupt (b : Fin 50) (addr : Nat)
  deriving DecidableEq, Repr

end Sys2Proof
end

