-- ==== Sys2Proof/Decode.lean ====
section
/-!
DEFINITION. The command that a word spells. The table of operations and events gives no row any bits: commands reach the block
as operations and events, not as words.
-/

namespace Sys2Proof

/-- No row has bits, so no word spells a command. -/
def decodeTableWord (_nbits _w : Nat) : Option Instr := none

end Sys2Proof
end

