-- ==== Sys2Proof/Machine/Bits.lean ====
section
/-!
DEFINITION. Bit fields, bytes, two's complement, saturating counts and the operations of sparse tables.
-/

namespace Sys2Proof.Machine

open Sys2Proof

/-- The field of `w` bits from bit `lo` of `v`. -/
def bits (v lo w : Nat) : Nat := v / 2 ^ lo % 2 ^ w

/-- Bit `i` of `v`. -/
def bitAt (v i : Nat) : Bool := v / 2 ^ i % 2 == 1

/-- `v` with the field of `w` bits from bit `lo` replaced by `x`. -/
def setBits (v lo w x : Nat) : Nat := v - bits v lo w * 2 ^ lo + x % 2 ^ w * 2 ^ lo

/-- `v` with bit `i` set to `b`. -/
def setBit (v i : Nat) (b : Bool) : Nat := setBits v i 1 (if b then 1 else 0)

/-- Byte `i` of a value held little-endian (R286). -/
def byteAt (v i : Nat) : Nat := bits v (8 * i) 8

/-- Bytes `i` to `i + n - 1` of a value held little-endian. -/
def bytesAt (v i n : Nat) : Nat := bits v (8 * i) (8 * n)

/-- A bit as a number. -/
def b2n (b : Bool) : Nat := if b then 1 else 0

/-- The bits of a mask below `n`, in increasing order. -/
def maskBits (v n : Nat) : List Nat := (List.range n).filter (bitAt v)

/-- The number of set bits below `n`. -/
def popCount (v n : Nat) : Nat := (maskBits v n).length

/-- The signed value of a `w`-bit two's complement code (R286). -/
def toSigned (w v : Nat) : Int := if 2 ^ (w - 1) ≤ v % 2 ^ w then (v % 2 ^ w : Int) - 2 ^ w else (v % 2 ^ w : Int)

/-- The `w`-bit two's complement code of a number. -/
def ofSigned (w : Nat) (i : Int) : Nat := (i % (2 ^ w : Nat)).toNat

/-- A count of `w` bits that saturates at its maximum (R78, R134, R446). -/
def satAdd (w v n : Nat) : Nat := min (v + n) (2 ^ w - 1)

/-- The largest of a list of numbers, at least `m`. -/
def listMax (m : Nat) (l : List Nat) : Nat := l.foldl max m

/-- The entry of a sparse table: the listed one, or what an unlisted key reads as. -/
def Tab.get {α : Type} (dflt : α) (t : Tab α) (k : Nat) : α :=
  match t with
  | [] => dflt
  | (k', v) :: rest => if k' = k then v else Tab.get dflt rest k

/-- A table without the entry of a key. -/
def Tab.drop {α : Type} (t : Tab α) (k : Nat) : Tab α := t.filter (fun p => p.1 != k)

/-- A table with an entry put in its place by key. -/
def Tab.insert {α : Type} (t : Tab α) (k : Nat) (v : α) : Tab α :=
  match t with
  | [] => [(k, v)]
  | (k', v') :: rest => if k < k' then (k, v) :: (k', v') :: rest else (k', v') :: Tab.insert rest k v

/-- A write to a sparse table: an entry equal to what an unlisted key reads as is not listed. -/
def Tab.set {α : Type} [DecidableEq α] (dflt : α) (t : Tab α) (k : Nat) (v : α) : Tab α :=
  if v = dflt then Tab.drop t k else Tab.insert (Tab.drop t k) k v

/-- The keys listed, in increasing order. -/
def Tab.keys {α : Type} (t : Tab α) : List Nat := t.map (·.1)

/-- The canonical form: keys strictly rising, no entry equal to what an unlisted key reads as. -/
def Tab.wf {α : Type} [DecidableEq α] (dflt : Nat → α) : Tab α → Bool
  | [] => true
  | (k, v) :: rest => decide (v ≠ dflt k) && rest.all (fun p => decide (k < p.1)) && Tab.wf dflt rest

end Sys2Proof.Machine
end

