-- ==== Sys2Proof/Machine/Objects.lean ====
section
/-!
DEFINITION. The object dictionary (the Manifest): one row for each entry of the object tables of spec/02 to
spec/16 (R45, R77, R133, R174, R222, R260, R284, R315, R339, R367, R406, R428, R446), with its type, access code,
write role, persistence class, default and range (R286 to R291, R468), and a name for each object's key.
A key is 256 times the index plus the sub-index.
-/

namespace Sys2Proof.Machine

open Sys2Proof

/-- `n` bytes, the first in the lowest place (R286: multi-byte values are little-endian). -/
def packBytes : List Nat → Nat
  | [] => 0
  | b :: bs => b % 256 + 256 * packBytes bs

/-- The default of HOME_MAP and ENGINE_MAP (R138, R226): slot i belongs to unit i mod 16; on the W384 the slots of
the absent units 12 to 15 are given away in turn (the k-th slot given away goes to survivor k mod 12). -/
def homeMapDefault (p : Part) : Nat :=
  packBytes ((List.range 256).map fun i =>
    if p = .w384 ∧ 12 ≤ i % 16 then ((i / 16) * 4 + (i % 16 - 12)) % 12 else i % 16)

/-- Table 10.1 type codes. -/
inductive Ty where
  | bool | u8 | u16 | u32 | u64 | i16 | i32 | q16 | enum8 | bits32 | octets | string | time64 | cmd
  deriving DecidableEq, Repr

/-- Table 10.1: the code of a type. -/
def tyCode : Ty → Nat
  | .bool => 0 | .u8 => 1 | .u16 => 2 | .u32 => 3 | .u64 => 4 | .i16 => 5 | .i32 => 6 | .q16 => 7
  | .enum8 => 8 | .bits32 => 9 | .octets => 10 | .string => 11 | .time64 => 12 | .cmd => 13

/-- Table 10.2 access codes. -/
inductive Acc where
  | r | rw | w | rw1c | cmd
  deriving DecidableEq, Repr

/-- Table 10.2: the code of an access. -/
def accCode : Acc → Nat
  | .r => 0 | .rw => 1 | .w => 2 | .rw1c => 3 | .cmd => 4

/-- Table 10.4 persistence classes: volatile, persistent, persistent-on-commit. -/
inductive Pers where
  | vol | per | poc
  deriving DecidableEq, Repr

/-- Table 10.4: the code of a persistence class. -/
def persCode : Pers → Nat
  | .vol => 0 | .per => 1 | .poc => 2

/-- The legal values of an object as its table states them (R5, R287): any; an interval; a set of codes; a multiple
inside an interval; or a field map whose other bits are reserved and ignored. -/
inductive Rng where
  | any
  | le (lo hi : Nat)
  | codes (l : List Nat)
  | mult (m lo hi : Nat)
  | bits (mask : Nat)
  deriving DecidableEq, Repr

/-- R287: a value inside the range. Reserved bits of a field map are ignored (R5). -/
def Rng.ok : Rng → Nat → Bool
  | .any, _ => true
  | .le lo hi, v => decide (lo ≤ v) && decide (v ≤ hi)
  | .codes l, v => l.contains v
  | .mult m lo hi, v => decide (lo ≤ v) && decide (v ≤ hi) && decide (v % m = 0)
  | .bits _, _ => true

/-- R5: what is stored of a value: a reserved field keeps reading 0. -/
def Rng.stored : Rng → Nat → Nat
  | .bits mask, v => Nat.land v mask
  | _, v => v

/-- One row of an object table: a family of `idxN` indices (`idxStep` apart) and `subN` sub-indices. `dflt` and `rng`
take the part, the place in the index family and the place in the sub-index family. -/
structure Row where
  idx : Nat
  idxN : Nat
  idxStep : Nat
  sub : Nat
  subN : Nat
  name : String
  ty : Ty
  size : Nat
  acc : Acc
  role : Nat
  pers : Pers
  dflt : Part → Nat → Nat → Nat
  rng : Part → Nat → Nat → Rng

/-- The objects of 0x1000 to 0x1FFF. -/
def rows1_0 : List Row := [
  ⟨0x1000, 1, 1, 0x01, 1, "PART", .enum8, 1, .r, 0, .per, (fun p _ _ => if p = .w384 then 1 else 0), (fun _ _ _ => .any)⟩,
  ⟨0x1000, 1, 1, 0x02, 1, "VENDOR_ID", .u16, 2, .r, 0, .per, (fun _ _ _ => 8058), (fun _ _ _ => .any)⟩,
  ⟨0x1000, 1, 1, 0x03, 1, "DEVICE_ID", .u16, 2, .r, 0, .per, (fun p _ _ => if p = .w384 then 0x384 else 0x512), (fun _ _ _ => .any)⟩,
  ⟨0x1000, 1, 1, 0x04, 1, "SILICON_REVISION", .u8, 1, .r, 0, .per, (fun _ _ _ => Config.siliconRevision), (fun _ _ _ => .any)⟩,
  ⟨0x1000, 1, 1, 0x05, 1, "SERIAL_NUMBER", .string, 16, .r, 0, .per, (fun _ _ _ => Config.serialNumber), (fun _ _ _ => .any)⟩,
  ⟨0x1000, 1, 1, 0x06, 1, "FIRMWARE_VERSION", .string, 32, .r, 0, .vol, (fun _ _ _ => 0), (fun _ _ _ => .any)⟩,
  ⟨0x1000, 1, 1, 0x07, 1, "FIRMWARE_SLOT", .enum8, 1, .r, 0, .vol, (fun _ _ _ => 0), (fun _ _ _ => .any)⟩,
  ⟨0x1000, 1, 1, 0x08, 1, "MANIFEST_VERSION", .u16, 2, .r, 0, .vol, (fun _ _ _ => 256), (fun _ _ _ => .any)⟩,
  ⟨0x1000, 1, 1, 0x09, 1, "OBJECT_COUNT", .u16, 2, .r, 0, .vol, (fun _ _ _ => 0), (fun _ _ _ => .any)⟩,
  ⟨0x1010, 1, 1, 0x01, 1, "SESSION_COUNT", .u8, 1, .r, 0, .vol, (fun _ _ _ => 0), (fun _ _ _ => .any)⟩,
  ⟨0x1010, 1, 1, 0x02, 1, "SESSIONS_FREE", .u8, 1, .r, 0, .vol, (fun _ _ _ => 16), (fun _ _ _ => .any)⟩,
  ⟨0x1010, 1, 1, 0x03, 1, "HEARTBEAT_PERIOD", .u8, 1, .rw, 3, .per, (fun _ _ _ => 10), (fun _ _ _ => .le 1 255)⟩,
  ⟨0x1011, 1, 1, 0x00, 1, "MY_SESSION", .u8, 1, .r, 0, .vol, (fun _ _ _ => 0), (fun _ _ _ => .any)⟩,
  ⟨0x1011, 1, 1, 0x01, 16, "SESSION_VIEW", .octets, 32, .r, 0, .vol, (fun _ _ _ => 0), (fun _ _ _ => .any)⟩,
  ⟨0x1012, 1, 1, 0x01, 1, "SESSION_CLOSE", .cmd, 1, .cmd, 3, .vol, (fun _ _ _ => 0), (fun _ _ _ => .le 1 16)⟩,
  ⟨0x1020, 1, 1, 0x01, 1, "FABRIC_ID", .u16, 2, .rw, 2, .per, (fun _ _ _ => 0), (fun _ _ _ => .le 0 2047)⟩]

/-- More objects of 0x1000. -/
def rows1_1 : List Row := [
  ⟨0x1020, 1, 1, 0x02, 1, "DEVICE_LABEL", .string, 32, .rw, 1, .per, (fun _ _ _ => 0), (fun _ _ _ => .any)⟩,
  ⟨0x1030, 1, 1, 0x01, 1, "COMMIT_SEQ", .u64, 8, .r, 0, .per, (fun _ _ _ => 1), (fun _ _ _ => .any)⟩,
  ⟨0x1030, 1, 1, 0x02, 1, "STORE", .cmd, 0, .cmd, 2, .vol, (fun _ _ _ => 0), (fun _ _ _ => .any)⟩,
  ⟨0x1030, 1, 1, 0x03, 1, "UNSTORED_COUNT", .u16, 2, .r, 0, .vol, (fun _ _ _ => 0), (fun _ _ _ => .any)⟩,
  ⟨0x1030, 1, 1, 0x04, 1, "RESTORE_DEFAULTS", .cmd, 0, .cmd, 3, .vol, (fun _ _ _ => 0), (fun _ _ _ => .any)⟩,
  ⟨0x1030, 1, 1, 0x05, 1, "JOURNAL_WEAR", .u8, 1, .r, 0, .per, (fun _ _ _ => 0), (fun _ _ _ => .any)⟩,
  ⟨0x1030, 1, 1, 0x06, 1, "RESTORE_ERRORS", .u32, 4, .rw1c, 1, .vol, (fun _ _ _ => 0), (fun _ _ _ => .any)⟩,
  ⟨0x1040, 1, 1, 0x01, 1, "ZMP_UDP_PORT", .u16, 2, .rw, 3, .per, (fun _ _ _ => 47720), (fun _ _ _ => .le 1024 65535)⟩,
  ⟨0x1040, 1, 1, 0x02, 5, "TRANSPORT_ROLE_CAP", .enum8, 1, .rw, 3, .per, (fun _ _ j => [3, 3, 2, 2, 1].getD j 0), (fun _ _ _ => .le 0 4)⟩,
  ⟨0x1040, 1, 1, 0x09, 1, "FRAME_ERRORS", .u32, 4, .rw1c, 1, .vol, (fun _ _ _ => 0), (fun _ _ _ => .any)⟩,
  ⟨0x1041, 1, 1, 0x01, 1, "I3C_STATIC_ADDRESS", .u8, 1, .rw, 2, .per, (fun _ _ _ => 58), (fun _ _ _ => .le 8 119)⟩,
  ⟨0x1041, 1, 1, 0x02, 1, "SMBUS_ADDRESS", .u8, 1, .rw, 2, .per, (fun _ _ _ => 92), (fun _ _ _ => .le 8 119)⟩,
  ⟨0x1042, 2, 1, 0x01, 1, "ETH_ENABLE", .bool, 1, .rw, 3, .per, (fun _ _ _ => 1), (fun _ _ _ => .le 0 1)⟩,
  ⟨0x1042, 2, 1, 0x02, 1, "ETH_DHCP", .bool, 1, .rw, 2, .per, (fun _ _ _ => 1), (fun _ _ _ => .le 0 1)⟩,
  ⟨0x1042, 2, 1, 0x03, 1, "ETH_IPV4_ADDRESS", .u32, 4, .rw, 2, .per, (fun _ _ _ => 0), (fun _ _ _ => .any)⟩,
  ⟨0x1042, 2, 1, 0x04, 1, "ETH_IPV4_MASK", .u32, 4, .rw, 2, .per, (fun _ _ _ => 4294967040), (fun _ _ _ => .any)⟩]

/-- More objects of 0x1000. -/
def rows1_2 : List Row := [
  ⟨0x1042, 2, 1, 0x05, 1, "ETH_IPV4_GATEWAY", .u32, 4, .rw, 2, .per, (fun _ _ _ => 0), (fun _ _ _ => .any)⟩,
  ⟨0x1042, 2, 1, 0x06, 1, "ETH_MAC_ADDRESS", .octets, 6, .r, 0, .per, (fun _ i _ => Config.macAddress i), (fun _ _ _ => .any)⟩,
  ⟨0x1042, 2, 1, 0x07, 1, "ETH_LINK_STATE", .enum8, 1, .r, 0, .vol, (fun _ _ _ => 0), (fun _ _ _ => .any)⟩,
  ⟨0x1050, 1, 1, 0x01, 13, "GROUP_MASTER", .u8, 1, .r, 0, .per, (fun _ _ _ => 255), (fun _ _ _ => .any)⟩,
  ⟨0x1051, 1, 1, 0x01, 1, "GROUP_CLAIM", .cmd, 1, .cmd, 1, .vol, (fun _ _ _ => 0), (fun _ _ _ => .le 1 13)⟩,
  ⟨0x1051, 1, 1, 0x02, 1, "GROUP_RELEASE", .cmd, 1, .cmd, 1, .vol, (fun _ _ _ => 0), (fun _ _ _ => .le 1 13)⟩,
  ⟨0x1060, 1, 1, 0x01, 1, "EVENT_SEQ", .u64, 8, .r, 0, .vol, (fun _ _ _ => 0), (fun _ _ _ => .any)⟩,
  ⟨0x1060, 1, 1, 0x02, 1, "EVENT_RETRY", .u32, 4, .rw, 1, .per, (fun _ _ _ => 100), (fun _ _ _ => .le 10 10000)⟩,
  ⟨0x1060, 1, 1, 0x03, 1, "EVENT_MASK", .bits32, 4, .rw, 0, .vol, (fun _ _ _ => 15), (fun _ _ _ => .bits 0xF)⟩,
  ⟨0x1060, 1, 1, 0x04, 1, "EVENT_LOG_SELECT", .u64, 8, .rw, 0, .vol, (fun _ _ _ => 0), (fun _ _ _ => .any)⟩,
  ⟨0x1060, 1, 1, 0x05, 1, "EVENT_LOG", .octets, 64, .r, 0, .vol, (fun _ _ _ => 0), (fun _ _ _ => .any)⟩,
  ⟨0x1070, 1, 1, 0x01, 1, "TIME_SOURCE", .enum8, 1, .rw, 2, .per, (fun _ _ _ => 3), (fun _ _ _ => .le 0 4)⟩,
  ⟨0x1070, 1, 1, 0x02, 1, "TIME_PTM_QUAY", .u8, 1, .rw, 2, .per, (fun _ _ _ => 0), (fun p _ _ => if p = .w384 then .le 0 95 else .le 0 127)⟩,
  ⟨0x1070, 1, 1, 0x03, 1, "PTP_DOMAIN", .u8, 1, .rw, 2, .per, (fun _ _ _ => 0), (fun _ _ _ => .le 0 127)⟩,
  ⟨0x1070, 1, 1, 0x04, 1, "TIME_STATE", .enum8, 1, .r, 0, .vol, (fun _ _ _ => 0), (fun _ _ _ => .any)⟩,
  ⟨0x1070, 1, 1, 0x05, 1, "TIME_OFFSET", .i32, 4, .r, 0, .vol, (fun _ _ _ => 0), (fun _ _ _ => .any)⟩]

/-- More objects of 0x1000. -/
def rows1_3 : List Row := [
  ⟨0x1070, 1, 1, 0x06, 1, "FABRIC_TIME", .time64, 8, .r, 0, .vol, (fun _ _ _ => 0), (fun _ _ _ => .any)⟩,
  ⟨0x1070, 1, 1, 0x07, 1, "TIME_STEP_COUNT", .u32, 4, .rw1c, 1, .vol, (fun _ _ _ => 0), (fun _ _ _ => .any)⟩,
  ⟨0x1080, 1, 1, 0x01, 1, "FMAPI_ENABLE", .bool, 1, .rw, 3, .per, (fun _ _ _ => 0), (fun _ _ _ => .le 0 1)⟩,
  ⟨0x1080, 1, 1, 0x02, 1, "FMAPI_ROLE", .enum8, 1, .rw, 3, .per, (fun _ _ _ => 2), (fun _ _ _ => .le 1 2)⟩,
  ⟨0x1080, 1, 1, 0x03, 1, "PLDM_UPDATE_ENABLE", .bool, 1, .rw, 3, .per, (fun _ _ _ => 1), (fun _ _ _ => .le 0 1)⟩]

/-- The objects of 0x2000 to 0x2FFF. -/
def rows2_0 : List Row := [
  ⟨0x2000, 1, 1, 0x01, 1, "HOST_QUAY_COUNT", .u8, 1, .r, 0, .vol, (fun _ _ _ => 0), (fun _ _ _ => .any)⟩,
  ⟨0x2000, 1, 1, 0x02, 1, "ACTIVE_QUAY_COUNT", .u8, 1, .r, 0, .vol, (fun _ _ _ => 0), (fun _ _ _ => .any)⟩,
  ⟨0x2001, 1, 1, 0x01, 8, "REFCLK_STATUS", .enum8, 1, .r, 0, .vol, (fun _ _ _ => 0), (fun _ _ _ => .any)⟩,
  ⟨0x2002, 1, 1, 0x01, 8, "REFCLK_LOSS_COUNT", .u32, 4, .rw1c, 1, .vol, (fun _ _ _ => 0), (fun _ _ _ => .any)⟩,
  ⟨0x2010, 32, 1, 0x01, 1, "BIFURCATION", .enum8, 1, .rw, 2, .per, (fun _ _ _ => 0), (fun _ _ _ => .le 0 4)⟩,
  ⟨0x2010, 32, 1, 0x02, 1, "WHARF_STATE", .enum8, 1, .r, 0, .vol, (fun _ _ _ => 0), (fun _ _ _ => .any)⟩,
  ⟨0x2010, 32, 1, 0x03, 1, "PLL_RELOCK_COUNT", .u32, 4, .rw1c, 1, .vol, (fun _ _ _ => 0), (fun _ _ _ => .any)⟩,
  ⟨0x2100, 128, 1, 0x01, 1, "QUAY_STATE", .enum8, 1, .r, 0, .vol, (fun _ _ _ => 0), (fun _ _ _ => .any)⟩,
  ⟨0x2100, 128, 1, 0x02, 1, "ROLE", .enum8, 1, .rw, 2, .per, (fun _ _ _ => 0), (fun _ _ _ => .le 0 3)⟩,
  ⟨0x2100, 128, 1, 0x03, 1, "NARROW", .enum8, 1, .rw, 2, .per, (fun _ _ _ => 0), (fun _ _ _ => .le 0 2)⟩,
  ⟨0x2100, 128, 1, 0x04, 1, "CONFIG_WIDTH", .u8, 1, .r, 0, .vol, (fun _ _ _ => 0), (fun _ _ _ => .any)⟩,
  ⟨0x2100, 128, 1, 0x05, 1, "MAX_RATE", .enum8, 1, .rw, 2, .per, (fun _ _ _ => 6), (fun _ _ _ => .le 0 6)⟩,
  ⟨0x2100, 128, 1, 0x06, 1, "CURRENT_RATE", .enum8, 1, .r, 0, .vol, (fun _ _ _ => 7), (fun _ _ _ => .any)⟩,
  ⟨0x2100, 128, 1, 0x07, 1, "CURRENT_WIDTH", .u8, 1, .r, 0, .vol, (fun _ _ _ => 0), (fun _ _ _ => .any)⟩,
  ⟨0x2100, 128, 1, 0x08, 1, "CLOCKING", .enum8, 1, .rw, 2, .per, (fun _ _ _ => 0), (fun _ _ _ => .le 0 1)⟩,
  ⟨0x2100, 128, 1, 0x09, 1, "PROTOCOL", .enum8, 1, .r, 0, .vol, (fun _ _ _ => 0), (fun _ _ _ => .any)⟩]

/-- More objects of 0x2000. -/
def rows2_1 : List Row := [
  ⟨0x2100, 128, 1, 0x0A, 1, "CXL_OFFER", .bits32, 4, .rw, 2, .per, (fun _ _ _ => 0x1F), (fun _ _ _ => .bits 0x3F)⟩,
  ⟨0x2100, 128, 1, 0x0B, 1, "MIN_WIDTH", .u8, 1, .rw, 2, .per, (fun _ _ _ => 1), (fun _ _ _ => .codes [1, 2, 4, 8, 16])⟩,
  ⟨0x2100, 128, 1, 0x0C, 1, "FAILED_LANES", .bits32, 4, .r, 0, .vol, (fun _ _ _ => 0), (fun _ _ _ => .any)⟩,
  ⟨0x2100, 128, 1, 0x0D, 1, "WIDTH_REQUEST", .cmd, 1, .cmd, 1, .vol, (fun _ _ _ => 0), (fun _ _ _ => .codes [1, 2, 4, 8, 16])⟩,
  ⟨0x2100, 128, 1, 0x0E, 1, "WIDTH_REQUEST_STATUS", .enum8, 1, .r, 0, .vol, (fun _ _ _ => 0), (fun _ _ _ => .any)⟩,
  ⟨0x2100, 128, 1, 0x0F, 1, "RESTORE_WIDTH", .cmd, 0, .cmd, 1, .vol, (fun _ _ _ => 0), (fun _ _ _ => .any)⟩,
  ⟨0x2100, 128, 1, 0x10, 1, "WIDTH_COLLISIONS", .u32, 4, .rw1c, 1, .vol, (fun _ _ _ => 0), (fun _ _ _ => .any)⟩,
  ⟨0x2100, 128, 1, 0x11, 1, "L1_ENABLE", .bool, 1, .rw, 1, .per, (fun _ _ _ => 1), (fun _ _ _ => .le 0 1)⟩,
  ⟨0x2100, 128, 1, 0x12, 1, "L0P_ENABLE", .bool, 1, .rw, 1, .per, (fun _ _ _ => 1), (fun _ _ _ => .le 0 1)⟩,
  ⟨0x2100, 128, 1, 0x13, 1, "EI_EXIT_BURST", .u8, 1, .rw, 2, .per, (fun _ _ _ => 16), (fun _ _ _ => .le 4 64)⟩,
  ⟨0x2100, 128, 1, 0x14, 1, "FOM_WARN_LEVEL", .u8, 1, .rw, 1, .per, (fun _ _ _ => 112), (fun _ _ _ => .le 0 255)⟩,
  ⟨0x2100, 128, 1, 0x15, 1, "FOM_FAIL_LEVEL", .u8, 1, .rw, 1, .per, (fun _ _ _ => 64), (fun _ _ _ => .le 0 255)⟩,
  ⟨0x2100, 128, 1, 0x16, 1, "LANE_REVERSED", .bool, 1, .r, 0, .vol, (fun _ _ _ => 0), (fun _ _ _ => .any)⟩,
  ⟨0x2100, 128, 1, 0x17, 1, "DEGRADE_COUNT", .u32, 4, .rw1c, 1, .vol, (fun _ _ _ => 0), (fun _ _ _ => .any)⟩,
  ⟨0x2100, 128, 1, 0x20, 16, "LANE_FOM", .u8, 1, .r, 0, .vol, (fun _ _ _ => 0), (fun _ _ _ => .any)⟩]

/-- The objects of 0x3000 to 0x3FFF. -/
def rows3_0 : List Row := [
  ⟨0x3000, 1, 1, 0x01, 1, "POOL_CELLS", .u32, 4, .r, 0, .vol, (fun _ _ _ => 786432), (fun _ _ _ => .any)⟩,
  ⟨0x3000, 1, 1, 0x02, 1, "SHARED_FREE", .u32, 4, .r, 0, .vol, (fun p _ _ => if p = .w384 then 536576 else 454656), (fun _ _ _ => .any)⟩,
  ⟨0x3000, 1, 1, 0x03, 1, "RESPONSE_FLOOR", .u32, 4, .r, 0, .vol, (fun _ _ _ => 16384), (fun _ _ _ => .any)⟩,
  ⟨0x3000, 1, 1, 0x04, 1, "OUTPUT_SHARED_CAP", .u32, 4, .r, 0, .vol, (fun _ _ _ => 28416), (fun _ _ _ => .any)⟩,
  ⟨0x3000, 1, 1, 0x05, 1, "SHAPER_REFILL", .u32, 4, .rw, 2, .per, (fun _ _ _ => 1000), (fun _ _ _ => .le 100 100000)⟩,
  ⟨0x3000, 1, 1, 0x06, 1, "SAMPLE_INTERVAL", .u32, 4, .rw, 1, .per, (fun _ _ _ => 10), (fun _ _ _ => .le 1 1000000)⟩,
  ⟨0x3000, 1, 1, 0x07, 1, "FLUSH_SYNTH_COUNT", .u32, 4, .rw1c, 1, .vol, (fun _ _ _ => 0), (fun _ _ _ => .any)⟩,
  ⟨0x3000, 1, 1, 0x08, 1, "FLUSH_REQUEST_DROPS", .u32, 4, .rw1c, 1, .vol, (fun _ _ _ => 0), (fun _ _ _ => .any)⟩,
  ⟨0x3000, 1, 1, 0x09, 1, "FLUSH_RESPONSE_DROPS", .u32, 4, .rw1c, 1, .vol, (fun _ _ _ => 0), (fun _ _ _ => .any)⟩,
  ⟨0x3001, 1, 1, 0x01, 1, "VOQ_DEPTH_IN_FORCE", .enum8, 1, .rw, 2, .vol, (fun _ _ _ => 2), (fun _ _ _ => .le 0 2)⟩,
  ⟨0x3001, 1, 1, 0x02, 1, "ARB_POLICY_IN_FORCE", .enum8, 1, .rw, 2, .vol, (fun _ _ _ => 0), (fun _ _ _ => .le 0 1)⟩,
  ⟨0x3002, 1, 1, 0x01, 1, "QUAY_DOWN", .cmd, 1, .cmd, 2, .vol, (fun _ _ _ => 0), (fun p _ _ => if p = .w384 then .le 0 95 else .le 0 127)⟩,
  ⟨0x3002, 1, 1, 0x02, 1, "QUAY_RELEASE", .cmd, 1, .cmd, 2, .vol, (fun _ _ _ => 0), (fun p _ _ => if p = .w384 then .le 0 95 else .le 0 127)⟩,
  ⟨0x3100, 196, 1, 0x01, 1, "CLASS_PRIORITY", .bits32, 4, .rw, 1, .per, (fun _ _ _ => 0), (fun _ _ _ => .bits 0x77777777)⟩,
  ⟨0x3100, 196, 1, 0x02, 1, "INPUT_WEIGHT", .u8, 1, .rw, 1, .per, (fun _ _ _ => 1), (fun _ _ _ => .le 1 64)⟩,
  ⟨0x3200, 128, 1, 0x01, 1, "TC_MAP", .bits32, 4, .rw, 2, .per, (fun _ _ _ => 64080), (fun _ _ _ => .bits 0xFFFF)⟩]

/-- More objects of 0x3000. -/
def rows3_1 : List Row := [
  ⟨0x3200, 128, 1, 0x02, 1, "MEM_LEVEL", .u8, 1, .rw, 2, .per, (fun _ _ _ => 0), (fun _ _ _ => .le 0 3)⟩,
  ⟨0x3200, 128, 1, 0x03, 1, "GATE_ENABLE", .bool, 1, .rw, 2, .per, (fun _ _ _ => 0), (fun _ _ _ => .le 0 1)⟩,
  ⟨0x3200, 128, 1, 0x04, 1, "GATE_BASE_TIME", .time64, 8, .rw, 2, .per, (fun _ _ _ => 0), (fun _ _ _ => .any)⟩,
  ⟨0x3200, 128, 1, 0x05, 1, "GATE_CYCLE", .u32, 4, .rw, 2, .per, (fun _ _ _ => 1000000), (fun _ _ _ => .le 1000 10000000)⟩,
  ⟨0x3200, 128, 1, 0x06, 1, "GATE_COUNT", .u8, 1, .rw, 2, .per, (fun _ _ _ => 1), (fun _ _ _ => .le 1 64)⟩,
  ⟨0x3200, 128, 1, 0x07, 1, "GATE_GUARD", .u32, 4, .rw, 2, .per, (fun _ _ _ => 0), (fun _ _ _ => .le 0 10000)⟩,
  ⟨0x3200, 128, 1, 0x08, 1, "GATE_COMMIT", .cmd, 0, .cmd, 2, .vol, (fun _ _ _ => 0), (fun _ _ _ => .any)⟩,
  ⟨0x3200, 128, 1, 0x09, 1, "GATE_STATUS", .enum8, 1, .r, 0, .vol, (fun _ _ _ => 0), (fun _ _ _ => .any)⟩,
  ⟨0x3200, 128, 1, 0x0A, 1, "GATE_CURRENT_ENTRY", .u8, 1, .r, 0, .vol, (fun _ _ _ => 0), (fun _ _ _ => .any)⟩,
  ⟨0x3200, 128, 1, 0x0B, 1, "GATE_START_TIME", .time64, 8, .r, 0, .vol, (fun _ _ _ => 0), (fun _ _ _ => .any)⟩,
  ⟨0x3200, 128, 1, 0x40, 64, "GATE_ENTRY", .u32, 4, .rw, 2, .per, (fun _ _ j => if j = 0 then 0xFF0F4240 else 0xFF000000), (fun _ _ _ => .any)⟩,
  ⟨0x3200, 128, 1, 0x80, 64, "GATE_ACTIVE_ENTRY", .u32, 4, .r, 0, .vol, (fun _ _ j => if j = 0 then 0xFF0F4240 else 0xFF000000), (fun _ _ _ => .any)⟩,
  ⟨0x3300, 128, 1, 0x10, 8, "SHAPE_RATE", .u32, 4, .rw, 2, .per, (fun _ _ _ => 4294967295), (fun _ _ _ => .any)⟩,
  ⟨0x3300, 128, 1, 0x20, 8, "SHAPE_BURST", .u32, 4, .rw, 2, .per, (fun _ _ _ => 65536), (fun _ _ _ => .le 4096 16777216)⟩,
  ⟨0x3300, 128, 1, 0x30, 8, "SHAPE_TOKENS", .i32, 4, .r, 0, .vol, (fun _ _ _ => 65536), (fun _ _ _ => .any)⟩,
  ⟨0x3400, 1, 1, 0x01, 64, "ROUTE_BLOCK", .octets, 256, .rw, 2, .per, (fun _ _ _ => 0), (fun _ _ _ => .bits (0xC07F007F * ((2 ^ 2048 - 1) / 0xFFFFFFFF)))⟩]

/-- More objects of 0x3000. -/
def rows3_2 : List Row := [
  ⟨0x3500, 128, 1, 0x10, 8, "DEPTH_SAMPLE", .u32, 4, .r, 0, .vol, (fun _ _ _ => 0), (fun _ _ _ => .any)⟩,
  ⟨0x3500, 128, 1, 0x20, 8, "DELAY_SAMPLE", .u32, 4, .r, 0, .vol, (fun _ _ _ => 0), (fun _ _ _ => .any)⟩,
  ⟨0x3500, 128, 1, 0x30, 8, "DEPTH_MAX", .u32, 4, .rw1c, 1, .vol, (fun _ _ _ => 0), (fun _ _ _ => .any)⟩,
  ⟨0x3500, 128, 1, 0x40, 8, "DELAY_MAX", .u32, 4, .rw1c, 1, .vol, (fun _ _ _ => 0), (fun _ _ _ => .any)⟩]

/-- The objects of 0x4000 to 0x4FFF. -/
def rows4_0 : List Row := [
  ⟨0x4000, 1, 1, 0x01, 1, "ACTIVE_SLICE_COUNT", .u8, 1, .r, 0, .vol, (fun p _ _ => if p = .w384 then 12 else 16), (fun _ _ _ => .any)⟩,
  ⟨0x4000, 1, 1, 0x02, 1, "NEAR_SHARER_IN_FORCE", .bool, 1, .r, 0, .vol, (fun _ _ _ => 0), (fun _ _ _ => .any)⟩,
  ⟨0x4000, 1, 1, 0x03, 1, "BACKPRESSURE_COUNT", .u32, 4, .rw1c, 1, .vol, (fun _ _ _ => 0), (fun _ _ _ => .any)⟩,
  ⟨0x4000, 1, 1, 0x04, 1, "OVERFLOW_SNOOP_COUNT", .u32, 4, .rw1c, 1, .vol, (fun _ _ _ => 0), (fun _ _ _ => .any)⟩,
  ⟨0x4001, 1, 1, 0x01, 1, "HOME_MAP", .octets, 256, .r, 0, .vol, (fun p _ _ => homeMapDefault p), (fun _ _ _ => .any)⟩,
  ⟨0x4010, 16, 1, 0x01, 1, "SLICE_STATE", .enum8, 1, .r, 0, .vol, (fun p i _ => if p = .w384 ∧ 12 ≤ i then 4 else 0), (fun _ _ _ => .any)⟩,
  ⟨0x4010, 16, 1, 0x02, 1, "CACHE_LINES_VALID", .u32, 4, .r, 0, .vol, (fun _ _ _ => 0), (fun _ _ _ => .any)⟩,
  ⟨0x4010, 16, 1, 0x03, 1, "DIR_ENTRIES_VALID", .u32, 4, .r, 0, .vol, (fun _ _ _ => 0), (fun _ _ _ => .any)⟩,
  ⟨0x4010, 16, 1, 0x04, 1, "OPEN_TRANSACTIONS", .u16, 2, .r, 0, .vol, (fun _ _ _ => 0), (fun _ _ _ => .any)⟩,
  ⟨0x4010, 16, 1, 0x05, 1, "ALLOC_WAITING", .u16, 2, .r, 0, .vol, (fun _ _ _ => 0), (fun _ _ _ => .any)⟩,
  ⟨0x4010, 16, 1, 0x06, 1, "RING_SNOOPS_ISSUED", .u32, 4, .rw1c, 1, .vol, (fun _ _ _ => 0), (fun _ _ _ => .any)⟩,
  ⟨0x4010, 16, 1, 0x07, 1, "PEER_SUPPLIES", .u32, 4, .rw1c, 1, .vol, (fun _ _ _ => 0), (fun _ _ _ => .any)⟩,
  ⟨0x4010, 16, 1, 0x08, 1, "NEAR_SHARER_SUPPLIES", .u32, 4, .rw1c, 1, .vol, (fun _ _ _ => 0), (fun _ _ _ => .any)⟩,
  ⟨0x4100, 128, 1, 0x01, 1, "PRIVILEGED_QUAY", .bool, 1, .rw, 2, .per, (fun _ _ _ => 0), (fun _ _ _ => .le 0 1)⟩,
  ⟨0x4200, 64, 1, 0x01, 1, "BASIN_STATE", .enum8, 1, .r, 0, .vol, (fun _ _ _ => 0), (fun _ _ _ => .any)⟩,
  ⟨0x4200, 64, 1, 0x02, 1, "BASIN_ENABLE", .bool, 1, .rw, 2, .per, (fun _ _ _ => 0), (fun _ _ _ => .le 0 1)⟩]

/-- More objects of 0x4000. -/
def rows4_1 : List Row := [
  ⟨0x4200, 64, 1, 0x03, 1, "HOME_SET_BASE", .u8, 1, .rw, 2, .per, (fun _ _ _ => 0), (fun _ _ _ => .le 0 15)⟩,
  ⟨0x4200, 64, 1, 0x04, 1, "HOME_SET_SIZE", .u8, 1, .rw, 2, .per, (fun _ _ _ => 2), (fun _ _ _ => .codes [2, 4, 8, 16])⟩,
  ⟨0x4200, 64, 1, 0x05, 1, "MEMBERS", .octets, 8, .rw, 2, .per, (fun _ _ _ => 0), (fun _ _ _ => .any)⟩,
  ⟨0x4200, 64, 1, 0x06, 1, "SNOOP_TIMEOUT", .u32, 4, .rw, 2, .per, (fun _ _ _ => 20), (fun _ _ _ => .le 2 500)⟩,
  ⟨0x4200, 64, 1, 0x07, 1, "NEAR_COPY", .bool, 1, .rw, 2, .per, (fun _ _ _ => 0), (fun _ _ _ => .le 0 1)⟩,
  ⟨0x4200, 64, 1, 0x08, 1, "BASIN_RESET", .cmd, 0, .cmd, 2, .vol, (fun _ _ _ => 0), (fun _ _ _ => .any)⟩,
  ⟨0x4200, 64, 1, 0x09, 1, "BASIN_OPEN", .cmd, 0, .cmd, 2, .vol, (fun _ _ _ => 0), (fun _ _ _ => .any)⟩,
  ⟨0x4200, 64, 1, 0x0A, 1, "DOWN_CAUSE", .u16, 2, .r, 0, .vol, (fun _ _ _ => 0), (fun _ _ _ => .any)⟩,
  ⟨0x4200, 64, 1, 0x0B, 1, "DOWN_TIME", .time64, 8, .r, 0, .vol, (fun _ _ _ => 0), (fun _ _ _ => .any)⟩,
  ⟨0x4200, 64, 1, 0x0C, 1, "DOWN_COUNT", .u32, 4, .rw1c, 1, .vol, (fun _ _ _ => 0), (fun _ _ _ => .any)⟩,
  ⟨0x4200, 64, 1, 0x0D, 1, "LOST_LINES", .u32, 4, .r, 0, .vol, (fun _ _ _ => 0), (fun _ _ _ => .any)⟩,
  ⟨0x4200, 64, 1, 0x0E, 1, "REJECTED_WRITES", .u32, 4, .r, 0, .vol, (fun _ _ _ => 0), (fun _ _ _ => .any)⟩]

/-- The objects of 0x5000 to 0x5FFF. -/
def rows5_0 : List Row := [
  ⟨0x5000, 1, 1, 0x01, 1, "POOL_PAGES_TOTAL", .u32, 4, .r, 0, .vol, (fun _ _ _ => 0), (fun _ _ _ => .any)⟩,
  ⟨0x5000, 1, 1, 0x02, 1, "POOL_PAGES_FREE", .u32, 4, .r, 0, .vol, (fun _ _ _ => 0), (fun _ _ _ => .any)⟩,
  ⟨0x5000, 1, 1, 0x03, 1, "POOL_PAGES_ZEROING", .u32, 4, .r, 0, .vol, (fun _ _ _ => 0), (fun _ _ _ => .any)⟩,
  ⟨0x5000, 1, 1, 0x04, 1, "POOL_PAGES_USED", .u32, 4, .r, 0, .vol, (fun _ _ _ => 0), (fun _ _ _ => .any)⟩,
  ⟨0x5010, 1, 1, 0x01, 1, "LEDGER_DEVICE", .u8, 1, .rw, 2, .per, (fun _ _ _ => 0), (fun _ _ _ => .le 0 63)⟩,
  ⟨0x5010, 1, 1, 0x02, 1, "LEDGER_DEVICE_PAGE", .u32, 4, .rw, 2, .per, (fun _ _ _ => 0), (fun _ _ _ => .le 0 134217727)⟩,
  ⟨0x5010, 1, 1, 0x03, 1, "LEDGER_ENTRIES", .u32, 4, .rw, 2, .per, (fun _ _ _ => 262144), (fun _ _ _ => .mult 262144 262144 134217728)⟩,
  ⟨0x5010, 1, 1, 0x04, 1, "LEDGER_STATE", .enum8, 1, .r, 0, .vol, (fun _ _ _ => 0), (fun _ _ _ => .any)⟩,
  ⟨0x5010, 1, 1, 0x05, 1, "LEDGER_INIT", .cmd, 0, .cmd, 2, .vol, (fun _ _ _ => 0), (fun _ _ _ => .any)⟩,
  ⟨0x5010, 1, 1, 0x06, 1, "LEDGER_ADOPT", .cmd, 0, .cmd, 2, .vol, (fun _ _ _ => 0), (fun _ _ _ => .any)⟩,
  ⟨0x5020, 1, 1, 0x01, 1, "LEDGER_WRITE", .cmd, 16, .cmd, 2, .vol, (fun _ _ _ => 0), (fun _ _ _ => .any)⟩,
  ⟨0x5020, 1, 1, 0x02, 1, "LEDGER_READ_INDEX", .u32, 4, .rw, 1, .vol, (fun _ _ _ => 0), (fun _ _ _ => .any)⟩,
  ⟨0x5020, 1, 1, 0x03, 1, "LEDGER_READ_VALUE", .u64, 8, .r, 0, .vol, (fun _ _ _ => 0), (fun _ _ _ => .any)⟩,
  ⟨0x5020, 1, 1, 0x04, 1, "POOL_EPOCH", .u32, 4, .r, 0, .vol, (fun _ _ _ => 0), (fun _ _ _ => .any)⟩,
  ⟨0x5020, 1, 1, 0x05, 1, "POOL_BARRIER", .cmd, 0, .cmd, 2, .vol, (fun _ _ _ => 0), (fun _ _ _ => .any)⟩,
  ⟨0x5020, 1, 1, 0x06, 1, "BARRIER_STATUS", .enum8, 1, .r, 0, .vol, (fun _ _ _ => 0), (fun _ _ _ => .any)⟩]

/-- More objects of 0x5000. -/
def rows5_1 : List Row := [
  ⟨0x5020, 1, 1, 0x07, 1, "BARRIER_EPOCH", .u32, 4, .r, 0, .vol, (fun _ _ _ => 0), (fun _ _ _ => .any)⟩,
  ⟨0x5030, 1, 1, 0x01, 1, "ALLOC_GRANT", .cmd, 16, .cmd, 2, .vol, (fun _ _ _ => 0), (fun _ _ _ => .any)⟩,
  ⟨0x5030, 1, 1, 0x02, 1, "EXTENT_ANNOUNCE", .cmd, 16, .cmd, 2, .vol, (fun _ _ _ => 0), (fun _ _ _ => .any)⟩,
  ⟨0x5030, 1, 1, 0x03, 1, "ZERO_WAIT_LIMIT", .u32, 4, .rw, 2, .per, (fun _ _ _ => 10000), (fun _ _ _ => .le 0 1000000)⟩,
  ⟨0x5030, 1, 1, 0x04, 1, "ADD_RESPONSE_LIMIT", .u32, 4, .rw, 2, .per, (fun _ _ _ => 1000), (fun _ _ _ => .le 10 60000)⟩,
  ⟨0x5030, 1, 1, 0x05, 1, "ALLOC_REFUSALS", .u32, 4, .rw1c, 1, .vol, (fun _ _ _ => 0), (fun _ _ _ => .any)⟩,
  ⟨0x5040, 1, 1, 0x01, 1, "TIER_ENABLE", .bool, 1, .rw, 2, .per, (fun _ _ _ => 0), (fun _ _ _ => .le 0 1)⟩,
  ⟨0x5040, 1, 1, 0x02, 1, "TIER_EPOCH", .u32, 4, .rw, 2, .per, (fun _ _ _ => 100), (fun _ _ _ => .le 10 10000)⟩,
  ⟨0x5040, 1, 1, 0x03, 1, "SWEEP_RATE", .u32, 4, .rw, 2, .per, (fun _ _ _ => 1000000), (fun _ _ _ => .le 1000 10000000)⟩,
  ⟨0x5040, 1, 1, 0x04, 1, "PROMOTE_THRESHOLD", .u8, 1, .rw, 2, .per, (fun _ _ _ => 64), (fun _ _ _ => .le 1 255)⟩,
  ⟨0x5040, 1, 1, 0x05, 1, "DEMOTE_THRESHOLD", .u8, 1, .rw, 2, .per, (fun _ _ _ => 2), (fun _ _ _ => .le 0 254)⟩,
  ⟨0x5040, 1, 1, 0x06, 1, "TIER_FREE_TARGET", .u8, 1, .rw, 2, .per, (fun _ _ _ => 5), (fun _ _ _ => .le 0 50)⟩,
  ⟨0x5040, 1, 1, 0x07, 1, "TIER_MIGRATION_LIMIT", .u16, 2, .rw, 2, .per, (fun _ _ _ => 64), (fun _ _ _ => .le 0 256)⟩,
  ⟨0x5040, 1, 1, 0x08, 1, "PROMOTIONS", .u32, 4, .rw1c, 1, .vol, (fun _ _ _ => 0), (fun _ _ _ => .any)⟩,
  ⟨0x5040, 1, 1, 0x09, 1, "DEMOTIONS", .u32, 4, .rw1c, 1, .vol, (fun _ _ _ => 0), (fun _ _ _ => .any)⟩,
  ⟨0x5040, 1, 1, 0x0A, 1, "TIER_SKIPPED", .u32, 4, .rw1c, 1, .vol, (fun _ _ _ => 0), (fun _ _ _ => .any)⟩]

/-- More objects of 0x5000. -/
def rows5_2 : List Row := [
  ⟨0x5050, 1, 1, 0x01, 1, "MIGRATE", .cmd, 16, .cmd, 2, .vol, (fun _ _ _ => 0), (fun _ _ _ => .any)⟩,
  ⟨0x5050, 1, 1, 0x02, 1, "MIGRATE_ABORT", .cmd, 1, .cmd, 2, .vol, (fun _ _ _ => 0), (fun _ _ _ => .le 0 255)⟩,
  ⟨0x5050, 1, 1, 0x03, 1, "MIGRATIONS_IN_FLIGHT", .u16, 2, .r, 0, .vol, (fun _ _ _ => 0), (fun _ _ _ => .any)⟩,
  ⟨0x5050, 1, 1, 0x04, 1, "MIGRATIONS_DONE", .u32, 4, .rw1c, 1, .vol, (fun _ _ _ => 0), (fun _ _ _ => .any)⟩,
  ⟨0x5050, 1, 1, 0x05, 1, "MIGRATIONS_ABORTED", .u32, 4, .rw1c, 1, .vol, (fun _ _ _ => 0), (fun _ _ _ => .any)⟩,
  ⟨0x5050, 1, 1, 0x06, 1, "WRITE_STALLS", .u32, 4, .rw1c, 1, .vol, (fun _ _ _ => 0), (fun _ _ _ => .any)⟩,
  ⟨0x5050, 1, 1, 0x07, 1, "MIGRATION_POISONED_LINES", .u32, 4, .rw1c, 1, .vol, (fun _ _ _ => 0), (fun _ _ _ => .any)⟩,
  ⟨0x5060, 1, 1, 0x01, 1, "PREFETCH_IN_FORCE", .enum8, 1, .r, 0, .vol, (fun _ _ _ => 0), (fun _ _ _ => .any)⟩,
  ⟨0x5060, 1, 1, 0x02, 1, "PREFETCH_ISSUED", .u32, 4, .rw1c, 1, .vol, (fun _ _ _ => 0), (fun _ _ _ => .any)⟩,
  ⟨0x5060, 1, 1, 0x03, 1, "PREFETCH_DISCARDS", .u32, 4, .rw1c, 1, .vol, (fun _ _ _ => 0), (fun _ _ _ => .any)⟩,
  ⟨0x5060, 1, 1, 0x04, 1, "PREFETCH_UNUSED", .u32, 4, .rw1c, 1, .vol, (fun _ _ _ => 0), (fun _ _ _ => .any)⟩,
  ⟨0x5060, 1, 1, 0x05, 1, "PREFETCH_WINDOW", .u32, 4, .rw, 1, .per, (fun _ _ _ => 10000), (fun _ _ _ => .le 100 1000000)⟩,
  ⟨0x5070, 1, 1, 0x01, 1, "WRITE_FAILURES", .u32, 4, .rw1c, 1, .vol, (fun _ _ _ => 0), (fun _ _ _ => .any)⟩,
  ⟨0x5070, 1, 1, 0x02, 1, "POISON_LIST_USED", .u16, 2, .r, 0, .vol, (fun _ _ _ => 0), (fun _ _ _ => .any)⟩,
  ⟨0x5070, 1, 1, 0x03, 1, "DECODE_FAULTS", .u32, 4, .rw1c, 1, .vol, (fun _ _ _ => 0), (fun _ _ _ => .any)⟩,
  ⟨0x5070, 1, 1, 0x04, 1, "LAST_DECODE_FAULT", .octets, 16, .r, 0, .vol, (fun _ _ _ => 0), (fun _ _ _ => .any)⟩]

/-- More objects of 0x5000. -/
def rows5_3 : List Row := [
  ⟨0x5080, 64, 1, 0x01, 1, "MEMDEV_ENABLE", .bool, 1, .rw, 2, .per, (fun _ _ _ => 0), (fun _ _ _ => .le 0 1)⟩,
  ⟨0x5080, 64, 1, 0x02, 1, "MEMDEV_QUAY", .u8, 1, .rw, 2, .per, (fun _ _ _ => 0), (fun p _ _ => if p = .w384 then .le 0 95 else .le 0 127)⟩,
  ⟨0x5080, 64, 1, 0x03, 1, "MEMDEV_LD", .u8, 1, .rw, 2, .per, (fun _ _ _ => 255), (fun _ _ _ => .codes ([0,1,2,3,4,5,6,7,8,9,10,11,12,13,14,15] ++ [0xFF]))⟩,
  ⟨0x5080, 64, 1, 0x04, 1, "MEMDEV_DPA_BASE", .u64, 8, .rw, 2, .per, (fun _ _ _ => 0), (fun _ _ _ => .mult 0x200000 0 0xFFFFFFFFFFFFFFFF)⟩,
  ⟨0x5080, 64, 1, 0x05, 1, "MEMDEV_PAGES", .u32, 4, .rw, 2, .per, (fun _ _ _ => 0), (fun _ _ _ => .le 0 134217728)⟩,
  ⟨0x5080, 64, 1, 0x06, 1, "MEMDEV_TIER", .u8, 1, .rw, 2, .per, (fun _ _ _ => 0), (fun _ _ _ => .le 0 3)⟩,
  ⟨0x5080, 64, 1, 0x07, 1, "MEMDEV_STATE", .enum8, 1, .r, 0, .vol, (fun _ _ _ => 0), (fun _ _ _ => .any)⟩,
  ⟨0x5080, 64, 1, 0x08, 1, "MEMDEV_FREE_PAGES", .u32, 4, .r, 0, .vol, (fun _ _ _ => 0), (fun _ _ _ => .any)⟩,
  ⟨0x5100, 64, 1, 0x01, 1, "SLOT_KIND", .enum8, 1, .rw, 2, .per, (fun _ _ _ => 0), (fun _ _ _ => .le 0 2)⟩,
  ⟨0x5100, 64, 1, 0x02, 1, "SLOT_SOURCE", .u16, 2, .rw, 2, .per, (fun _ _ _ => 0), (fun _ _ _ => .le 0 0xFFF)⟩,
  ⟨0x5100, 64, 1, 0x03, 1, "QUOTA_PAGES", .u32, 4, .rw, 2, .per, (fun _ _ _ => 0), (fun _ _ _ => .le 0 134217728)⟩,
  ⟨0x5100, 64, 1, 0x04, 1, "USED_PAGES", .u32, 4, .r, 0, .vol, (fun _ _ _ => 0), (fun _ _ _ => .any)⟩,
  ⟨0x5200, 1024, 1, 0x01, 1, "BERTH_ENABLE", .bool, 1, .rw, 2, .per, (fun _ _ _ => 0), (fun _ _ _ => .le 0 1)⟩,
  ⟨0x5200, 1024, 1, 0x02, 1, "BERTH_BASE", .u64, 8, .rw, 2, .per, (fun _ _ _ => 0), (fun _ _ _ => .mult 0x10000000 0 0xFFFFFFFFFFFFFFFF)⟩,
  ⟨0x5200, 1024, 1, 0x03, 1, "BERTH_LIMIT", .u64, 8, .rw, 2, .per, (fun _ _ _ => 268435455), (fun _ _ _ => .any)⟩,
  ⟨0x5200, 1024, 1, 0x04, 1, "BERTH_KIND", .enum8, 1, .rw, 2, .per, (fun _ _ _ => 0), (fun _ _ _ => .le 0 2)⟩]

/-- More objects of 0x5000. -/
def rows5_4 : List Row := [
  ⟨0x5200, 1024, 1, 0x05, 1, "BERTH_BASIN", .u8, 1, .rw, 2, .per, (fun _ _ _ => 0), (fun _ _ _ => .le 0 63)⟩,
  ⟨0x5200, 1024, 1, 0x06, 1, "BERTH_OFFSET", .u64, 8, .rw, 2, .per, (fun _ _ _ => 0), (fun _ _ _ => .mult 0x10000000 0 0xFFFFFFFFFFFF)⟩,
  ⟨0x5200, 1024, 1, 0x07, 1, "BERTH_HOME_ID", .u16, 2, .rw, 2, .per, (fun _ _ _ => 0), (fun _ _ _ => .le 0 2047)⟩,
  ⟨0x5200, 1024, 1, 0x08, 1, "LEDGER_FIRST", .u32, 4, .rw, 2, .per, (fun _ _ _ => 0), (fun _ _ _ => .any)⟩,
  ⟨0x5200, 1024, 1, 0x09, 1, "WRITE_THROUGH", .bool, 1, .rw, 2, .per, (fun _ _ _ => 0), (fun _ _ _ => .le 0 1)⟩,
  ⟨0x5200, 1024, 1, 0x0A, 1, "PREFETCHABLE", .bool, 1, .rw, 2, .per, (fun _ _ _ => 1), (fun _ _ _ => .le 0 1)⟩,
  ⟨0x5200, 1024, 1, 0x0B, 1, "MAPPED_PAGES", .u32, 4, .r, 0, .vol, (fun _ _ _ => 0), (fun _ _ _ => .any)⟩,
  ⟨0x5200, 1024, 1, 0x0C, 1, "BERTH_FLUSH", .cmd, 0, .cmd, 1, .vol, (fun _ _ _ => 0), (fun _ _ _ => .any)⟩,
  ⟨0x5600, 64, 1, 0x01, 1, "SPAN_LEDGER_FIRST", .u32, 4, .rw, 2, .per, (fun _ _ _ => 0), (fun _ _ _ => .any)⟩,
  ⟨0x5600, 64, 1, 0x02, 1, "SPAN_PAGES", .u32, 4, .rw, 2, .per, (fun _ _ _ => 0), (fun _ _ _ => .le 0 134217728)⟩,
  ⟨0x5600, 64, 1, 0x03, 1, "SPAN_MAPPED_PAGES", .u32, 4, .r, 0, .vol, (fun _ _ _ => 0), (fun _ _ _ => .any)⟩,
  ⟨0x5700, 256, 1, 0x01, 1, "MIG_STATE", .enum8, 1, .r, 0, .vol, (fun _ _ _ => 0), (fun _ _ _ => .any)⟩,
  ⟨0x5700, 256, 1, 0x02, 1, "MIG_LEDGER_INDEX", .u32, 4, .r, 0, .vol, (fun _ _ _ => 0), (fun _ _ _ => .any)⟩,
  ⟨0x5700, 256, 1, 0x03, 1, "MIG_TARGET", .u64, 8, .r, 0, .vol, (fun _ _ _ => 0), (fun _ _ _ => .any)⟩,
  ⟨0x5700, 256, 1, 0x04, 1, "MIG_BITMAP", .bits32, 4, .r, 0, .vol, (fun _ _ _ => 0), (fun _ _ _ => .any)⟩,
  ⟨0x5700, 256, 1, 0x05, 1, "MIG_CURRENT_BALE", .u8, 1, .r, 0, .vol, (fun _ _ _ => 0), (fun _ _ _ => .any)⟩]

/-- More objects of 0x5000. -/
def rows5_5 : List Row := [
  ⟨0x5700, 256, 1, 0x06, 1, "MIG_START_TIME", .time64, 8, .r, 0, .vol, (fun _ _ _ => 0), (fun _ _ _ => .any)⟩]

/-- The objects of 0x6000 to 0x6FFF. -/
def rows6_0 : List Row := [
  ⟨0x6000, 1, 1, 0x01, 1, "ACTIVE_ENGINE_COUNT", .u8, 1, .r, 0, .vol, (fun p _ _ => if p = .w384 then 12 else 16), (fun _ _ _ => .any)⟩,
  ⟨0x6000, 1, 1, 0x02, 1, "CRANE_SHARE_IN_FORCE", .u8, 1, .r, 0, .vol, (fun _ _ _ => 100), (fun _ _ _ => .any)⟩,
  ⟨0x6000, 1, 1, 0x03, 1, "POLL_LIMIT", .u8, 1, .rw, 2, .per, (fun _ _ _ => 32), (fun _ _ _ => .le 8 64)⟩,
  ⟨0x6000, 1, 1, 0x04, 1, "QUEUE_CONTEXTS_FREE", .u16, 2, .r, 0, .vol, (fun _ _ _ => 16384), (fun _ _ _ => .any)⟩,
  ⟨0x6000, 1, 1, 0x05, 1, "INST_DRAIN_LIMIT", .u32, 4, .rw, 2, .per, (fun _ _ _ => 2000), (fun _ _ _ => .le 100 50000)⟩,
  ⟨0x6000, 1, 1, 0x06, 1, "ZERO_TURN", .u8, 1, .rw, 2, .per, (fun _ _ _ => 1), (fun _ _ _ => .le 1 32)⟩,
  ⟨0x6000, 1, 1, 0x07, 1, "VALIDATION_FAILURES", .u32, 4, .rw1c, 1, .vol, (fun _ _ _ => 0), (fun _ _ _ => .any)⟩,
  ⟨0x6000, 1, 1, 0x08, 1, "PARTIAL_COMPLETIONS", .u32, 4, .rw1c, 1, .vol, (fun _ _ _ => 0), (fun _ _ _ => .any)⟩,
  ⟨0x6000, 1, 1, 0x09, 1, "ENTRY_INVALIDATIONS", .u32, 4, .rw1c, 1, .vol, (fun _ _ _ => 0), (fun _ _ _ => .any)⟩,
  ⟨0x6001, 1, 1, 0x01, 1, "ENGINE_MAP", .octets, 256, .r, 0, .vol, (fun p _ _ => homeMapDefault p), (fun _ _ _ => .any)⟩,
  ⟨0x6010, 16, 1, 0x01, 1, "ENGINE_STATE", .enum8, 1, .r, 0, .vol, (fun p i _ => if p = .w384 ∧ 12 ≤ i then 3 else 0), (fun _ _ _ => .any)⟩,
  ⟨0x6010, 16, 1, 0x02, 1, "ENGINE_QUEUES", .u16, 2, .r, 0, .vol, (fun _ _ _ => 0), (fun _ _ _ => .any)⟩,
  ⟨0x6010, 16, 1, 0x03, 1, "ENGINE_MIGRATIONS", .u16, 2, .r, 0, .vol, (fun _ _ _ => 0), (fun _ _ _ => .any)⟩,
  ⟨0x6010, 16, 1, 0x04, 1, "ENGINE_BYTES", .u64, 8, .rw1c, 1, .vol, (fun _ _ _ => 0), (fun _ _ _ => .any)⟩,
  ⟨0x6020, 1, 1, 0x01, 1, "INST_CONFIG", .octets, 32, .w, 2, .per, (fun _ _ _ => 0), (fun _ _ _ => .any)⟩,
  ⟨0x6020, 1, 1, 0x02, 1, "INST_SELECT", .u16, 2, .rw, 1, .vol, (fun _ _ _ => 0), (fun _ _ _ => .le 0 4095)⟩]

/-- More objects of 0x6000. -/
def rows6_1 : List Row := [
  ⟨0x6020, 1, 1, 0x03, 1, "INST_VIEW", .octets, 64, .r, 0, .vol, (fun _ _ _ => 0), (fun _ _ _ => .any)⟩,
  ⟨0x6020, 1, 1, 0x04, 1, "INST_RESET", .cmd, 2, .cmd, 2, .vol, (fun _ _ _ => 0), (fun _ _ _ => .le 0 4095)⟩,
  ⟨0x6020, 1, 1, 0x05, 1, "INST_BOUND_COUNT", .u16, 2, .r, 0, .vol, (fun _ _ _ => 0), (fun _ _ _ => .any)⟩,
  ⟨0x6021, 1, 1, 0x01, 1, "MBOX_PENDING", .octets, 512, .r, 0, .vol, (fun _ _ _ => 0), (fun _ _ _ => .any)⟩,
  ⟨0x6021, 1, 1, 0x02, 1, "MBOX_H2M", .octets, 2056, .r, 0, .vol, (fun _ _ _ => 0), (fun _ _ _ => .any)⟩,
  ⟨0x6021, 1, 1, 0x03, 1, "MBOX_H2M_ACK", .cmd, 2, .cmd, 2, .vol, (fun _ _ _ => 0), (fun _ _ _ => .le 0 4095)⟩,
  ⟨0x6021, 1, 1, 0x04, 1, "MBOX_M2H", .octets, 2056, .w, 2, .vol, (fun _ _ _ => 0), (fun _ _ _ => .any)⟩]

/-- The objects of 0x7000 to 0x7FFF. -/
def rows7_0 : List Row := [
  ⟨0x7000, 1, 1, 0x01, 1, "CUSTOMS_EPOCH", .u32, 4, .r, 0, .vol, (fun _ _ _ => 0), (fun _ _ _ => .any)⟩,
  ⟨0x7000, 1, 1, 0x02, 1, "CUSTOMS_BARRIER", .cmd, 0, .cmd, 2, .vol, (fun _ _ _ => 0), (fun _ _ _ => .any)⟩,
  ⟨0x7000, 1, 1, 0x03, 1, "CUSTOMS_BARRIER_STATUS", .enum8, 1, .r, 0, .vol, (fun _ _ _ => 0), (fun _ _ _ => .any)⟩,
  ⟨0x7000, 1, 1, 0x04, 1, "CUSTOMS_BARRIER_EPOCH", .u32, 4, .r, 0, .vol, (fun _ _ _ => 0), (fun _ _ _ => .any)⟩,
  ⟨0x7000, 1, 1, 0x05, 1, "CUSTOMS_BARRIER_LIMIT", .u32, 4, .rw, 2, .per, (fun _ _ _ => 100), (fun _ _ _ => .le 1 10000)⟩,
  ⟨0x7000, 1, 1, 0x06, 1, "BARRIER_OUTSTANDING", .u32, 4, .r, 0, .vol, (fun _ _ _ => 0), (fun _ _ _ => .any)⟩,
  ⟨0x7000, 1, 1, 0x07, 1, "REGIONS_FREE", .u16, 2, .r, 0, .vol, (fun _ _ _ => 32768), (fun _ _ _ => .any)⟩,
  ⟨0x7000, 1, 1, 0x08, 1, "VIOLATION_COUNT", .u32, 4, .rw1c, 1, .vol, (fun _ _ _ => 0), (fun _ _ _ => .any)⟩,
  ⟨0x7000, 1, 1, 0x09, 1, "MALFORMED_DROPS", .u32, 4, .rw1c, 1, .vol, (fun _ _ _ => 0), (fun _ _ _ => .any)⟩,
  ⟨0x7000, 1, 1, 0x0A, 1, "IMPOUNDED_COUNT", .u16, 2, .r, 0, .vol, (fun _ _ _ => 0), (fun _ _ _ => .any)⟩,
  ⟨0x7000, 1, 1, 0x0B, 1, "HELD_REQUESTS", .u32, 4, .r, 0, .vol, (fun _ _ _ => 0), (fun _ _ _ => .any)⟩,
  ⟨0x7001, 1, 1, 0x01, 1, "IMPOUNDED_SLOTS", .octets, 8, .r, 0, .vol, (fun _ _ _ => 0), (fun _ _ _ => .any)⟩,
  ⟨0x7001, 1, 1, 0x02, 1, "IMPOUNDED_ENDPOINTS", .octets, 16, .r, 0, .vol, (fun _ _ _ => 0), (fun _ _ _ => .any)⟩,
  ⟨0x7001, 1, 1, 0x03, 1, "IMPOUNDED_INSTANCES", .octets, 512, .r, 0, .vol, (fun _ _ _ => 0), (fun _ _ _ => .any)⟩,
  ⟨0x7001, 1, 1, 0x04, 1, "IMPOUNDED_INTERNAL", .bits32, 4, .r, 0, .vol, (fun _ _ _ => 0), (fun _ _ _ => .any)⟩,
  ⟨0x7010, 1, 1, 0x01, 1, "REGION_SET", .cmd, 24, .cmd, 2, .vol, (fun _ _ _ => 0), (fun _ _ _ => .any)⟩]

/-- More objects of 0x7000. -/
def rows7_1 : List Row := [
  ⟨0x7010, 1, 1, 0x02, 1, "REGION_CLEAR_MASTER", .cmd, 2, .cmd, 2, .vol, (fun _ _ _ => 0), (fun _ _ _ => .any)⟩,
  ⟨0x7010, 1, 1, 0x03, 1, "REGION_SELECT", .u32, 4, .rw, 1, .vol, (fun _ _ _ => 0), (fun _ _ _ => .bits 0xFFFFFF)⟩,
  ⟨0x7010, 1, 1, 0x04, 1, "REGION_VIEW", .octets, 24, .r, 0, .vol, (fun _ _ _ => 0), (fun _ _ _ => .any)⟩,
  ⟨0x7020, 1, 1, 0x01, 1, "MASTER_SELECT", .u16, 2, .rw, 1, .vol, (fun _ _ _ => 0), (fun _ _ _ => .any)⟩,
  ⟨0x7020, 1, 1, 0x02, 1, "MASTER_VIEW", .octets, 16, .r, 0, .vol, (fun _ _ _ => 16777216), (fun _ _ _ => .any)⟩,
  ⟨0x7020, 1, 1, 0x03, 1, "PRIVILEGE_SET", .cmd, 3, .cmd, 3, .vol, (fun _ _ _ => 0), (fun _ _ _ => .any)⟩,
  ⟨0x7020, 1, 1, 0x04, 1, "RELEASE", .cmd, 3, .cmd, 2, .vol, (fun _ _ _ => 0), (fun _ _ _ => .any)⟩,
  ⟨0x7020, 1, 1, 0x05, 1, "MASTER_VIOLATION", .octets, 32, .r, 0, .vol, (fun _ _ _ => 0), (fun _ _ _ => .any)⟩,
  ⟨0x7030, 1, 1, 0x01, 1, "LAST_VIOLATION", .octets, 32, .r, 0, .vol, (fun _ _ _ => 0), (fun _ _ _ => .any)⟩]

/-- The objects of 0x8000 to 0x8FFF. -/
def rows8_0 : List Row := [
  ⟨0x8000, 1, 1, 0x01, 1, "POWER_LIMIT_IN_FORCE", .u16, 2, .r, 0, .vol, (fun _ _ _ => 450), (fun _ _ _ => .any)⟩,
  ⟨0x8000, 1, 1, 0x02, 1, "NONSERVICE_POWER_LIMIT", .u16, 2, .rw, 2, .per, (fun _ _ _ => 450), (fun _ _ _ => .le 380 700)⟩,
  ⟨0x8000, 1, 1, 0x03, 1, "POWER_MEASURED", .q16, 4, .r, 0, .vol, (fun _ _ _ => 0), (fun _ _ _ => .any)⟩,
  ⟨0x8000, 1, 1, 0x04, 1, "POWER_LIMIT_UNMET", .bool, 1, .r, 0, .vol, (fun _ _ _ => 0), (fun _ _ _ => .any)⟩,
  ⟨0x8000, 1, 1, 0x05, 1, "TJ_MAX", .q16, 4, .r, 0, .vol, (fun _ _ _ => 0), (fun _ _ _ => .any)⟩,
  ⟨0x8000, 1, 1, 0x06, 1, "THROTTLE_TEMP", .u8, 1, .rw, 2, .per, (fun _ _ _ => 100), (fun _ _ _ => .le 85 104)⟩,
  ⟨0x8000, 1, 1, 0x07, 1, "THROTTLE_ACTIVE", .bool, 1, .r, 0, .vol, (fun _ _ _ => 0), (fun _ _ _ => .any)⟩,
  ⟨0x8000, 1, 1, 0x08, 1, "THROTTLE_COUNT", .u32, 4, .rw1c, 1, .vol, (fun _ _ _ => 0), (fun _ _ _ => .any)⟩,
  ⟨0x8010, 6, 1, 0x01, 1, "RAIL_STATE", .enum8, 1, .r, 0, .vol, (fun _ i _ => if i = 5 then 2 else 0), (fun _ _ _ => .any)⟩,
  ⟨0x8010, 6, 1, 0x02, 1, "RAIL_VOLTAGE", .q16, 4, .r, 0, .vol, (fun _ _ _ => 0), (fun _ _ _ => .any)⟩,
  ⟨0x8010, 6, 1, 0x03, 1, "RAIL_CURRENT", .q16, 4, .r, 0, .vol, (fun _ _ _ => 0), (fun _ _ _ => .any)⟩,
  ⟨0x8010, 6, 1, 0x04, 1, "RAIL_PMBUS_ADDR", .u8, 1, .rw, 2, .per, (fun _ i _ => 0x40 + i), (fun _ _ _ => .le 8 119)⟩,
  ⟨0x8020, 1, 1, 0x01, 1, "CORE_RATE", .u16, 2, .r, 0, .vol, (fun _ _ _ => 0), (fun _ _ _ => .any)⟩,
  ⟨0x8020, 1, 1, 0x02, 1, "AVS_RATE_TARGET", .u16, 2, .rw, 2, .per, (fun _ _ _ => 2200), (fun _ _ _ => .le 1500 3000)⟩,
  ⟨0x8020, 1, 1, 0x03, 1, "AVS_RATE_TARGET_LEAN", .u16, 2, .rw, 2, .per, (fun _ _ _ => 1800), (fun _ _ _ => .le 1500 3000)⟩,
  ⟨0x8020, 1, 1, 0x04, 1, "DROOP_MARGIN", .u8, 1, .rw, 2, .per, (fun _ _ _ => 30), (fun _ _ _ => .le 10 100)⟩]

/-- More objects of 0x8000. -/
def rows8_1 : List Row := [
  ⟨0x8020, 1, 1, 0x05, 1, "VCORE_TARGET", .q16, 4, .r, 0, .vol, (fun _ _ _ => 0), (fun _ _ _ => .any)⟩,
  ⟨0x8020, 1, 1, 0x06, 1, "VSRAM_TARGET", .q16, 4, .r, 0, .vol, (fun _ _ _ => 0), (fun _ _ _ => .any)⟩,
  ⟨0x8020, 1, 1, 0x07, 1, "AGING_OFFSET", .u8, 1, .r, 0, .per, (fun _ _ _ => 0), (fun _ _ _ => .any)⟩,
  ⟨0x8020, 1, 1, 0x08, 1, "DROOP_EVENTS", .u32, 4, .rw1c, 1, .vol, (fun _ _ _ => 0), (fun _ _ _ => .any)⟩,
  ⟨0x8030, 1, 1, 0x01, 1, "DIDT_LIMIT", .u16, 2, .rw, 2, .per, (fun _ _ _ => 200), (fun _ _ _ => .le 50 1000)⟩,
  ⟨0x8030, 1, 1, 0x02, 1, "CORE_CURRENT_EST", .q16, 4, .r, 0, .vol, (fun _ _ _ => 0), (fun _ _ _ => .any)⟩,
  ⟨0x8030, 1, 1, 0x03, 1, "CURRENT_CEILING", .q16, 4, .r, 0, .vol, (fun _ _ _ => 0), (fun _ _ _ => .any)⟩,
  ⟨0x8030, 1, 1, 0x04, 1, "FORE_THRESHOLD", .u16, 2, .rw, 2, .per, (fun _ _ _ => 50), (fun _ _ _ => .le 10 400)⟩,
  ⟨0x8030, 1, 1, 0x05, 1, "FORE_LEAD", .u16, 2, .rw, 2, .per, (fun _ _ _ => 1000), (fun _ _ _ => .le 1000 10000)⟩,
  ⟨0x8030, 1, 1, 0x06, 1, "FORE_LANE_THRESHOLD", .u16, 2, .rw, 2, .per, (fun _ _ _ => 30), (fun _ _ _ => .le 10 200)⟩,
  ⟨0x8030, 1, 1, 0x07, 1, "FORE_COUNT", .u32, 4, .rw1c, 1, .vol, (fun _ _ _ => 0), (fun _ _ _ => .any)⟩,
  ⟨0x8030, 1, 1, 0x08, 1, "RELEASE_RAMP", .bool, 1, .rw, 2, .per, (fun _ _ _ => 1), (fun _ _ _ => .le 0 1)⟩,
  ⟨0x8040, 1, 1, 0x01, 1, "SYNC_ENABLE", .bool, 1, .rw, 2, .per, (fun _ _ _ => 0), (fun _ _ _ => .le 0 1)⟩,
  ⟨0x8040, 1, 1, 0x02, 1, "SYNC_POSITION", .u8, 1, .rw, 2, .per, (fun _ _ _ => 0), (fun _ _ _ => .le 0 16)⟩,
  ⟨0x8040, 1, 1, 0x03, 1, "SYNC_RING_SIZE", .u8, 1, .rw, 2, .per, (fun _ _ _ => 1), (fun _ _ _ => .le 1 17)⟩,
  ⟨0x8040, 1, 1, 0x04, 1, "SYNC_STEP_LIMIT", .u16, 2, .rw, 2, .per, (fun _ _ _ => 300), (fun _ _ _ => .le 50 8000)⟩]

/-- More objects of 0x8000. -/
def rows8_2 : List Row := [
  ⟨0x8040, 1, 1, 0x05, 1, "SYNC_SLOT", .u16, 2, .rw, 2, .per, (fun _ _ _ => 2000), (fun _ _ _ => .le 500 20000)⟩,
  ⟨0x8040, 1, 1, 0x06, 1, "SYNC_MAX_DEFER", .u16, 2, .rw, 2, .per, (fun _ _ _ => 5000), (fun _ _ _ => .le 0 20000)⟩,
  ⟨0x8040, 1, 1, 0x07, 1, "SYNC_STATE", .enum8, 1, .r, 0, .vol, (fun _ _ _ => 0), (fun _ _ _ => .any)⟩,
  ⟨0x8040, 1, 1, 0x08, 1, "SYNC_DEFER_COUNT", .u32, 4, .rw1c, 1, .vol, (fun _ _ _ => 0), (fun _ _ _ => .any)⟩,
  ⟨0x8040, 1, 1, 0x09, 1, "SYNC_FORCED_COUNT", .u32, 4, .rw1c, 1, .vol, (fun _ _ _ => 0), (fun _ _ _ => .any)⟩,
  ⟨0x8100, 48, 1, 0x01, 1, "SLOT_STATE", .enum8, 1, .r, 0, .vol, (fun _ _ _ => 0), (fun _ _ _ => .any)⟩,
  ⟨0x8100, 48, 1, 0x02, 1, "SLOT_AUTO_ON", .bool, 1, .rw, 2, .per, (fun _ _ _ => 1), (fun _ _ _ => .le 0 1)⟩,
  ⟨0x8100, 48, 1, 0x03, 1, "SLOT_QUAY", .u8, 1, .rw, 2, .per, (fun _ _ _ => 255), (fun p _ _ => if p = .w384 then .codes ((List.range 96) ++ [0xFF]) else .codes ((List.range 128) ++ [0xFF]))⟩,
  ⟨0x8100, 48, 1, 0x04, 1, "SLOT_SUPPLY", .enum8, 1, .rw, 2, .per, (fun _ _ _ => 0), (fun _ _ _ => .le 0 2)⟩,
  ⟨0x8100, 48, 1, 0x05, 1, "RAMP_RATE", .u8, 1, .rw, 2, .per, (fun _ _ _ => 10), (fun _ _ _ => .le 1 100)⟩,
  ⟨0x8100, 48, 1, 0x06, 1, "CURRENT_LIMIT", .u8, 1, .rw, 2, .per, (fun _ _ _ => 60), (fun _ _ _ => .le 10 100)⟩,
  ⟨0x8100, 48, 1, 0x07, 1, "FAULT_TIMER", .u8, 1, .rw, 2, .per, (fun _ _ _ => 10), (fun _ _ _ => .le 1 100)⟩,
  ⟨0x8100, 48, 1, 0x08, 1, "SEAT_DEBOUNCE", .u16, 2, .rw, 2, .per, (fun _ _ _ => 50), (fun _ _ _ => .le 10 1000)⟩,
  ⟨0x8100, 48, 1, 0x09, 1, "RETRY_DELAY", .u16, 2, .rw, 2, .per, (fun _ _ _ => 10), (fun _ _ _ => .le 5 600)⟩,
  ⟨0x8100, 48, 1, 0x0A, 1, "RETRY_LIMIT", .u8, 1, .rw, 2, .per, (fun _ _ _ => 3), (fun _ _ _ => .any)⟩,
  ⟨0x8100, 48, 1, 0x0B, 1, "PG_SETTLE", .u8, 1, .rw, 2, .per, (fun _ _ _ => 5), (fun _ _ _ => .le 1 100)⟩]

/-- More objects of 0x8000. -/
def rows8_3 : List Row := [
  ⟨0x8100, 48, 1, 0x0C, 1, "PERST_DELAY", .u16, 2, .rw, 2, .per, (fun _ _ _ => 100), (fun _ _ _ => .le 100 1000)⟩,
  ⟨0x8100, 48, 1, 0x0D, 1, "PWRWARN_LEVEL", .q16, 4, .rw, 2, .per, (fun _ _ _ => 720896), (fun _ _ _ => .le 655360 773324)⟩,
  ⟨0x8100, 48, 1, 0x0E, 1, "SLOT_POWER", .cmd, 1, .cmd, 2, .vol, (fun _ _ _ => 0), (fun _ _ _ => .le 0 1)⟩,
  ⟨0x8100, 48, 1, 0x0F, 1, "SLOT_RESET_FAULT", .cmd, 0, .cmd, 2, .vol, (fun _ _ _ => 0), (fun _ _ _ => .any)⟩,
  ⟨0x8100, 48, 1, 0x10, 1, "SLOT_VIN", .q16, 4, .r, 0, .vol, (fun _ _ _ => 0), (fun _ _ _ => .any)⟩,
  ⟨0x8100, 48, 1, 0x11, 1, "SLOT_VOUT", .q16, 4, .r, 0, .vol, (fun _ _ _ => 0), (fun _ _ _ => .any)⟩,
  ⟨0x8100, 48, 1, 0x12, 1, "SLOT_IOUT", .q16, 4, .r, 0, .vol, (fun _ _ _ => 0), (fun _ _ _ => .any)⟩,
  ⟨0x8100, 48, 1, 0x13, 1, "SLOT_FLAGS", .bits32, 4, .r, 0, .vol, (fun _ _ _ => 0), (fun _ _ _ => .any)⟩,
  ⟨0x8100, 48, 1, 0x14, 1, "COOLDOWN_REMAINING", .u16, 2, .r, 0, .vol, (fun _ _ _ => 0), (fun _ _ _ => .any)⟩,
  ⟨0x8100, 48, 1, 0x15, 1, "TRIP_COUNT", .u32, 4, .rw1c, 1, .vol, (fun _ _ _ => 0), (fun _ _ _ => .any)⟩,
  ⟨0x8100, 48, 1, 0x16, 1, "LAST_TRIP_TIME", .time64, 8, .r, 0, .vol, (fun _ _ _ => 0), (fun _ _ _ => .any)⟩,
  ⟨0x8180, 2, 1, 0x01, 1, "BP_STATE", .enum8, 1, .r, 0, .vol, (fun _ _ _ => 0), (fun _ _ _ => .any)⟩,
  ⟨0x8180, 2, 1, 0x02, 1, "BP_ENABLE", .bool, 1, .rw, 2, .per, (fun _ _ _ => 0), (fun _ _ _ => .le 0 1)⟩,
  ⟨0x8180, 2, 1, 0x03, 1, "BP_PRECHARGE_LIMIT", .u16, 2, .rw, 2, .per, (fun _ _ _ => 200), (fun _ _ _ => .le 10 2000)⟩,
  ⟨0x8180, 2, 1, 0x04, 1, "BP_CURRENT_LIMIT", .u8, 1, .rw, 2, .per, (fun _ _ _ => 40), (fun _ _ _ => .le 5 100)⟩,
  ⟨0x8180, 2, 1, 0x05, 1, "BP_VIN", .q16, 4, .r, 0, .vol, (fun _ _ _ => 0), (fun _ _ _ => .any)⟩]

/-- More objects of 0x8000. -/
def rows8_4 : List Row := [
  ⟨0x8180, 2, 1, 0x06, 1, "BP_VBUS", .q16, 4, .r, 0, .vol, (fun _ _ _ => 0), (fun _ _ _ => .any)⟩,
  ⟨0x8180, 2, 1, 0x07, 1, "BP_IOUT", .q16, 4, .r, 0, .vol, (fun _ _ _ => 0), (fun _ _ _ => .any)⟩,
  ⟨0x8180, 2, 1, 0x08, 1, "BP_RESET_FAULT", .cmd, 0, .cmd, 2, .vol, (fun _ _ _ => 0), (fun _ _ _ => .any)⟩,
  ⟨0x8180, 2, 1, 0x09, 1, "BP_TRIP_COUNT", .u32, 4, .rw1c, 1, .vol, (fun _ _ _ => 0), (fun _ _ _ => .any)⟩]

/-- The objects of 0x9000 to 0x9FFF. -/
def rows9_0 : List Row := [
  ⟨0x9000, 1, 1, 0x01, 1, "LIFECYCLE", .enum8, 1, .r, 0, .per, (fun _ _ _ => 1), (fun _ _ _ => .any)⟩,
  ⟨0x9000, 1, 1, 0x02, 1, "BW_STATE", .enum8, 1, .r, 0, .vol, (fun _ _ _ => 0), (fun _ _ _ => .any)⟩,
  ⟨0x9000, 1, 1, 0x03, 1, "SERVICE_INDICATOR", .bool, 1, .r, 0, .vol, (fun _ _ _ => 1), (fun _ _ _ => .any)⟩,
  ⟨0x9000, 1, 1, 0x04, 1, "ERROR_CAUSE", .u16, 2, .r, 0, .per, (fun _ _ _ => 0), (fun _ _ _ => .any)⟩,
  ⟨0x9000, 1, 1, 0x05, 1, "SELF_TEST", .cmd, 0, .cmd, 3, .vol, (fun _ _ _ => 0), (fun _ _ _ => .any)⟩,
  ⟨0x9000, 1, 1, 0x06, 1, "LAST_SELF_TEST", .time64, 8, .r, 0, .vol, (fun _ _ _ => 0), (fun _ _ _ => .any)⟩,
  ⟨0x9000, 1, 1, 0x07, 1, "SELF_TEST_FAILURES", .u32, 4, .rw1c, 1, .vol, (fun _ _ _ => 0), (fun _ _ _ => .any)⟩,
  ⟨0x9000, 1, 1, 0x08, 1, "TAMPER_COUNT", .u32, 4, .r, 0, .per, (fun _ _ _ => 0), (fun _ _ _ => .any)⟩,
  ⟨0x9001, 1, 1, 0x01, 1, "LIFECYCLE_ARM", .cmd, 1, .cmd, 3, .vol, (fun _ _ _ => 0), (fun _ _ _ => .le 1 3)⟩,
  ⟨0x9001, 1, 1, 0x02, 1, "LIFECYCLE_CONFIRM", .cmd, 1, .cmd, 3, .vol, (fun _ _ _ => 0), (fun _ _ _ => .le 1 3)⟩,
  ⟨0x9001, 1, 1, 0x03, 1, "RESEAL_COUNT", .u8, 1, .r, 0, .per, (fun _ _ _ => 0), (fun _ _ _ => .any)⟩,
  ⟨0x9002, 1, 1, 0x01, 1, "ZEROISE", .cmd, 0, .cmd, 3, .vol, (fun _ _ _ => 0), (fun _ _ _ => .any)⟩,
  ⟨0x9002, 1, 1, 0x02, 1, "ZEROISE_COUNT", .u32, 4, .r, 0, .per, (fun _ _ _ => 0), (fun _ _ _ => .any)⟩,
  ⟨0x9002, 1, 1, 0x03, 1, "LAST_ZEROISE_CAUSE", .enum8, 1, .r, 0, .per, (fun _ _ _ => 0), (fun _ _ _ => .any)⟩,
  ⟨0x9010, 1, 1, 0x01, 1, "DEBUG_LEVEL", .enum8, 1, .r, 0, .vol, (fun _ _ _ => 0), (fun _ _ _ => .any)⟩,
  ⟨0x9010, 1, 1, 0x02, 1, "DEBUG_AUTHORISED", .enum8, 1, .r, 0, .vol, (fun _ _ _ => 0), (fun _ _ _ => .any)⟩]

/-- More objects of 0x9000. -/
def rows9_1 : List Row := [
  ⟨0x9010, 1, 1, 0x03, 1, "DEBUG_AUTHORISE", .cmd, 1, .cmd, 1, .vol, (fun _ _ _ => 0), (fun _ _ _ => .le 1 3)⟩,
  ⟨0x9010, 1, 1, 0x04, 1, "DEBUG_REVOKE", .cmd, 0, .cmd, 1, .vol, (fun _ _ _ => 0), (fun _ _ _ => .any)⟩,
  ⟨0x9010, 1, 1, 0x05, 1, "DEBUG_HISTORY", .bits32, 4, .r, 0, .per, (fun _ _ _ => 0), (fun _ _ _ => .any)⟩,
  ⟨0x9020, 1, 1, 0x01, 63, "CREDENTIAL", .octets, 112, .rw, 3, .per, (fun _ _ _ => 0), (fun _ _ _ => .any)⟩,
  ⟨0x9020, 1, 1, 0x40, 1, "VENDOR_CREDENTIAL", .octets, 112, .r, 0, .per, (fun _ _ _ => Config.vendorCredential), (fun _ _ _ => .any)⟩,
  ⟨0x9021, 1, 1, 0x01, 1, "CREDENTIAL_COUNT", .u8, 1, .r, 0, .vol, (fun _ _ _ => 0), (fun _ _ _ => .any)⟩,
  ⟨0x9021, 1, 1, 0x02, 1, "PROVISIONING_OPEN", .bool, 1, .r, 0, .vol, (fun _ _ _ => 1), (fun _ _ _ => .any)⟩,
  ⟨0x9030, 1, 1, 0x01, 1, "DEVICEID_PUBLIC", .octets, 96, .r, 0, .vol, (fun _ _ _ => 0), (fun _ _ _ => .any)⟩,
  ⟨0x9030, 1, 1, 0x02, 1, "ALIAS_PUBLIC", .octets, 96, .r, 0, .vol, (fun _ _ _ => 0), (fun _ _ _ => .any)⟩,
  ⟨0x9030, 1, 1, 0x03, 1, "MEASUREMENT_DIGEST", .octets, 48, .r, 0, .vol, (fun _ _ _ => 0), (fun _ _ _ => .any)⟩,
  ⟨0x9030, 1, 1, 0x04, 1, "CERT_SLOTS", .bits32, 4, .r, 0, .vol, (fun _ _ _ => 1), (fun _ _ _ => .any)⟩,
  ⟨0x9040, 1, 1, 0x01, 1, "FW_NEXT_SLOT", .enum8, 1, .rw, 3, .per, (fun _ _ _ => 0), (fun _ _ _ => .le 0 1)⟩,
  ⟨0x9040, 1, 1, 0x02, 1, "FW_SLOT_A_STATE", .enum8, 1, .r, 0, .per, (fun _ _ _ => 1), (fun _ _ _ => .any)⟩,
  ⟨0x9040, 1, 1, 0x03, 1, "FW_SLOT_B_STATE", .enum8, 1, .r, 0, .per, (fun _ _ _ => 0), (fun _ _ _ => .any)⟩,
  ⟨0x9040, 1, 1, 0x04, 1, "SVN_FUSED", .u16, 2, .r, 0, .per, (fun _ _ _ => 0), (fun _ _ _ => .any)⟩,
  ⟨0x9040, 1, 1, 0x05, 1, "SVN_RUNNING", .u16, 2, .r, 0, .vol, (fun _ _ _ => 0), (fun _ _ _ => .any)⟩]

/-- More objects of 0x9000. -/
def rows9_2 : List Row := [
  ⟨0x9040, 1, 1, 0x06, 1, "SVN_COMMIT", .cmd, 0, .cmd, 3, .vol, (fun _ _ _ => 0), (fun _ _ _ => .any)⟩,
  ⟨0x9040, 1, 1, 0x07, 1, "KEY_SLOTS_REVOKED", .bits32, 4, .r, 0, .per, (fun _ _ _ => 0), (fun _ _ _ => .any)⟩,
  ⟨0x9040, 1, 1, 0x08, 1, "KEY_SLOT_REVOKE", .cmd, 1, .cmd, 3, .vol, (fun _ _ _ => 0), (fun _ _ _ => .le 0 3)⟩,
  ⟨0x9040, 1, 1, 0x09, 1, "RECOVERY_FLASH_ENABLE", .bool, 1, .rw, 3, .per, (fun _ _ _ => 0), (fun _ _ _ => .le 0 1)⟩,
  ⟨0x9050, 1, 1, 0x01, 1, "ENTROPY_HEALTH_FAILURES", .u32, 4, .rw1c, 1, .vol, (fun _ _ _ => 0), (fun _ _ _ => .any)⟩,
  ⟨0x9050, 1, 1, 0x02, 1, "DRBG_RESEEDS", .u32, 4, .r, 0, .vol, (fun _ _ _ => 0), (fun _ _ _ => .any)⟩,
  ⟨0x9060, 1, 1, 0x01, 8, "TRUST_ANCHOR", .octets, 48, .rw, 3, .per, (fun _ _ _ => 0), (fun _ _ _ => .any)⟩,
  ⟨0x9060, 1, 1, 0x09, 1, "IDE_REKEY_INTERVAL", .u32, 4, .rw, 2, .per, (fun _ _ _ => 3600), (fun _ _ _ => .le 60 86400)⟩,
  ⟨0x9100, 128, 1, 0x01, 1, "IDE_REQUIRED", .bool, 1, .rw, 2, .per, (fun _ _ _ => 0), (fun _ _ _ => .le 0 1)⟩,
  ⟨0x9100, 128, 1, 0x02, 1, "IDE_LINK_STATE", .enum8, 1, .r, 0, .vol, (fun _ _ _ => 0), (fun _ _ _ => .any)⟩,
  ⟨0x9100, 128, 1, 0x03, 1, "IDE_SEL_STREAMS", .u8, 1, .r, 0, .vol, (fun _ _ _ => 0), (fun _ _ _ => .any)⟩,
  ⟨0x9100, 128, 1, 0x04, 1, "IDE_ACTIVE_KEY_SET", .u8, 1, .r, 0, .vol, (fun _ _ _ => 0), (fun _ _ _ => .any)⟩,
  ⟨0x9100, 128, 1, 0x05, 1, "IDE_INTEGRITY_FAILS", .u32, 4, .rw1c, 1, .vol, (fun _ _ _ => 0), (fun _ _ _ => .any)⟩,
  ⟨0x9100, 128, 1, 0x06, 1, "IDE_KEY_UPDATES", .u32, 4, .rw1c, 1, .vol, (fun _ _ _ => 0), (fun _ _ _ => .any)⟩]

/-- The objects of 0xA000 to 0xAFFF. -/
def rowsA_0 : List Row := [
  ⟨0xA010, 3, 1, 0x01, 1, "STATUS", .u64, 8, .r, 0, .vol, (fun _ _ _ => 0), (fun _ _ _ => .any)⟩,
  ⟨0xA010, 3, 1, 0x02, 1, "FIRST_SOURCE", .u16, 2, .r, 0, .vol, (fun _ _ _ => 0), (fun _ _ _ => .any)⟩,
  ⟨0xA010, 3, 1, 0x03, 1, "FIRST_TIME", .time64, 8, .r, 0, .vol, (fun _ _ _ => 0), (fun _ _ _ => .any)⟩,
  ⟨0xA010, 3, 1, 0x04, 1, "FIRST_TYPE", .u16, 2, .r, 0, .vol, (fun _ _ _ => 0), (fun _ _ _ => .any)⟩,
  ⟨0xA010, 3, 1, 0x05, 1, "CLASS_STATE", .enum8, 1, .r, 0, .vol, (fun _ _ _ => 0), (fun _ _ _ => .any)⟩,
  ⟨0xA010, 3, 1, 0x06, 1, "CLASS_COUNT", .u32, 4, .r, 0, .vol, (fun _ _ _ => 0), (fun _ _ _ => .any)⟩,
  ⟨0xA010, 3, 1, 0x07, 1, "CLASS_ACK", .cmd, 4, .cmd, 2, .vol, (fun _ _ _ => 0), (fun _ _ _ => .any)⟩,
  ⟨0xA011, 2, 1, 0x08, 1, "WINDOW", .u32, 4, .rw, 2, .per, (fun _ i _ => if i = 0 then 5000 else 1000), (fun _ i _ => if i = 0 then .le 100 100000 else .le 100 10000)⟩,
  ⟨0xA020, 1, 1, 0x01, 1, "INTERNAL_TIMEOUT", .u32, 4, .rw, 2, .per, (fun _ _ _ => 50), (fun _ _ _ => .le 10 1000)⟩,
  ⟨0xA020, 1, 1, 0x02, 1, "SYNTH_RESPONSES", .u32, 4, .rw1c, 1, .vol, (fun _ _ _ => 0), (fun _ _ _ => .any)⟩,
  ⟨0xA020, 1, 1, 0x03, 1, "INTERNAL_LATE_DISCARDS", .u32, 4, .rw1c, 1, .vol, (fun _ _ _ => 0), (fun _ _ _ => .any)⟩,
  ⟨0xA030, 1, 1, 0x01, 1, "EXT_COMPLETION_TIMEOUT", .u32, 4, .rw, 2, .per, (fun _ _ _ => 10000), (fun _ _ _ => .le 2000 4000000)⟩,
  ⟨0xA030, 1, 1, 0x02, 1, "LATE_DISCARD_COUNT", .u32, 4, .rw1c, 1, .vol, (fun _ _ _ => 0), (fun _ _ _ => .any)⟩,
  ⟨0xA040, 1, 1, 0x01, 1, "SOURCE_SELECT", .u16, 2, .rw, 1, .vol, (fun _ _ _ => 0), (fun _ _ _ => .any)⟩,
  ⟨0xA040, 1, 1, 0x02, 1, "SOURCE_VIEW", .octets, 32, .r, 0, .vol, (fun _ _ _ => 0), (fun _ _ _ => .any)⟩,
  ⟨0xA040, 1, 1, 0x03, 1, "SOURCE_CLEAR", .cmd, 2, .cmd, 1, .vol, (fun _ _ _ => 0), (fun _ _ _ => .any)⟩]

/-- More objects of 0xA000. -/
def rowsA_1 : List Row := [
  ⟨0xA050, 1, 1, 0x01, 1, "FENCE_UNIT", .cmd, 2, .cmd, 2, .vol, (fun _ _ _ => 0), (fun _ _ _ => .any)⟩,
  ⟨0xA050, 1, 1, 0x02, 1, "FENCED_SLICES", .bits32, 4, .r, 0, .per, (fun p _ _ => if p = .w384 then 0xF000 else 0), (fun _ _ _ => .any)⟩,
  ⟨0xA050, 1, 1, 0x03, 1, "FENCED_ENGINES", .bits32, 4, .r, 0, .per, (fun p _ _ => if p = .w384 then 0xF000 else 0), (fun _ _ _ => .any)⟩,
  ⟨0xA050, 1, 1, 0x04, 1, "FENCED_CORES", .bits32, 4, .r, 0, .per, (fun _ _ _ => 0), (fun _ _ _ => .any)⟩,
  ⟨0xA050, 1, 1, 0x05, 1, "FENCE_CLEAR", .cmd, 2, .cmd, 2, .vol, (fun _ _ _ => 0), (fun _ _ _ => .any)⟩,
  ⟨0xA050, 1, 1, 0x06, 1, "FENCE_POISONED_LINES", .u32, 4, .r, 0, .vol, (fun _ _ _ => 0), (fun _ _ _ => .any)⟩,
  ⟨0xA060, 1, 1, 0x01, 1, "SALVAGE_FLUSH_STATE", .enum8, 1, .r, 0, .per, (fun _ _ _ => 0), (fun _ _ _ => .any)⟩,
  ⟨0xA060, 1, 1, 0x02, 1, "SALVAGE_LOST_LINES", .u32, 4, .r, 0, .per, (fun _ _ _ => 0), (fun _ _ _ => .any)⟩,
  ⟨0xA060, 1, 1, 0x03, 1, "LAST_FATAL", .octets, 64, .r, 0, .per, (fun _ _ _ => 0), (fun _ _ _ => .any)⟩]

/-- The objects of 0xB000 to 0xBFFF. -/
def rowsB_0 : List Row := [
  ⟨0xB000, 1, 1, 0x01, 1, "BRIDGE_ERRORS", .u32, 4, .rw1c, 1, .vol, (fun _ _ _ => 0), (fun _ _ _ => .any)⟩,
  ⟨0xB000, 1, 1, 0x02, 1, "DISCARD_COUNT", .u32, 4, .rw1c, 1, .vol, (fun _ _ _ => 0), (fun _ _ _ => .any)⟩,
  ⟨0xB000, 1, 1, 0x03, 1, "DISCARD_LOG_SELECT", .u8, 1, .rw, 0, .vol, (fun _ _ _ => 0), (fun _ _ _ => .le 0 15)⟩,
  ⟨0xB000, 1, 1, 0x04, 1, "DISCARD_LOG_ENTRY", .octets, 96, .r, 0, .vol, (fun _ _ _ => 0), (fun _ _ _ => .any)⟩,
  ⟨0xB000, 1, 1, 0x05, 1, "ALERT_LAST", .octets, 16, .r, 0, .vol, (fun _ _ _ => 0), (fun _ _ _ => .any)⟩,
  ⟨0xB100, 50, 1, 0x01, 1, "BUS_MODE", .enum8, 1, .rw, 2, .per, (fun _ _ _ => 0), (fun _ i _ => if i ≤ 47 then .le 0 3 else .le 0 2)⟩,
  ⟨0xB100, 50, 1, 0x02, 1, "POLL_PERIOD", .u32, 4, .rw, 2, .per, (fun _ _ _ => 1000), (fun _ _ _ => .le 10 10000)⟩,
  ⟨0xB100, 50, 1, 0x03, 1, "SB_SIGNALS", .bits32, 4, .r, 0, .vol, (fun _ _ _ => 0), (fun _ _ _ => .any)⟩,
  ⟨0xB100, 50, 1, 0x04, 1, "BUS_STATE", .enum8, 1, .r, 0, .vol, (fun _ _ _ => 0), (fun _ _ _ => .any)⟩,
  ⟨0xB100, 50, 1, 0x05, 1, "BUS_ERRORS", .u32, 4, .rw1c, 1, .vol, (fun _ _ _ => 0), (fun _ _ _ => .any)⟩,
  ⟨0xB200, 128, 1, 0x01, 1, "WIN_ENABLE", .bool, 1, .rw, 2, .per, (fun _ _ _ => 0), (fun _ _ _ => .le 0 1)⟩,
  ⟨0xB200, 128, 1, 0x02, 1, "WIN_QUAY", .u8, 1, .rw, 2, .per, (fun _ _ _ => 0), (fun p _ _ => if p = .w384 then .le 0 95 else .le 0 127)⟩,
  ⟨0xB200, 128, 1, 0x03, 1, "WIN_FRAME", .u8, 1, .rw, 2, .per, (fun _ _ _ => 0), (fun _ _ _ => .le 0 15)⟩,
  ⟨0xB200, 128, 1, 0x04, 1, "WIN_BUS", .u8, 1, .rw, 2, .per, (fun _ _ _ => 0), (fun _ _ _ => .le 0 49)⟩,
  ⟨0xB200, 128, 1, 0x05, 1, "WIN_ADDRESS", .u8, 1, .rw, 2, .per, (fun _ _ _ => 80), (fun _ _ _ => .le 8 119)⟩,
  ⟨0xB200, 128, 1, 0x06, 1, "WIN_FORM", .enum8, 1, .rw, 2, .per, (fun _ _ _ => 0), (fun _ _ _ => .le 0 1)⟩]

/-- More objects of 0xB000. -/
def rowsB_1 : List Row := [
  ⟨0xB200, 128, 1, 0x07, 1, "WIN_PAGE", .u16, 2, .rw, 2, .per, (fun _ _ _ => 32), (fun _ _ _ => .codes [1, 2, 4, 8, 16, 32, 64, 128, 256])⟩,
  ⟨0xB200, 128, 1, 0x08, 1, "WIN_POSTED", .bool, 1, .rw, 2, .per, (fun _ _ _ => 1), (fun _ _ _ => .le 0 1)⟩,
  ⟨0xB200, 128, 1, 0x09, 1, "WIN_SWAP", .enum8, 1, .rw, 2, .per, (fun _ _ _ => 0), (fun _ _ _ => .le 0 2)⟩,
  ⟨0xB200, 128, 1, 0x0A, 1, "WIN_PEC", .bool, 1, .rw, 2, .per, (fun _ _ _ => 0), (fun _ _ _ => .le 0 1)⟩,
  ⟨0xB200, 128, 1, 0x0B, 1, "WIN_HOLD", .u8, 1, .rw, 2, .per, (fun _ _ _ => 0), (fun _ _ _ => .le 0 20)⟩,
  ⟨0xB200, 128, 1, 0x0C, 1, "WIN_DISCARD_TIMER", .u16, 2, .rw, 2, .per, (fun _ _ _ => 10), (fun _ _ _ => .le 1 1000)⟩,
  ⟨0xB200, 128, 1, 0x0D, 1, "WIN_WRITE_FAILS", .u32, 4, .rw1c, 1, .vol, (fun _ _ _ => 0), (fun _ _ _ => .any)⟩,
  ⟨0xB200, 128, 1, 0x0E, 1, "WIN_LAST_WRITE_FAIL", .octets, 16, .r, 0, .vol, (fun _ _ _ => 0), (fun _ _ _ => .any)⟩,
  ⟨0xB300, 64, 1, 0x01, 1, "SENSOR_ENABLE", .bool, 1, .rw, 2, .per, (fun _ _ _ => 0), (fun _ _ _ => .le 0 1)⟩,
  ⟨0xB300, 64, 1, 0x02, 1, "SENSOR_BUS", .u8, 1, .rw, 2, .per, (fun _ _ _ => 48), (fun _ _ _ => .le 48 49)⟩,
  ⟨0xB300, 64, 1, 0x03, 1, "SENSOR_ADDRESS", .u8, 1, .rw, 2, .per, (fun _ _ _ => 64), (fun _ _ _ => .le 8 119)⟩,
  ⟨0xB300, 64, 1, 0x04, 1, "SENSOR_PAGE", .u8, 1, .rw, 2, .per, (fun _ _ _ => 255), (fun _ _ _ => .any)⟩,
  ⟨0xB300, 64, 1, 0x05, 1, "SENSOR_COMMAND", .u8, 1, .rw, 2, .per, (fun _ _ _ => 139), (fun _ _ _ => .le 0 255)⟩,
  ⟨0xB300, 64, 1, 0x06, 1, "SENSOR_FORMAT", .enum8, 1, .rw, 2, .per, (fun _ _ _ => 1), (fun _ _ _ => .le 0 2)⟩,
  ⟨0xB300, 64, 1, 0x07, 1, "SENSOR_SCALE", .q16, 4, .rw, 2, .per, (fun _ _ _ => 65536), (fun _ _ _ => .any)⟩,
  ⟨0xB300, 64, 1, 0x08, 1, "SENSOR_PERIOD", .u16, 2, .rw, 2, .per, (fun _ _ _ => 100), (fun _ _ _ => .le 1 10000)⟩]

/-- More objects of 0xB000. -/
def rowsB_2 : List Row := [
  ⟨0xB300, 64, 1, 0x09, 1, "SENSOR_VALUE", .q16, 4, .r, 0, .vol, (fun _ _ _ => 0), (fun _ _ _ => .any)⟩,
  ⟨0xB300, 64, 1, 0x0A, 1, "SENSOR_RAW", .u16, 2, .r, 0, .vol, (fun _ _ _ => 0), (fun _ _ _ => .any)⟩,
  ⟨0xB300, 64, 1, 0x0B, 1, "SENSOR_HIGH", .q16, 4, .rw, 1, .per, (fun _ _ _ => 0x7FFFFFFF), (fun _ _ _ => .any)⟩,
  ⟨0xB300, 64, 1, 0x0C, 1, "SENSOR_LOW", .q16, 4, .rw, 1, .per, (fun _ _ _ => 0x80000000), (fun _ _ _ => .any)⟩,
  ⟨0xB300, 64, 1, 0x0D, 1, "SENSOR_STATUS", .enum8, 1, .r, 0, .vol, (fun _ _ _ => 0), (fun _ _ _ => .any)⟩]

/-- The objects of 0xC000 to 0xCFFF. -/
def rowsC_0 : List Row := [
  ⟨0xC000, 1, 1, 0x01, 1, "COUNT_ENABLE", .bool, 1, .rw, 1, .vol, (fun _ _ _ => 1), (fun _ _ _ => .le 0 1)⟩,
  ⟨0xC000, 1, 1, 0x02, 1, "RATE_PORT", .u8, 1, .rw, 1, .vol, (fun _ _ _ => 128), (fun _ _ _ => .le 0 195)⟩,
  ⟨0xC000, 1, 1, 0x03, 1, "RATE_MEASURED", .u16, 2, .r, 0, .vol, (fun _ _ _ => 0), (fun _ _ _ => .any)⟩,
  ⟨0xC001, 1, 1, 0x01, 1, "TLM_ENABLE", .bool, 1, .rw, 1, .per, (fun _ _ _ => 0), (fun _ _ _ => .le 0 1)⟩,
  ⟨0xC001, 1, 1, 0x02, 1, "TLM_PERIOD", .u32, 4, .rw, 1, .per, (fun _ _ _ => 1000), (fun _ _ _ => .le 1 60000)⟩,
  ⟨0xC001, 1, 1, 0x03, 1, "TLM_QUAY_MASK", .octets, 16, .rw, 1, .per, (fun _ _ _ => 0), (fun _ _ _ => .any)⟩,
  ⟨0xC001, 1, 1, 0x04, 1, "TLM_SLICES", .bool, 1, .rw, 1, .per, (fun _ _ _ => 0), (fun _ _ _ => .le 0 1)⟩,
  ⟨0xC001, 1, 1, 0x05, 1, "TLM_SEQ", .u64, 8, .r, 0, .vol, (fun _ _ _ => 0), (fun _ _ _ => .any)⟩,
  ⟨0xC001, 1, 1, 0x06, 1, "TLM_READ_SEQ", .u64, 8, .rw, 0, .vol, (fun _ _ _ => 0), (fun _ _ _ => .any)⟩,
  ⟨0xC001, 1, 1, 0x07, 1, "TLM_RECORD", .octets, 64, .r, 0, .vol, (fun _ _ _ => 0), (fun _ _ _ => .any)⟩,
  ⟨0xC002, 1, 1, 0x01, 1, "TRACE_CONTROL", .bits32, 4, .rw, 1, .vol, (fun _ _ _ => 65535), (fun _ _ _ => .bits 0xF8FFFFFF)⟩,
  ⟨0xC002, 1, 1, 0x02, 1, "TRACE_FILTER", .octets, 24, .rw, 1, .vol, (fun _ _ _ => 0), (fun _ _ _ => .any)⟩,
  ⟨0xC002, 1, 1, 0x03, 1, "TRACE_START", .cmd, 0, .cmd, 1, .vol, (fun _ _ _ => 0), (fun _ _ _ => .any)⟩,
  ⟨0xC002, 1, 1, 0x04, 1, "TRACE_STOP", .cmd, 0, .cmd, 1, .vol, (fun _ _ _ => 0), (fun _ _ _ => .any)⟩,
  ⟨0xC002, 1, 1, 0x05, 1, "TRACE_STATE", .enum8, 1, .r, 0, .vol, (fun _ _ _ => 0), (fun _ _ _ => .any)⟩,
  ⟨0xC002, 1, 1, 0x06, 1, "TRACE_COUNT", .u32, 4, .r, 0, .vol, (fun _ _ _ => 0), (fun _ _ _ => .any)⟩]

/-- More objects of 0xC000. -/
def rowsC_1 : List Row := [
  ⟨0xC002, 1, 1, 0x07, 1, "TRACE_READ_INDEX", .u32, 4, .rw, 0, .vol, (fun _ _ _ => 0), (fun _ _ _ => .le 0 65535)⟩,
  ⟨0xC002, 1, 1, 0x08, 1, "TRACE_RECORD", .octets, 32, .r, 0, .vol, (fun _ _ _ => 0), (fun _ _ _ => .any)⟩,
  ⟨0xC002, 1, 1, 0x09, 1, "TRACE_DROPS", .u32, 4, .rw1c, 1, .vol, (fun _ _ _ => 0), (fun _ _ _ => .any)⟩,
  ⟨0xC100, 128, 1, 0x01, 1, "TIME_BASE", .u64, 8, .r, 0, .vol, (fun _ _ _ => 0), (fun _ _ _ => .any)⟩,
  ⟨0xC100, 128, 1, 0x02, 1, "CTR_OVERFLOW", .bits32, 4, .rw1c, 1, .vol, (fun _ _ _ => 0), (fun _ _ _ => .bits 0xFF)⟩,
  ⟨0xC100, 128, 1, 0x03, 1, "BW_WINDOW", .u32, 4, .rw, 1, .per, (fun _ _ _ => 1000), (fun _ _ _ => .le 1 1000000)⟩,
  ⟨0xC100, 128, 1, 0x04, 1, "BW_RX", .u32, 4, .r, 0, .vol, (fun _ _ _ => 0), (fun _ _ _ => .any)⟩,
  ⟨0xC100, 128, 1, 0x05, 1, "BW_TX", .u32, 4, .r, 0, .vol, (fun _ _ _ => 0), (fun _ _ _ => .any)⟩,
  ⟨0xC100, 128, 1, 0x06, 1, "TB_LOSS_COUNT", .u32, 4, .rw1c, 1, .vol, (fun _ _ _ => 0), (fun _ _ _ => .any)⟩,
  ⟨0xC100, 128, 1, 0x10, 8, "CTR_CONFIG", .bits32, 4, .rw, 1, .vol, (fun _ _ _ => 0), (fun _ _ _ => .any)⟩,
  ⟨0xC100, 128, 1, 0x20, 8, "CTR_VALUE", .u64, 8, .rw, 1, .vol, (fun _ _ _ => 0), (fun _ _ _ => .le 0 0xFFFFFFFFFFFF)⟩,
  ⟨0xC100, 128, 1, 0x30, 8, "CTR_FILTER", .octets, 24, .rw, 1, .vol, (fun _ _ _ => 0), (fun _ _ _ => .any)⟩,
  ⟨0xC200, 16, 1, 0x02, 1, "CTR_OVERFLOW", .bits32, 4, .rw1c, 1, .vol, (fun _ _ _ => 0), (fun _ _ _ => .bits 0xFF)⟩,
  ⟨0xC200, 16, 1, 0x10, 8, "CTR_CONFIG", .bits32, 4, .rw, 1, .vol, (fun _ _ _ => 0), (fun _ _ _ => .any)⟩,
  ⟨0xC200, 16, 1, 0x20, 8, "CTR_VALUE", .u64, 8, .rw, 1, .vol, (fun _ _ _ => 0), (fun _ _ _ => .le 0 0xFFFFFFFFFFFF)⟩,
  ⟨0xC200, 16, 1, 0x30, 8, "CTR_FILTER", .octets, 24, .rw, 1, .vol, (fun _ _ _ => 0), (fun _ _ _ => .any)⟩]

/-- More objects of 0xC000. -/
def rowsC_2 : List Row := [
  ⟨0xC300, 16, 1, 0x02, 1, "CTR_OVERFLOW", .bits32, 4, .rw1c, 1, .vol, (fun _ _ _ => 0), (fun _ _ _ => .bits 0xF)⟩,
  ⟨0xC300, 16, 1, 0x10, 4, "CTR_CONFIG", .bits32, 4, .rw, 1, .vol, (fun _ _ _ => 0), (fun _ _ _ => .any)⟩,
  ⟨0xC300, 16, 1, 0x20, 4, "CTR_VALUE", .u64, 8, .rw, 1, .vol, (fun _ _ _ => 0), (fun _ _ _ => .le 0 0xFFFFFFFFFFFF)⟩,
  ⟨0xC300, 16, 1, 0x30, 4, "CTR_FILTER", .octets, 24, .rw, 1, .vol, (fun _ _ _ => 0), (fun _ _ _ => .any)⟩,
  ⟨0xC400, 1, 1, 0x02, 1, "CTR_OVERFLOW", .bits32, 4, .rw1c, 1, .vol, (fun _ _ _ => 0), (fun _ _ _ => .bits 0xF)⟩,
  ⟨0xC400, 1, 1, 0x10, 4, "CTR_CONFIG", .bits32, 4, .rw, 1, .vol, (fun _ _ _ => 0), (fun _ _ _ => .any)⟩,
  ⟨0xC400, 1, 1, 0x20, 4, "CTR_VALUE", .u64, 8, .rw, 1, .vol, (fun _ _ _ => 0), (fun _ _ _ => .le 0 0xFFFFFFFFFFFF)⟩,
  ⟨0xC400, 1, 1, 0x30, 4, "CTR_FILTER", .octets, 24, .rw, 1, .vol, (fun _ _ _ => 0), (fun _ _ _ => .any)⟩,
  ⟨0xC500, 40, 1, 0x01, 1, "INIT_COMPLETED", .u64, 8, .r, 0, .vol, (fun _ _ _ => 0), (fun _ _ _ => .any)⟩,
  ⟨0xC500, 40, 1, 0x02, 1, "INIT_BYTES", .u64, 8, .r, 0, .vol, (fun _ _ _ => 0), (fun _ _ _ => .any)⟩,
  ⟨0xC500, 40, 1, 0x03, 1, "INIT_TIMEOUTS", .u32, 4, .r, 0, .vol, (fun _ _ _ => 0), (fun _ _ _ => .any)⟩,
  ⟨0xC500, 40, 1, 0x04, 1, "LAT_MIN", .u32, 4, .r, 0, .vol, (fun _ _ _ => 0xFFFFFFFF), (fun _ _ _ => .any)⟩,
  ⟨0xC500, 40, 1, 0x05, 1, "LAT_MAX", .u32, 4, .r, 0, .vol, (fun _ _ _ => 0), (fun _ _ _ => .any)⟩,
  ⟨0xC500, 40, 1, 0x06, 1, "LAT_SUM", .u64, 8, .r, 0, .vol, (fun _ _ _ => 0), (fun _ _ _ => .any)⟩,
  ⟨0xC500, 40, 1, 0x07, 1, "LAT_HIST", .octets, 64, .r, 0, .vol, (fun _ _ _ => 0), (fun _ _ _ => .any)⟩,
  ⟨0xC500, 40, 1, 0x08, 1, "INIT_CLEAR", .cmd, 0, .cmd, 1, .vol, (fun _ _ _ => 0), (fun _ _ _ => .any)⟩]

/-- The objects of 0xD000 to 0xDFFF. -/
def rowsD_0 : List Row := [
  ⟨0xD000, 1, 1, 0x01, 1, "CURRENT_MODE", .enum8, 1, .r, 0, .vol, (fun _ _ _ => 0), (fun _ _ _ => .any)⟩,
  ⟨0xD000, 1, 1, 0x02, 1, "TARGET_MODE", .enum8, 1, .r, 0, .vol, (fun _ _ _ => 0), (fun _ _ _ => .any)⟩,
  ⟨0xD000, 1, 1, 0x03, 1, "POWER_STATE", .enum8, 1, .r, 0, .vol, (fun _ _ _ => 2), (fun _ _ _ => .any)⟩,
  ⟨0xD000, 1, 1, 0x04, 1, "TRANSITION_STATUS", .enum8, 1, .r, 0, .vol, (fun _ _ _ => 0), (fun _ _ _ => .any)⟩,
  ⟨0xD000, 1, 1, 0x05, 1, "LAST_CHANGE_TIME", .time64, 8, .r, 0, .vol, (fun _ _ _ => 0), (fun _ _ _ => .any)⟩,
  ⟨0xD000, 1, 1, 0x06, 1, "SALVAGE_CAUSE", .u16, 2, .r, 0, .per, (fun _ _ _ => 0), (fun _ _ _ => .any)⟩,
  ⟨0xD000, 1, 1, 0x07, 1, "PARK_SHORTFALL", .u8, 1, .r, 0, .vol, (fun _ _ _ => 0), (fun _ _ _ => .any)⟩,
  ⟨0xD001, 1, 1, 0x01, 1, "SERVICE_GO", .cmd, 1, .cmd, 2, .vol, (fun _ _ _ => 0), (fun _ _ _ => .le 1 3)⟩,
  ⟨0xD001, 1, 1, 0x02, 1, "MODE_CHANGE", .cmd, 1, .cmd, 2, .vol, (fun _ _ _ => 0), (fun _ _ _ => .le 1 3)⟩,
  ⟨0xD001, 1, 1, 0x03, 1, "ENTER_SALVAGE", .cmd, 0, .cmd, 2, .vol, (fun _ _ _ => 0), (fun _ _ _ => .any)⟩,
  ⟨0xD001, 1, 1, 0x04, 1, "RECOVERY_RESET", .cmd, 0, .cmd, 2, .vol, (fun _ _ _ => 0), (fun _ _ _ => .any)⟩,
  ⟨0xD001, 1, 1, 0x05, 1, "ENTER_DRYDOCK", .cmd, 0, .cmd, 3, .vol, (fun _ _ _ => 0), (fun _ _ _ => .any)⟩,
  ⟨0xD001, 1, 1, 0x06, 1, "LEAVE_DRYDOCK", .cmd, 0, .cmd, 3, .vol, (fun _ _ _ => 0), (fun _ _ _ => .any)⟩,
  ⟨0xD001, 1, 1, 0x07, 1, "POWER_STATE_REQUEST", .cmd, 1, .cmd, 2, .vol, (fun _ _ _ => 0), (fun _ _ _ => .codes [0, 2])⟩,
  ⟨0xD002, 1, 1, 0x01, 1, "AUTOSTART_ENABLE", .bool, 1, .rw, 2, .per, (fun _ _ _ => 0), (fun _ _ _ => .le 0 1)⟩,
  ⟨0xD002, 1, 1, 0x02, 1, "AUTOSTART_MODE", .enum8, 1, .rw, 2, .per, (fun _ _ _ => 1), (fun _ _ _ => .le 1 3)⟩]

/-- More objects of 0xD000. -/
def rowsD_1 : List Row := [
  ⟨0xD002, 1, 1, 0x03, 1, "AUTOSTART_DELAY", .u32, 4, .rw, 2, .per, (fun _ _ _ => 0), (fun _ _ _ => .le 0 600000)⟩,
  ⟨0xD010, 1, 1, 0x01, 1, "LULL_ENABLE", .bool, 1, .rw, 1, .per, (fun _ _ _ => 1), (fun _ _ _ => .le 0 1)⟩,
  ⟨0xD010, 1, 1, 0x02, 1, "LULL_IDLE_TIME", .u32, 4, .rw, 1, .per, (fun _ _ _ => 100), (fun _ _ _ => .le 10 1000000)⟩,
  ⟨0xD010, 1, 1, 0x03, 1, "LULL_ACTIVE_SLICES", .u8, 1, .rw, 1, .per, (fun _ _ _ => 2), (fun p _ _ => if p = .w384 then .le 2 12 else .le 2 16)⟩,
  ⟨0xD110, 3, 16, 0x01, 1, "LANE_RATE_CAP", .enum8, 1, .rw, 2, .poc, (fun _ i _ => if i = 2 then 5 else 6), (fun _ i _ => if i = 2 then .le 0 5 else .le 0 6)⟩,
  ⟨0xD110, 3, 16, 0x02, 1, "POWER_LIMIT", .u16, 2, .rw, 2, .poc, (fun _ i _ => if i = 2 then 380 else 650), (fun _ _ _ => .le 380 700)⟩,
  ⟨0xD110, 2, 16, 0x03, 1, "ACTIVE_SLICES", .u8, 1, .r, 0, .poc, (fun p _ _ => if p = .w384 then 12 else 16), (fun _ _ _ => .any)⟩,
  ⟨0xD130, 1, 16, 0x03, 1, "LEAN_ACTIVE_SLICES", .u8, 1, .rw, 2, .poc, (fun _ _ _ => 8), (fun p _ _ => if p = .w384 then .le 8 12 else .le 8 16)⟩,
  ⟨0xD110, 3, 16, 0x04, 1, "PREFETCH", .enum8, 1, .rw, 2, .poc, (fun _ i _ => [2, 0, 1].getD i 0), (fun _ _ _ => .le 0 2)⟩,
  ⟨0xD110, 3, 16, 0x05, 1, "CRANE_SHARE", .u8, 1, .rw, 2, .poc, (fun _ i _ => [100, 25, 50].getD i 0), (fun _ _ _ => .le 10 100)⟩,
  ⟨0xD110, 3, 16, 0x06, 1, "VOQ_DEPTH", .enum8, 1, .rw, 2, .poc, (fun _ i _ => [2, 0, 1].getD i 0), (fun _ _ _ => .le 0 2)⟩,
  ⟨0xD110, 3, 16, 0x07, 1, "ARB_POLICY", .enum8, 1, .rw, 2, .poc, (fun _ i _ => [0, 1, 0].getD i 0), (fun _ _ _ => .le 0 1)⟩,
  ⟨0xD110, 3, 16, 0x08, 1, "NEAR_SHARER", .bool, 1, .rw, 2, .poc, (fun _ i _ => [0, 1, 0].getD i 0), (fun _ _ _ => .le 0 1)⟩,
  ⟨0xD110, 3, 16, 0x09, 1, "GATE_LISTS", .bool, 1, .r, 0, .poc, (fun _ _ _ => 1), (fun _ _ _ => .any)⟩,
  ⟨0xD201, 7, 1, 0x01, 1, "MODE", .enum8, 1, .rw, 2, .per, (fun _ _ _ => 0), (fun _ _ _ => .le 0 1)⟩,
  ⟨0xD201, 3, 1, 0x02, 1, "DECISION_LIMIT", .u32, 4, .rw, 2, .per, (fun _ i _ => [100000, 10000, 10, 1000, 1000000, 100].getD i 0), (fun _ i _ => match i with | 0 => .le 1000 10000000 | 1 => .le 1000 1000000 | 2 => .le 1 100 | 3 => .le 100 100000 | 4 => .le 10000 60000000 | _ => .le 10 10000)⟩]

/-- More objects of 0xD000. -/
def rowsD_2 : List Row := [
  ⟨0xD205, 3, 1, 0x02, 1, "DECISION_LIMIT", .u32, 4, .rw, 2, .per, (fun _ i _ => [100000, 10000, 10, 1000, 1000000, 100].getD (i + 3) 0), (fun _ i _ => match i + 3 with | 0 => .le 1000 10000000 | 1 => .le 1000 1000000 | 2 => .le 1 100 | 3 => .le 100 100000 | 4 => .le 10000 60000000 | _ => .le 10 10000)⟩,
  ⟨0xD201, 7, 1, 0x03, 1, "PENDING", .u16, 2, .r, 0, .vol, (fun _ _ _ => 0), (fun _ _ _ => .any)⟩,
  ⟨0xD201, 7, 1, 0x04, 1, "EXPIRED_COUNT", .u32, 4, .rw1c, 1, .vol, (fun _ _ _ => 0), (fun _ _ _ => .any)⟩,
  ⟨0xD300, 1, 1, 0x00, 1, "DECISION", .octets, 16, .w, 2, .vol, (fun _ _ _ => 0), (fun _ _ _ => .any)⟩]

/-- The objects of 0xF000 to 0xFFFF. -/
def rowsF_0 : List Row := [
  ⟨0xF010, 4, 1, 0x01, 1, "TG_CONFIG", .octets, 32, .rw, 3, .vol, (fun _ _ _ => 0), (fun _ _ _ => .bits (2 ^ 256 - 2 ^ 64 + 0x87FFFFFF))⟩,
  ⟨0xF010, 4, 1, 0x02, 1, "TG_START", .cmd, 0, .cmd, 3, .vol, (fun _ _ _ => 0), (fun _ _ _ => .any)⟩,
  ⟨0xF010, 4, 1, 0x03, 1, "TG_STOP", .cmd, 0, .cmd, 3, .vol, (fun _ _ _ => 0), (fun _ _ _ => .any)⟩,
  ⟨0xF010, 4, 1, 0x04, 1, "TG_STATE", .enum8, 1, .r, 0, .vol, (fun _ _ _ => 0), (fun _ _ _ => .any)⟩,
  ⟨0xF010, 4, 1, 0x05, 1, "TG_ISSUED", .u64, 8, .r, 0, .vol, (fun _ _ _ => 0), (fun _ _ _ => .any)⟩,
  ⟨0xF010, 4, 1, 0x06, 1, "TG_ERRORS", .u32, 4, .rw1c, 1, .vol, (fun _ _ _ => 0), (fun _ _ _ => .any)⟩,
  ⟨0xF010, 4, 1, 0x07, 1, "TG_FIRST_ERROR", .octets, 16, .r, 0, .vol, (fun _ _ _ => 0), (fun _ _ _ => .any)⟩,
  ⟨0xF020, 1, 1, 0x01, 1, "PRBS_QUAY", .u8, 1, .rw, 3, .vol, (fun _ _ _ => 0), (fun p _ _ => if p = .w384 then .le 0 95 else .le 0 127)⟩,
  ⟨0xF020, 1, 1, 0x02, 1, "PRBS_PATTERN", .enum8, 1, .rw, 3, .vol, (fun _ _ _ => 0), (fun _ _ _ => .le 0 3)⟩,
  ⟨0xF020, 1, 1, 0x03, 1, "PRBS_ERRORS", .octets, 64, .r, 0, .vol, (fun _ _ _ => 0), (fun _ _ _ => .any)⟩,
  ⟨0xF030, 1, 1, 0x01, 1, "ARRAY_SELECT", .octets, 8, .rw, 3, .vol, (fun _ _ _ => 0), (fun _ _ _ => .bits 0xFFFFFFFF00FFFFFF)⟩,
  ⟨0xF030, 1, 1, 0x02, 1, "ARRAY_DATA", .octets, 64, .r, 0, .vol, (fun _ _ _ => 0), (fun _ _ _ => .any)⟩]

/-- The rows of the range that an index lies in (Table 0.4). -/
def rowsOf (n : Nat) : List Row :=
  match n with
  | 1 => rows1_0 ++ rows1_1 ++ rows1_2 ++ rows1_3
  | 2 => rows2_0 ++ rows2_1
  | 3 => rows3_0 ++ rows3_1 ++ rows3_2
  | 4 => rows4_0 ++ rows4_1
  | 5 => rows5_0 ++ rows5_1 ++ rows5_2 ++ rows5_3 ++ rows5_4 ++ rows5_5
  | 6 => rows6_0 ++ rows6_1
  | 7 => rows7_0 ++ rows7_1
  | 8 => rows8_0 ++ rows8_1 ++ rows8_2 ++ rows8_3 ++ rows8_4
  | 9 => rows9_0 ++ rows9_1 ++ rows9_2
  | 10 => rowsA_0 ++ rowsA_1
  | 11 => rowsB_0 ++ rowsB_1 ++ rowsB_2
  | 12 => rowsC_0 ++ rowsC_1 ++ rowsC_2
  | 13 => rowsD_0 ++ rowsD_1 ++ rowsD_2
  | 15 => rowsF_0
  | _ => []

/-- Whether a row holds the key. -/
def Row.has (r : Row) (idx sub : Nat) : Bool :=
  decide (r.idx ≤ idx) && decide ((idx - r.idx) % r.idxStep = 0) && decide ((idx - r.idx) / r.idxStep < r.idxN) &&
  decide (r.sub ≤ sub) && decide (sub - r.sub < r.subN)

/-- An object's row and its places in the two families; none where no table lists the key (R6). -/
def findRow (o : Nat) : Option (Row × Nat × Nat) :=
  match (rowsOf (o / 256 / 4096)).find? (fun r => r.has (o / 256) (o % 256)) with
  | some r => some (r, (o / 256 - r.idx) / r.idxStep, o % 256 - r.sub)
  | none => none

/-- R291: the value an object has when first created. -/
def objDefault (p : Part) (o : Nat) : Nat :=
  match findRow o with
  | some (r, i, j) => r.dflt p i j
  | none => 0

end Sys2Proof.Machine

/-! Keys of the objects, by the names of their tables. -/
namespace Sys2Proof.Obj

/-- 0xD000:01 CURRENT_MODE -/
abbrev currentMode : Nat := 0xD00001
/-- 0xD000:02 TARGET_MODE -/
abbrev targetMode : Nat := 0xD00002
/-- 0xD000:03 POWER_STATE -/
abbrev powerState : Nat := 0xD00003
/-- 0xD000:04 TRANSITION_STATUS -/
abbrev transitionStatus : Nat := 0xD00004
/-- 0xD000:05 LAST_CHANGE_TIME -/
abbrev lastChangeTime : Nat := 0xD00005
/-- 0xD000:06 SALVAGE_CAUSE -/
abbrev salvageCause : Nat := 0xD00006
/-- 0xD000:07 PARK_SHORTFALL -/
abbrev parkShortfall : Nat := 0xD00007
/-- 0xD001:01 SERVICE_GO -/
abbrev serviceGo : Nat := 0xD00101
/-- 0xD001:02 MODE_CHANGE -/
abbrev modeChange : Nat := 0xD00102
/-- 0xD001:03 ENTER_SALVAGE -/
abbrev enterSalvage : Nat := 0xD00103
/-- 0xD001:04 RECOVERY_RESET -/
abbrev recoveryReset : Nat := 0xD00104
/-- 0xD001:05 ENTER_DRYDOCK -/
abbrev enterDrydock : Nat := 0xD00105
/-- 0xD001:06 LEAVE_DRYDOCK -/
abbrev leaveDrydock : Nat := 0xD00106
/-- 0xD001:07 POWER_STATE_REQUEST -/
abbrev powerStateRequest : Nat := 0xD00107
/-- 0xD002:01 AUTOSTART_ENABLE -/
abbrev autostartEnable : Nat := 0xD00201
/-- 0xD002:02 AUTOSTART_MODE -/
abbrev autostartMode : Nat := 0xD00202
/-- 0xD002:03 AUTOSTART_DELAY -/
abbrev autostartDelay : Nat := 0xD00203
/-- 0xD010:01 LULL_ENABLE -/
abbrev lullEnable : Nat := 0xD01001
/-- 0xD010:02 LULL_IDLE_TIME -/
abbrev lullIdleTime : Nat := 0xD01002
/-- 0xD010:03 LULL_ACTIVE_SLICES -/
abbrev lullActiveSlices : Nat := 0xD01003
/-- 0xD1m0:01 LANE_RATE_CAP -/
abbrev laneRateCap (m : Nat) : Nat := 0xD10001 + 4096 * m
/-- 0xD1m0:02 POWER_LIMIT -/
abbrev powerLimit (m : Nat) : Nat := 0xD10002 + 4096 * m
/-- 0xD1m0:03 ACTIVE_SLICES -/
abbrev activeSlices (m : Nat) : Nat := 0xD10003 + 4096 * m
/-- 0xD1m0:04 PREFETCH -/
abbrev prefetch (m : Nat) : Nat := 0xD10004 + 4096 * m
/-- 0xD1m0:05 CRANE_SHARE -/
abbrev craneShare (m : Nat) : Nat := 0xD10005 + 4096 * m
/-- 0xD1m0:06 VOQ_DEPTH -/
abbrev voqDepth (m : Nat) : Nat := 0xD10006 + 4096 * m
/-- 0xD1m0:07 ARB_POLICY -/
abbrev arbPolicy (m : Nat) : Nat := 0xD10007 + 4096 * m
/-- 0xD1m0:08 NEAR_SHARER -/
abbrev nearSharer (m : Nat) : Nat := 0xD10008 + 4096 * m
/-- 0xD1m0:09 GATE_LISTS -/
abbrev gateLists (m : Nat) : Nat := 0xD10009 + 4096 * m
/-- 0xD20f:01 MODE -/
abbrev functionMode (f : Nat) : Nat := 0xD20001 + 256 * f
/-- 0xD20f:02 DECISION_LIMIT -/
abbrev decisionLimit (f : Nat) : Nat := 0xD20002 + 256 * f
/-- 0xD20f:03 PENDING -/
abbrev pending (f : Nat) : Nat := 0xD20003 + 256 * f
/-- 0xD20f:04 EXPIRED_COUNT -/
abbrev expiredCount (f : Nat) : Nat := 0xD20004 + 256 * f
/-- 0xD300:00 DECISION -/
abbrev decision : Nat := 0xD30000
/-- 0x2000:01 HOST_QUAY_COUNT -/
abbrev hostQuayCount : Nat := 0x200001
/-- 0x2000:02 ACTIVE_QUAY_COUNT -/
abbrev activeQuayCount : Nat := 0x200002
/-- 0x2001:0n REFCLK_STATUS -/
abbrev refclkStatus (t : Nat) : Nat := 0x200101 + t
/-- 0x2002:0n REFCLK_LOSS_COUNT -/
abbrev refclkLossCount (t : Nat) : Nat := 0x200201 + t
/-- 0x20xx:01 BIFURCATION -/
abbrev bifurcation (w : Nat) : Nat := 0x201001 + 256 * w
/-- 0x20xx:02 WHARF_STATE -/
abbrev wharfState (w : Nat) : Nat := 0x201002 + 256 * w
/-- 0x20xx:03 PLL_RELOCK_COUNT -/
abbrev pllRelockCount (w : Nat) : Nat := 0x201003 + 256 * w
/-- 0x21qq:01 QUAY_STATE -/
abbrev quayState (q : Nat) : Nat := 0x210001 + 256 * q
/-- 0x21qq:02 ROLE -/
abbrev role (q : Nat) : Nat := 0x210002 + 256 * q
/-- 0x21qq:03 NARROW -/
abbrev narrow (q : Nat) : Nat := 0x210003 + 256 * q
/-- 0x21qq:04 CONFIG_WIDTH -/
abbrev configWidth (q : Nat) : Nat := 0x210004 + 256 * q
/-- 0x21qq:05 MAX_RATE -/
abbrev maxRate (q : Nat) : Nat := 0x210005 + 256 * q
/-- 0x21qq:06 CURRENT_RATE -/
abbrev currentRate (q : Nat) : Nat := 0x210006 + 256 * q
/-- 0x21qq:07 CURRENT_WIDTH -/
abbrev currentWidth (q : Nat) : Nat := 0x210007 + 256 * q
/-- 0x21qq:08 CLOCKING -/
abbrev clocking (q : Nat) : Nat := 0x210008 + 256 * q
/-- 0x21qq:09 PROTOCOL -/
abbrev protocol (q : Nat) : Nat := 0x210009 + 256 * q
/-- 0x21qq:0A CXL_OFFER -/
abbrev cxlOffer (q : Nat) : Nat := 0x21000A + 256 * q
/-- 0x21qq:0B MIN_WIDTH -/
abbrev minWidth (q : Nat) : Nat := 0x21000B + 256 * q
/-- 0x21qq:0C FAILED_LANES -/
abbrev failedLanes (q : Nat) : Nat := 0x21000C + 256 * q
/-- 0x21qq:0D WIDTH_REQUEST -/
abbrev widthRequest (q : Nat) : Nat := 0x21000D + 256 * q
/-- 0x21qq:0E WIDTH_REQUEST_STATUS -/
abbrev widthRequestStatus (q : Nat) : Nat := 0x21000E + 256 * q
/-- 0x21qq:0F RESTORE_WIDTH -/
abbrev restoreWidth (q : Nat) : Nat := 0x21000F + 256 * q
/-- 0x21qq:10 WIDTH_COLLISIONS -/
abbrev widthCollisions (q : Nat) : Nat := 0x210010 + 256 * q
/-- 0x21qq:11 L1_ENABLE -/
abbrev l1Enable (q : Nat) : Nat := 0x210011 + 256 * q
/-- 0x21qq:12 L0P_ENABLE -/
abbrev l0pEnable (q : Nat) : Nat := 0x210012 + 256 * q
/-- 0x21qq:13 EI_EXIT_BURST -/
abbrev eiExitBurst (q : Nat) : Nat := 0x210013 + 256 * q
/-- 0x21qq:14 FOM_WARN_LEVEL -/
abbrev fomWarnLevel (q : Nat) : Nat := 0x210014 + 256 * q
/-- 0x21qq:15 FOM_FAIL_LEVEL -/
abbrev fomFailLevel (q : Nat) : Nat := 0x210015 + 256 * q
/-- 0x21qq:16 LANE_REVERSED -/
abbrev laneReversed (q : Nat) : Nat := 0x210016 + 256 * q
/-- 0x21qq:17 DEGRADE_COUNT -/
abbrev degradeCount (q : Nat) : Nat := 0x210017 + 256 * q
/-- 0x21qq:2i LANE_FOM -/
abbrev laneFom (q : Nat) (l : Nat) : Nat := 0x210020 + 256 * q + l
/-- 0x3000:01 POOL_CELLS -/
abbrev poolCells : Nat := 0x300001
/-- 0x3000:02 SHARED_FREE -/
abbrev sharedFree : Nat := 0x300002
/-- 0x3000:03 RESPONSE_FLOOR -/
abbrev responseFloor : Nat := 0x300003
/-- 0x3000:04 OUTPUT_SHARED_CAP -/
abbrev outputSharedCap : Nat := 0x300004
/-- 0x3000:05 SHAPER_REFILL -/
abbrev shaperRefill : Nat := 0x300005
/-- 0x3000:06 SAMPLE_INTERVAL -/
abbrev sampleInterval : Nat := 0x300006
/-- 0x3000:07 FLUSH_SYNTH_COUNT -/
abbrev flushSynthCount : Nat := 0x300007
/-- 0x3000:08 FLUSH_REQUEST_DROPS -/
abbrev flushRequestDrops : Nat := 0x300008
/-- 0x3000:09 FLUSH_RESPONSE_DROPS -/
abbrev flushResponseDrops : Nat := 0x300009
/-- 0x3001:01 VOQ_DEPTH_IN_FORCE -/
abbrev voqDepthInForce : Nat := 0x300101
/-- 0x3001:02 ARB_POLICY_IN_FORCE -/
abbrev arbPolicyInForce : Nat := 0x300102
/-- 0x3002:01 QUAY_DOWN -/
abbrev quayDown : Nat := 0x300201
/-- 0x3002:02 QUAY_RELEASE -/
abbrev quayRelease : Nat := 0x300202
/-- 0x31pp:01 CLASS_PRIORITY -/
abbrev classPriority (p : Nat) : Nat := 0x310001 + 256 * p
/-- 0x31pp:02 INPUT_WEIGHT -/
abbrev inputWeight (p : Nat) : Nat := 0x310002 + 256 * p
/-- 0x32qq:01 TC_MAP -/
abbrev tcMap (q : Nat) : Nat := 0x320001 + 256 * q
/-- 0x32qq:02 MEM_LEVEL -/
abbrev memLevel (q : Nat) : Nat := 0x320002 + 256 * q
/-- 0x32qq:03 GATE_ENABLE -/
abbrev gateEnable (q : Nat) : Nat := 0x320003 + 256 * q
/-- 0x32qq:04 GATE_BASE_TIME -/
abbrev gateBaseTime (q : Nat) : Nat := 0x320004 + 256 * q
/-- 0x32qq:05 GATE_CYCLE -/
abbrev gateCycle (q : Nat) : Nat := 0x320005 + 256 * q
/-- 0x32qq:06 GATE_COUNT -/
abbrev gateCount (q : Nat) : Nat := 0x320006 + 256 * q
/-- 0x32qq:07 GATE_GUARD -/
abbrev gateGuard (q : Nat) : Nat := 0x320007 + 256 * q
/-- 0x32qq:08 GATE_COMMIT -/
abbrev gateCommit (q : Nat) : Nat := 0x320008 + 256 * q
/-- 0x32qq:09 GATE_STATUS -/
abbrev gateStatus (q : Nat) : Nat := 0x320009 + 256 * q
/-- 0x32qq:0A GATE_CURRENT_ENTRY -/
abbrev gateCurrentEntry (q : Nat) : Nat := 0x32000A + 256 * q
/-- 0x32qq:0B GATE_START_TIME -/
abbrev gateStartTime (q : Nat) : Nat := 0x32000B + 256 * q
/-- 0x32qq:4e GATE_ENTRY -/
abbrev gateEntry (q : Nat) (e : Nat) : Nat := 0x320040 + 256 * q + e
/-- 0x32qq:8e GATE_ACTIVE_ENTRY -/
abbrev gateActiveEntry (q : Nat) (e : Nat) : Nat := 0x320080 + 256 * q + e
/-- 0x33qq:1c SHAPE_RATE -/
abbrev shapeRate (q : Nat) (c : Nat) : Nat := 0x330010 + 256 * q + c
/-- 0x33qq:2c SHAPE_BURST -/
abbrev shapeBurst (q : Nat) (c : Nat) : Nat := 0x330020 + 256 * q + c
/-- 0x33qq:3c SHAPE_TOKENS -/
abbrev shapeTokens (q : Nat) (c : Nat) : Nat := 0x330030 + 256 * q + c
/-- 0x3400:kk ROUTE_BLOCK -/
abbrev routeBlock (k : Nat) : Nat := 0x340000 + k
/-- 0x35qq:1c DEPTH_SAMPLE -/
abbrev depthSample (q : Nat) (c : Nat) : Nat := 0x350010 + 256 * q + c
/-- 0x35qq:2c DELAY_SAMPLE -/
abbrev delaySample (q : Nat) (c : Nat) : Nat := 0x350020 + 256 * q + c
/-- 0x35qq:3c DEPTH_MAX -/
abbrev depthMax (q : Nat) (c : Nat) : Nat := 0x350030 + 256 * q + c
/-- 0x35qq:4c DELAY_MAX -/
abbrev delayMax (q : Nat) (c : Nat) : Nat := 0x350040 + 256 * q + c
/-- 0x4000:01 ACTIVE_SLICE_COUNT -/
abbrev activeSliceCount : Nat := 0x400001
/-- 0x4000:02 NEAR_SHARER_IN_FORCE -/
abbrev nearSharerInForce : Nat := 0x400002
/-- 0x4000:03 BACKPRESSURE_COUNT -/
abbrev backpressureCount : Nat := 0x400003
/-- 0x4000:04 OVERFLOW_SNOOP_COUNT -/
abbrev overflowSnoopCount : Nat := 0x400004
/-- 0x4001:01 HOME_MAP -/
abbrev homeMap : Nat := 0x400101
/-- 0x40ss:01 SLICE_STATE -/
abbrev sliceState (s : Nat) : Nat := 0x401001 + 256 * s
/-- 0x40ss:02 CACHE_LINES_VALID -/
abbrev cacheLinesValid (s : Nat) : Nat := 0x401002 + 256 * s
/-- 0x40ss:03 DIR_ENTRIES_VALID -/
abbrev dirEntriesValid (s : Nat) : Nat := 0x401003 + 256 * s
/-- 0x40ss:04 OPEN_TRANSACTIONS -/
abbrev openTransactions (s : Nat) : Nat := 0x401004 + 256 * s
/-- 0x40ss:05 ALLOC_WAITING -/
abbrev allocWaiting (s : Nat) : Nat := 0x401005 + 256 * s
/-- 0x40ss:06 RING_SNOOPS_ISSUED -/
abbrev ringSnoopsIssued (s : Nat) : Nat := 0x401006 + 256 * s
/-- 0x40ss:07 PEER_SUPPLIES -/
abbrev peerSupplies (s : Nat) : Nat := 0x401007 + 256 * s
/-- 0x40ss:08 NEAR_SHARER_SUPPLIES -/
abbrev nearSharerSupplies (s : Nat) : Nat := 0x401008 + 256 * s
/-- 0x41qq:01 PRIVILEGED_QUAY -/
abbrev privilegedQuay (q : Nat) : Nat := 0x410001 + 256 * q
/-- 0x42bb:01 BASIN_STATE -/
abbrev basinState (b : Nat) : Nat := 0x420001 + 256 * b
/-- 0x42bb:02 BASIN_ENABLE -/
abbrev basinEnable (b : Nat) : Nat := 0x420002 + 256 * b
/-- 0x42bb:03 HOME_SET_BASE -/
abbrev homeSetBase (b : Nat) : Nat := 0x420003 + 256 * b
/-- 0x42bb:04 HOME_SET_SIZE -/
abbrev homeSetSize (b : Nat) : Nat := 0x420004 + 256 * b
/-- 0x42bb:05 MEMBERS -/
abbrev members (b : Nat) : Nat := 0x420005 + 256 * b
/-- 0x42bb:06 SNOOP_TIMEOUT -/
abbrev snoopTimeout (b : Nat) : Nat := 0x420006 + 256 * b
/-- 0x42bb:07 NEAR_COPY -/
abbrev nearCopy (b : Nat) : Nat := 0x420007 + 256 * b
/-- 0x42bb:08 BASIN_RESET -/
abbrev basinReset (b : Nat) : Nat := 0x420008 + 256 * b
/-- 0x42bb:09 BASIN_OPEN -/
abbrev basinOpen (b : Nat) : Nat := 0x420009 + 256 * b
/-- 0x42bb:0A DOWN_CAUSE -/
abbrev downCause (b : Nat) : Nat := 0x42000A + 256 * b
/-- 0x42bb:0B DOWN_TIME -/
abbrev downTime (b : Nat) : Nat := 0x42000B + 256 * b
/-- 0x42bb:0C DOWN_COUNT -/
abbrev downCount (b : Nat) : Nat := 0x42000C + 256 * b
/-- 0x42bb:0D LOST_LINES -/
abbrev lostLines (b : Nat) : Nat := 0x42000D + 256 * b
/-- 0x42bb:0E REJECTED_WRITES -/
abbrev rejectedWrites (b : Nat) : Nat := 0x42000E + 256 * b
/-- 0x5000:01 POOL_PAGES_TOTAL -/
abbrev poolPagesTotal : Nat := 0x500001
/-- 0x5000:02 POOL_PAGES_FREE -/
abbrev poolPagesFree : Nat := 0x500002
/-- 0x5000:03 POOL_PAGES_ZEROING -/
abbrev poolPagesZeroing : Nat := 0x500003
/-- 0x5000:04 POOL_PAGES_USED -/
abbrev poolPagesUsed : Nat := 0x500004
/-- 0x5010:01 LEDGER_DEVICE -/
abbrev ledgerDevice : Nat := 0x501001
/-- 0x5010:02 LEDGER_DEVICE_PAGE -/
abbrev ledgerDevicePage : Nat := 0x501002
/-- 0x5010:03 LEDGER_ENTRIES -/
abbrev ledgerEntries : Nat := 0x501003
/-- 0x5010:04 LEDGER_STATE -/
abbrev ledgerState : Nat := 0x501004
/-- 0x5010:05 LEDGER_INIT -/
abbrev ledgerInit : Nat := 0x501005
/-- 0x5010:06 LEDGER_ADOPT -/
abbrev ledgerAdopt : Nat := 0x501006
/-- 0x5020:01 LEDGER_WRITE -/
abbrev ledgerWrite : Nat := 0x502001
/-- 0x5020:02 LEDGER_READ_INDEX -/
abbrev ledgerReadIndex : Nat := 0x502002
/-- 0x5020:03 LEDGER_READ_VALUE -/
abbrev ledgerReadValue : Nat := 0x502003
/-- 0x5020:04 POOL_EPOCH -/
abbrev poolEpoch : Nat := 0x502004
/-- 0x5020:05 POOL_BARRIER -/
abbrev poolBarrier : Nat := 0x502005
/-- 0x5020:06 BARRIER_STATUS -/
abbrev barrierStatus : Nat := 0x502006
/-- 0x5020:07 BARRIER_EPOCH -/
abbrev barrierEpoch : Nat := 0x502007
/-- 0x5030:01 ALLOC_GRANT -/
abbrev allocGrant : Nat := 0x503001
/-- 0x5030:02 EXTENT_ANNOUNCE -/
abbrev extentAnnounce : Nat := 0x503002
/-- 0x5030:03 ZERO_WAIT_LIMIT -/
abbrev zeroWaitLimit : Nat := 0x503003
/-- 0x5030:04 ADD_RESPONSE_LIMIT -/
abbrev addResponseLimit : Nat := 0x503004
/-- 0x5030:05 ALLOC_REFUSALS -/
abbrev allocRefusals : Nat := 0x503005
/-- 0x5040:01 TIER_ENABLE -/
abbrev tierEnable : Nat := 0x504001
/-- 0x5040:02 TIER_EPOCH -/
abbrev tierEpoch : Nat := 0x504002
/-- 0x5040:03 SWEEP_RATE -/
abbrev sweepRate : Nat := 0x504003
/-- 0x5040:04 PROMOTE_THRESHOLD -/
abbrev promoteThreshold : Nat := 0x504004
/-- 0x5040:05 DEMOTE_THRESHOLD -/
abbrev demoteThreshold : Nat := 0x504005
/-- 0x5040:06 TIER_FREE_TARGET -/
abbrev tierFreeTarget : Nat := 0x504006
/-- 0x5040:07 TIER_MIGRATION_LIMIT -/
abbrev tierMigrationLimit : Nat := 0x504007
/-- 0x5040:08 PROMOTIONS -/
abbrev promotions : Nat := 0x504008
/-- 0x5040:09 DEMOTIONS -/
abbrev demotions : Nat := 0x504009
/-- 0x5040:0A TIER_SKIPPED -/
abbrev tierSkipped : Nat := 0x50400A
/-- 0x5050:01 MIGRATE -/
abbrev migrate : Nat := 0x505001
/-- 0x5050:02 MIGRATE_ABORT -/
abbrev migrateAbort : Nat := 0x505002
/-- 0x5050:03 MIGRATIONS_IN_FLIGHT -/
abbrev migrationsInFlight : Nat := 0x505003
/-- 0x5050:04 MIGRATIONS_DONE -/
abbrev migrationsDone : Nat := 0x505004
/-- 0x5050:05 MIGRATIONS_ABORTED -/
abbrev migrationsAborted : Nat := 0x505005
/-- 0x5050:06 WRITE_STALLS -/
abbrev writeStalls : Nat := 0x505006
/-- 0x5050:07 MIGRATION_POISONED_LINES -/
abbrev migrationPoisonedLines : Nat := 0x505007
/-- 0x5060:01 PREFETCH_IN_FORCE -/
abbrev prefetchInForce : Nat := 0x506001
/-- 0x5060:02 PREFETCH_ISSUED -/
abbrev prefetchIssued : Nat := 0x506002
/-- 0x5060:03 PREFETCH_DISCARDS -/
abbrev prefetchDiscards : Nat := 0x506003
/-- 0x5060:04 PREFETCH_UNUSED -/
abbrev prefetchUnused : Nat := 0x506004
/-- 0x5060:05 PREFETCH_WINDOW -/
abbrev prefetchWindow : Nat := 0x506005
/-- 0x5070:01 WRITE_FAILURES -/
abbrev writeFailures : Nat := 0x507001
/-- 0x5070:02 POISON_LIST_USED -/
abbrev poisonListUsed : Nat := 0x507002
/-- 0x5070:03 DECODE_FAULTS -/
abbrev decodeFaults : Nat := 0x507003
/-- 0x5070:04 LAST_DECODE_FAULT -/
abbrev lastDecodeFault : Nat := 0x507004
/-- 0x50dd:01 MEMDEV_ENABLE -/
abbrev memdevEnable (d : Nat) : Nat := 0x508001 + 256 * d
/-- 0x50dd:02 MEMDEV_QUAY -/
abbrev memdevQuay (d : Nat) : Nat := 0x508002 + 256 * d
/-- 0x50dd:03 MEMDEV_LD -/
abbrev memdevLd (d : Nat) : Nat := 0x508003 + 256 * d
/-- 0x50dd:04 MEMDEV_DPA_BASE -/
abbrev memdevDpaBase (d : Nat) : Nat := 0x508004 + 256 * d
/-- 0x50dd:05 MEMDEV_PAGES -/
abbrev memdevPages (d : Nat) : Nat := 0x508005 + 256 * d
/-- 0x50dd:06 MEMDEV_TIER -/
abbrev memdevTier (d : Nat) : Nat := 0x508006 + 256 * d
/-- 0x50dd:07 MEMDEV_STATE -/
abbrev memdevState (d : Nat) : Nat := 0x508007 + 256 * d
/-- 0x50dd:08 MEMDEV_FREE_PAGES -/
abbrev memdevFreePages (d : Nat) : Nat := 0x508008 + 256 * d
/-- 0x51hh:01 SLOT_KIND -/
abbrev slotKind (h : Nat) : Nat := 0x510001 + 256 * h
/-- 0x51hh:02 SLOT_SOURCE -/
abbrev slotSource (h : Nat) : Nat := 0x510002 + 256 * h
/-- 0x51hh:03 QUOTA_PAGES -/
abbrev quotaPages (h : Nat) : Nat := 0x510003 + 256 * h
/-- 0x51hh:04 USED_PAGES -/
abbrev usedPages (h : Nat) : Nat := 0x510004 + 256 * h
/-- 0x52nn:01 BERTH_ENABLE -/
abbrev berthEnable (n : Nat) : Nat := 0x520001 + 256 * n
/-- 0x52nn:02 BERTH_BASE -/
abbrev berthBase (n : Nat) : Nat := 0x520002 + 256 * n
/-- 0x52nn:03 BERTH_LIMIT -/
abbrev berthLimit (n : Nat) : Nat := 0x520003 + 256 * n
/-- 0x52nn:04 BERTH_KIND -/
abbrev berthKind (n : Nat) : Nat := 0x520004 + 256 * n
/-- 0x52nn:05 BERTH_BASIN -/
abbrev berthBasin (n : Nat) : Nat := 0x520005 + 256 * n
/-- 0x52nn:06 BERTH_OFFSET -/
abbrev berthOffset (n : Nat) : Nat := 0x520006 + 256 * n
/-- 0x52nn:07 BERTH_HOME_ID -/
abbrev berthHomeId (n : Nat) : Nat := 0x520007 + 256 * n
/-- 0x52nn:08 LEDGER_FIRST -/
abbrev ledgerFirst (n : Nat) : Nat := 0x520008 + 256 * n
/-- 0x52nn:09 WRITE_THROUGH -/
abbrev writeThrough (n : Nat) : Nat := 0x520009 + 256 * n
/-- 0x52nn:0A PREFETCHABLE -/
abbrev prefetchable (n : Nat) : Nat := 0x52000A + 256 * n
/-- 0x52nn:0B MAPPED_PAGES -/
abbrev mappedPages (n : Nat) : Nat := 0x52000B + 256 * n
/-- 0x52nn:0C BERTH_FLUSH -/
abbrev berthFlush (n : Nat) : Nat := 0x52000C + 256 * n
/-- 0x56bb:01 SPAN_LEDGER_FIRST -/
abbrev spanLedgerFirst (b : Nat) : Nat := 0x560001 + 256 * b
/-- 0x56bb:02 SPAN_PAGES -/
abbrev spanPages (b : Nat) : Nat := 0x560002 + 256 * b
/-- 0x56bb:03 SPAN_MAPPED_PAGES -/
abbrev spanMappedPages (b : Nat) : Nat := 0x560003 + 256 * b
/-- 0x57mm:01 MIG_STATE -/
abbrev migState (m : Nat) : Nat := 0x570001 + 256 * m
/-- 0x57mm:02 MIG_LEDGER_INDEX -/
abbrev migLedgerIndex (m : Nat) : Nat := 0x570002 + 256 * m
/-- 0x57mm:03 MIG_TARGET -/
abbrev migTarget (m : Nat) : Nat := 0x570003 + 256 * m
/-- 0x57mm:04 MIG_BITMAP -/
abbrev migBitmap (m : Nat) : Nat := 0x570004 + 256 * m
/-- 0x57mm:05 MIG_CURRENT_BALE -/
abbrev migCurrentBale (m : Nat) : Nat := 0x570005 + 256 * m
/-- 0x57mm:06 MIG_START_TIME -/
abbrev migStartTime (m : Nat) : Nat := 0x570006 + 256 * m
/-- 0x6000:01 ACTIVE_ENGINE_COUNT -/
abbrev activeEngineCount : Nat := 0x600001
/-- 0x6000:02 CRANE_SHARE_IN_FORCE -/
abbrev craneShareInForce : Nat := 0x600002
/-- 0x6000:03 POLL_LIMIT -/
abbrev pollLimit : Nat := 0x600003
/-- 0x6000:04 QUEUE_CONTEXTS_FREE -/
abbrev queueContextsFree : Nat := 0x600004
/-- 0x6000:05 INST_DRAIN_LIMIT -/
abbrev instDrainLimit : Nat := 0x600005
/-- 0x6000:06 ZERO_TURN -/
abbrev zeroTurn : Nat := 0x600006
/-- 0x6000:07 VALIDATION_FAILURES -/
abbrev validationFailures : Nat := 0x600007
/-- 0x6000:08 PARTIAL_COMPLETIONS -/
abbrev partialCompletions : Nat := 0x600008
/-- 0x6000:09 ENTRY_INVALIDATIONS -/
abbrev entryInvalidations : Nat := 0x600009
/-- 0x6001:01 ENGINE_MAP -/
abbrev engineMap : Nat := 0x600101
/-- 0x60ee:01 ENGINE_STATE -/
abbrev engineState (e : Nat) : Nat := 0x601001 + 256 * e
/-- 0x60ee:02 ENGINE_QUEUES -/
abbrev engineQueues (e : Nat) : Nat := 0x601002 + 256 * e
/-- 0x60ee:03 ENGINE_MIGRATIONS -/
abbrev engineMigrations (e : Nat) : Nat := 0x601003 + 256 * e
/-- 0x60ee:04 ENGINE_BYTES -/
abbrev engineBytes (e : Nat) : Nat := 0x601004 + 256 * e
/-- 0x6020:01 INST_CONFIG -/
abbrev instConfig : Nat := 0x602001
/-- 0x6020:02 INST_SELECT -/
abbrev instSelect : Nat := 0x602002
/-- 0x6020:03 INST_VIEW -/
abbrev instView : Nat := 0x602003
/-- 0x6020:04 INST_RESET -/
abbrev instReset : Nat := 0x602004
/-- 0x6020:05 INST_BOUND_COUNT -/
abbrev instBoundCount : Nat := 0x602005
/-- 0x6021:01 MBOX_PENDING -/
abbrev mboxPending : Nat := 0x602101
/-- 0x6021:02 MBOX_H2M -/
abbrev mboxH2m : Nat := 0x602102
/-- 0x6021:03 MBOX_H2M_ACK -/
abbrev mboxH2mAck : Nat := 0x602103
/-- 0x6021:04 MBOX_M2H -/
abbrev mboxM2h : Nat := 0x602104
/-- 0x7000:01 CUSTOMS_EPOCH -/
abbrev customsEpoch : Nat := 0x700001
/-- 0x7000:02 CUSTOMS_BARRIER -/
abbrev customsBarrier : Nat := 0x700002
/-- 0x7000:03 CUSTOMS_BARRIER_STATUS -/
abbrev customsBarrierStatus : Nat := 0x700003
/-- 0x7000:04 CUSTOMS_BARRIER_EPOCH -/
abbrev customsBarrierEpoch : Nat := 0x700004
/-- 0x7000:05 CUSTOMS_BARRIER_LIMIT -/
abbrev customsBarrierLimit : Nat := 0x700005
/-- 0x7000:06 BARRIER_OUTSTANDING -/
abbrev barrierOutstanding : Nat := 0x700006
/-- 0x7000:07 REGIONS_FREE -/
abbrev regionsFree : Nat := 0x700007
/-- 0x7000:08 VIOLATION_COUNT -/
abbrev violationCount : Nat := 0x700008
/-- 0x7000:09 MALFORMED_DROPS -/
abbrev malformedDrops : Nat := 0x700009
/-- 0x7000:0A IMPOUNDED_COUNT -/
abbrev impoundedCount : Nat := 0x70000A
/-- 0x7000:0B HELD_REQUESTS -/
abbrev heldRequests : Nat := 0x70000B
/-- 0x7001:01 IMPOUNDED_SLOTS -/
abbrev impoundedSlots : Nat := 0x700101
/-- 0x7001:02 IMPOUNDED_ENDPOINTS -/
abbrev impoundedEndpoints : Nat := 0x700102
/-- 0x7001:03 IMPOUNDED_INSTANCES -/
abbrev impoundedInstances : Nat := 0x700103
/-- 0x7001:04 IMPOUNDED_INTERNAL -/
abbrev impoundedInternal : Nat := 0x700104
/-- 0x7010:01 REGION_SET -/
abbrev regionSet : Nat := 0x701001
/-- 0x7010:02 REGION_CLEAR_MASTER -/
abbrev regionClearMaster : Nat := 0x701002
/-- 0x7010:03 REGION_SELECT -/
abbrev regionSelect : Nat := 0x701003
/-- 0x7010:04 REGION_VIEW -/
abbrev regionView : Nat := 0x701004
/-- 0x7020:01 MASTER_SELECT -/
abbrev masterSelect : Nat := 0x702001
/-- 0x7020:02 MASTER_VIEW -/
abbrev masterView : Nat := 0x702002
/-- 0x7020:03 PRIVILEGE_SET -/
abbrev privilegeSet : Nat := 0x702003
/-- 0x7020:04 RELEASE -/
abbrev release : Nat := 0x702004
/-- 0x7020:05 MASTER_VIOLATION -/
abbrev masterViolation : Nat := 0x702005
/-- 0x7030:01 LAST_VIOLATION -/
abbrev lastViolation : Nat := 0x703001
/-- 0x1000:01 PART -/
abbrev part : Nat := 0x100001
/-- 0x1000:02 VENDOR_ID -/
abbrev vendorId : Nat := 0x100002
/-- 0x1000:03 DEVICE_ID -/
abbrev deviceId : Nat := 0x100003
/-- 0x1000:04 SILICON_REVISION -/
abbrev siliconRevision : Nat := 0x100004
/-- 0x1000:05 SERIAL_NUMBER -/
abbrev serialNumber : Nat := 0x100005
/-- 0x1000:06 FIRMWARE_VERSION -/
abbrev firmwareVersion : Nat := 0x100006
/-- 0x1000:07 FIRMWARE_SLOT -/
abbrev firmwareSlot : Nat := 0x100007
/-- 0x1000:08 MANIFEST_VERSION -/
abbrev manifestVersion : Nat := 0x100008
/-- 0x1000:09 OBJECT_COUNT -/
abbrev objectCount : Nat := 0x100009
/-- 0x1010:01 SESSION_COUNT -/
abbrev sessionCount : Nat := 0x101001
/-- 0x1010:02 SESSIONS_FREE -/
abbrev sessionsFree : Nat := 0x101002
/-- 0x1010:03 HEARTBEAT_PERIOD -/
abbrev heartbeatPeriod : Nat := 0x101003
/-- 0x1011:00 MY_SESSION -/
abbrev mySession : Nat := 0x101100
/-- 0x1011:0s SESSION_VIEW -/
abbrev sessionView (s : Nat) : Nat := 0x101100 + s
/-- 0x1012:01 SESSION_CLOSE -/
abbrev sessionClose : Nat := 0x101201
/-- 0x1020:01 FABRIC_ID -/
abbrev fabricId : Nat := 0x102001
/-- 0x1020:02 DEVICE_LABEL -/
abbrev deviceLabel : Nat := 0x102002
/-- 0x1030:01 COMMIT_SEQ -/
abbrev commitSeq : Nat := 0x103001
/-- 0x1030:02 STORE -/
abbrev store : Nat := 0x103002
/-- 0x1030:03 UNSTORED_COUNT -/
abbrev unstoredCount : Nat := 0x103003
/-- 0x1030:04 RESTORE_DEFAULTS -/
abbrev restoreDefaults : Nat := 0x103004
/-- 0x1030:05 JOURNAL_WEAR -/
abbrev journalWear : Nat := 0x103005
/-- 0x1030:06 RESTORE_ERRORS -/
abbrev restoreErrors : Nat := 0x103006
/-- 0x1040:01 ZMP_UDP_PORT -/
abbrev zmpUdpPort : Nat := 0x104001
/-- 0x1040:0u TRANSPORT_ROLE_CAP -/
abbrev transportRoleCap (u : Nat) : Nat := 0x104000 + u
/-- 0x1040:09 FRAME_ERRORS -/
abbrev frameErrors : Nat := 0x104009
/-- 0x1041:01 I3C_STATIC_ADDRESS -/
abbrev i3cStaticAddress : Nat := 0x104101
/-- 0x1041:02 SMBUS_ADDRESS -/
abbrev smbusAddress : Nat := 0x104102
/-- 0x104p:01 ETH_ENABLE -/
abbrev ethEnable (p : Nat) : Nat := 0x104201 + 256 * p
/-- 0x104p:02 ETH_DHCP -/
abbrev ethDhcp (p : Nat) : Nat := 0x104202 + 256 * p
/-- 0x104p:03 ETH_IPV4_ADDRESS -/
abbrev ethIpv4Address (p : Nat) : Nat := 0x104203 + 256 * p
/-- 0x104p:04 ETH_IPV4_MASK -/
abbrev ethIpv4Mask (p : Nat) : Nat := 0x104204 + 256 * p
/-- 0x104p:05 ETH_IPV4_GATEWAY -/
abbrev ethIpv4Gateway (p : Nat) : Nat := 0x104205 + 256 * p
/-- 0x104p:06 ETH_MAC_ADDRESS -/
abbrev ethMacAddress (p : Nat) : Nat := 0x104206 + 256 * p
/-- 0x104p:07 ETH_LINK_STATE -/
abbrev ethLinkState (p : Nat) : Nat := 0x104207 + 256 * p
/-- 0x1050:gg GROUP_MASTER -/
abbrev groupMaster (g : Nat) : Nat := 0x105000 + g
/-- 0x1051:01 GROUP_CLAIM -/
abbrev groupClaim : Nat := 0x105101
/-- 0x1051:02 GROUP_RELEASE -/
abbrev groupRelease : Nat := 0x105102
/-- 0x1060:01 EVENT_SEQ -/
abbrev eventSeq : Nat := 0x106001
/-- 0x1060:02 EVENT_RETRY -/
abbrev eventRetry : Nat := 0x106002
/-- 0x1060:03 EVENT_MASK -/
abbrev eventMask : Nat := 0x106003
/-- 0x1060:04 EVENT_LOG_SELECT -/
abbrev eventLogSelect : Nat := 0x106004
/-- 0x1060:05 EVENT_LOG -/
abbrev eventLog : Nat := 0x106005
/-- 0x1070:01 TIME_SOURCE -/
abbrev timeSource : Nat := 0x107001
/-- 0x1070:02 TIME_PTM_QUAY -/
abbrev timePtmQuay : Nat := 0x107002
/-- 0x1070:03 PTP_DOMAIN -/
abbrev ptpDomain : Nat := 0x107003
/-- 0x1070:04 TIME_STATE -/
abbrev timeState : Nat := 0x107004
/-- 0x1070:05 TIME_OFFSET -/
abbrev timeOffset : Nat := 0x107005
/-- 0x1070:06 FABRIC_TIME -/
abbrev fabricTime : Nat := 0x107006
/-- 0x1070:07 TIME_STEP_COUNT -/
abbrev timeStepCount : Nat := 0x107007
/-- 0x1080:01 FMAPI_ENABLE -/
abbrev fmapiEnable : Nat := 0x108001
/-- 0x1080:02 FMAPI_ROLE -/
abbrev fmapiRole : Nat := 0x108002
/-- 0x1080:03 PLDM_UPDATE_ENABLE -/
abbrev pldmUpdateEnable : Nat := 0x108003
/-- 0x8000:01 POWER_LIMIT_IN_FORCE -/
abbrev powerLimitInForce : Nat := 0x800001
/-- 0x8000:02 NONSERVICE_POWER_LIMIT -/
abbrev nonservicePowerLimit : Nat := 0x800002
/-- 0x8000:03 POWER_MEASURED -/
abbrev powerMeasured : Nat := 0x800003
/-- 0x8000:04 POWER_LIMIT_UNMET -/
abbrev powerLimitUnmet : Nat := 0x800004
/-- 0x8000:05 TJ_MAX -/
abbrev tjMax : Nat := 0x800005
/-- 0x8000:06 THROTTLE_TEMP -/
abbrev throttleTemp : Nat := 0x800006
/-- 0x8000:07 THROTTLE_ACTIVE -/
abbrev throttleActive : Nat := 0x800007
/-- 0x8000:08 THROTTLE_COUNT -/
abbrev throttleCount : Nat := 0x800008
/-- 0x80rr:01 RAIL_STATE -/
abbrev railState (r : Nat) : Nat := 0x801001 + 256 * r
/-- 0x80rr:02 RAIL_VOLTAGE -/
abbrev railVoltage (r : Nat) : Nat := 0x801002 + 256 * r
/-- 0x80rr:03 RAIL_CURRENT -/
abbrev railCurrent (r : Nat) : Nat := 0x801003 + 256 * r
/-- 0x80rr:04 RAIL_PMBUS_ADDR -/
abbrev railPmbusAddr (r : Nat) : Nat := 0x801004 + 256 * r
/-- 0x8020:01 CORE_RATE -/
abbrev coreRate : Nat := 0x802001
/-- 0x8020:02 AVS_RATE_TARGET -/
abbrev avsRateTarget : Nat := 0x802002
/-- 0x8020:03 AVS_RATE_TARGET_LEAN -/
abbrev avsRateTargetLean : Nat := 0x802003
/-- 0x8020:04 DROOP_MARGIN -/
abbrev droopMargin : Nat := 0x802004
/-- 0x8020:05 VCORE_TARGET -/
abbrev vcoreTarget : Nat := 0x802005
/-- 0x8020:06 VSRAM_TARGET -/
abbrev vsramTarget : Nat := 0x802006
/-- 0x8020:07 AGING_OFFSET -/
abbrev agingOffset : Nat := 0x802007
/-- 0x8020:08 DROOP_EVENTS -/
abbrev droopEvents : Nat := 0x802008
/-- 0x8030:01 DIDT_LIMIT -/
abbrev didtLimit : Nat := 0x803001
/-- 0x8030:02 CORE_CURRENT_EST -/
abbrev coreCurrentEst : Nat := 0x803002
/-- 0x8030:03 CURRENT_CEILING -/
abbrev currentCeiling : Nat := 0x803003
/-- 0x8030:04 FORE_THRESHOLD -/
abbrev foreThreshold : Nat := 0x803004
/-- 0x8030:05 FORE_LEAD -/
abbrev foreLead : Nat := 0x803005
/-- 0x8030:06 FORE_LANE_THRESHOLD -/
abbrev foreLaneThreshold : Nat := 0x803006
/-- 0x8030:07 FORE_COUNT -/
abbrev foreCount : Nat := 0x803007
/-- 0x8030:08 RELEASE_RAMP -/
abbrev releaseRamp : Nat := 0x803008
/-- 0x8040:01 SYNC_ENABLE -/
abbrev syncEnable : Nat := 0x804001
/-- 0x8040:02 SYNC_POSITION -/
abbrev syncPosition : Nat := 0x804002
/-- 0x8040:03 SYNC_RING_SIZE -/
abbrev syncRingSize : Nat := 0x804003
/-- 0x8040:04 SYNC_STEP_LIMIT -/
abbrev syncStepLimit : Nat := 0x804004
/-- 0x8040:05 SYNC_SLOT -/
abbrev syncSlot : Nat := 0x804005
/-- 0x8040:06 SYNC_MAX_DEFER -/
abbrev syncMaxDefer : Nat := 0x804006
/-- 0x8040:07 SYNC_STATE -/
abbrev syncState : Nat := 0x804007
/-- 0x8040:08 SYNC_DEFER_COUNT -/
abbrev syncDeferCount : Nat := 0x804008
/-- 0x8040:09 SYNC_FORCED_COUNT -/
abbrev syncForcedCount : Nat := 0x804009
/-- 0x81ss:01 SLOT_STATE -/
abbrev slotState (s : Nat) : Nat := 0x810001 + 256 * s
/-- 0x81ss:02 SLOT_AUTO_ON -/
abbrev slotAutoOn (s : Nat) : Nat := 0x810002 + 256 * s
/-- 0x81ss:03 SLOT_QUAY -/
abbrev slotQuay (s : Nat) : Nat := 0x810003 + 256 * s
/-- 0x81ss:04 SLOT_SUPPLY -/
abbrev slotSupply (s : Nat) : Nat := 0x810004 + 256 * s
/-- 0x81ss:05 RAMP_RATE -/
abbrev rampRate (s : Nat) : Nat := 0x810005 + 256 * s
/-- 0x81ss:06 CURRENT_LIMIT -/
abbrev currentLimit (s : Nat) : Nat := 0x810006 + 256 * s
/-- 0x81ss:07 FAULT_TIMER -/
abbrev faultTimer (s : Nat) : Nat := 0x810007 + 256 * s
/-- 0x81ss:08 SEAT_DEBOUNCE -/
abbrev seatDebounce (s : Nat) : Nat := 0x810008 + 256 * s
/-- 0x81ss:09 RETRY_DELAY -/
abbrev retryDelay (s : Nat) : Nat := 0x810009 + 256 * s
/-- 0x81ss:0A RETRY_LIMIT -/
abbrev retryLimit (s : Nat) : Nat := 0x81000A + 256 * s
/-- 0x81ss:0B PG_SETTLE -/
abbrev pgSettle (s : Nat) : Nat := 0x81000B + 256 * s
/-- 0x81ss:0C PERST_DELAY -/
abbrev perstDelay (s : Nat) : Nat := 0x81000C + 256 * s
/-- 0x81ss:0D PWRWARN_LEVEL -/
abbrev pwrwarnLevel (s : Nat) : Nat := 0x81000D + 256 * s
/-- 0x81ss:0E SLOT_POWER -/
abbrev slotPower (s : Nat) : Nat := 0x81000E + 256 * s
/-- 0x81ss:0F SLOT_RESET_FAULT -/
abbrev slotResetFault (s : Nat) : Nat := 0x81000F + 256 * s
/-- 0x81ss:10 SLOT_VIN -/
abbrev slotVin (s : Nat) : Nat := 0x810010 + 256 * s
/-- 0x81ss:11 SLOT_VOUT -/
abbrev slotVout (s : Nat) : Nat := 0x810011 + 256 * s
/-- 0x81ss:12 SLOT_IOUT -/
abbrev slotIout (s : Nat) : Nat := 0x810012 + 256 * s
/-- 0x81ss:13 SLOT_FLAGS -/
abbrev slotFlags (s : Nat) : Nat := 0x810013 + 256 * s
/-- 0x81ss:14 COOLDOWN_REMAINING -/
abbrev cooldownRemaining (s : Nat) : Nat := 0x810014 + 256 * s
/-- 0x81ss:15 TRIP_COUNT -/
abbrev tripCount (s : Nat) : Nat := 0x810015 + 256 * s
/-- 0x81ss:16 LAST_TRIP_TIME -/
abbrev lastTripTime (s : Nat) : Nat := 0x810016 + 256 * s
/-- 0x81bb:01 BP_STATE -/
abbrev bpState (b : Nat) : Nat := 0x818001 + 256 * b
/-- 0x81bb:02 BP_ENABLE -/
abbrev bpEnable (b : Nat) : Nat := 0x818002 + 256 * b
/-- 0x81bb:03 BP_PRECHARGE_LIMIT -/
abbrev bpPrechargeLimit (b : Nat) : Nat := 0x818003 + 256 * b
/-- 0x81bb:04 BP_CURRENT_LIMIT -/
abbrev bpCurrentLimit (b : Nat) : Nat := 0x818004 + 256 * b
/-- 0x81bb:05 BP_VIN -/
abbrev bpVin (b : Nat) : Nat := 0x818005 + 256 * b
/-- 0x81bb:06 BP_VBUS -/
abbrev bpVbus (b : Nat) : Nat := 0x818006 + 256 * b
/-- 0x81bb:07 BP_IOUT -/
abbrev bpIout (b : Nat) : Nat := 0x818007 + 256 * b
/-- 0x81bb:08 BP_RESET_FAULT -/
abbrev bpResetFault (b : Nat) : Nat := 0x818008 + 256 * b
/-- 0x81bb:09 BP_TRIP_COUNT -/
abbrev bpTripCount (b : Nat) : Nat := 0x818009 + 256 * b
/-- 0x9000:01 LIFECYCLE -/
abbrev lifecycle : Nat := 0x900001
/-- 0x9000:02 BW_STATE -/
abbrev bwState : Nat := 0x900002
/-- 0x9000:03 SERVICE_INDICATOR -/
abbrev serviceIndicator : Nat := 0x900003
/-- 0x9000:04 ERROR_CAUSE -/
abbrev errorCause : Nat := 0x900004
/-- 0x9000:05 SELF_TEST -/
abbrev selfTest : Nat := 0x900005
/-- 0x9000:06 LAST_SELF_TEST -/
abbrev lastSelfTest : Nat := 0x900006
/-- 0x9000:07 SELF_TEST_FAILURES -/
abbrev selfTestFailures : Nat := 0x900007
/-- 0x9000:08 TAMPER_COUNT -/
abbrev tamperCount : Nat := 0x900008
/-- 0x9001:01 LIFECYCLE_ARM -/
abbrev lifecycleArm : Nat := 0x900101
/-- 0x9001:02 LIFECYCLE_CONFIRM -/
abbrev lifecycleConfirm : Nat := 0x900102
/-- 0x9001:03 RESEAL_COUNT -/
abbrev resealCount : Nat := 0x900103
/-- 0x9002:01 ZEROISE -/
abbrev zeroise : Nat := 0x900201
/-- 0x9002:02 ZEROISE_COUNT -/
abbrev zeroiseCount : Nat := 0x900202
/-- 0x9002:03 LAST_ZEROISE_CAUSE -/
abbrev lastZeroiseCause : Nat := 0x900203
/-- 0x9010:01 DEBUG_LEVEL -/
abbrev debugLevel : Nat := 0x901001
/-- 0x9010:02 DEBUG_AUTHORISED -/
abbrev debugAuthorised : Nat := 0x901002
/-- 0x9010:03 DEBUG_AUTHORISE -/
abbrev debugAuthorise : Nat := 0x901003
/-- 0x9010:04 DEBUG_REVOKE -/
abbrev debugRevoke : Nat := 0x901004
/-- 0x9010:05 DEBUG_HISTORY -/
abbrev debugHistory : Nat := 0x901005
/-- 0x9020:kk CREDENTIAL -/
abbrev credential (k : Nat) : Nat := 0x902000 + k
/-- 0x9020:40 VENDOR_CREDENTIAL -/
abbrev vendorCredential : Nat := 0x902040
/-- 0x9021:01 CREDENTIAL_COUNT -/
abbrev credentialCount : Nat := 0x902101
/-- 0x9021:02 PROVISIONING_OPEN -/
abbrev provisioningOpen : Nat := 0x902102
/-- 0x9030:01 DEVICEID_PUBLIC -/
abbrev deviceidPublic : Nat := 0x903001
/-- 0x9030:02 ALIAS_PUBLIC -/
abbrev aliasPublic : Nat := 0x903002
/-- 0x9030:03 MEASUREMENT_DIGEST -/
abbrev measurementDigest : Nat := 0x903003
/-- 0x9030:04 CERT_SLOTS -/
abbrev certSlots : Nat := 0x903004
/-- 0x9040:01 FW_NEXT_SLOT -/
abbrev fwNextSlot : Nat := 0x904001
/-- 0x9040:02 FW_SLOT_A_STATE -/
abbrev fwSlotAState : Nat := 0x904002
/-- 0x9040:03 FW_SLOT_B_STATE -/
abbrev fwSlotBState : Nat := 0x904003
/-- 0x9040:04 SVN_FUSED -/
abbrev svnFused : Nat := 0x904004
/-- 0x9040:05 SVN_RUNNING -/
abbrev svnRunning : Nat := 0x904005
/-- 0x9040:06 SVN_COMMIT -/
abbrev svnCommit : Nat := 0x904006
/-- 0x9040:07 KEY_SLOTS_REVOKED -/
abbrev keySlotsRevoked : Nat := 0x904007
/-- 0x9040:08 KEY_SLOT_REVOKE -/
abbrev keySlotRevoke : Nat := 0x904008
/-- 0x9040:09 RECOVERY_FLASH_ENABLE -/
abbrev recoveryFlashEnable : Nat := 0x904009
/-- 0x9050:01 ENTROPY_HEALTH_FAILURES -/
abbrev entropyHealthFailures : Nat := 0x905001
/-- 0x9050:02 DRBG_RESEEDS -/
abbrev drbgReseeds : Nat := 0x905002
/-- 0x9060:0a TRUST_ANCHOR -/
abbrev trustAnchor (a : Nat) : Nat := 0x906000 + a
/-- 0x9060:09 IDE_REKEY_INTERVAL -/
abbrev ideRekeyInterval : Nat := 0x906009
/-- 0x91qq:01 IDE_REQUIRED -/
abbrev ideRequired (q : Nat) : Nat := 0x910001 + 256 * q
/-- 0x91qq:02 IDE_LINK_STATE -/
abbrev ideLinkState (q : Nat) : Nat := 0x910002 + 256 * q
/-- 0x91qq:03 IDE_SEL_STREAMS -/
abbrev ideSelStreams (q : Nat) : Nat := 0x910003 + 256 * q
/-- 0x91qq:04 IDE_ACTIVE_KEY_SET -/
abbrev ideActiveKeySet (q : Nat) : Nat := 0x910004 + 256 * q
/-- 0x91qq:05 IDE_INTEGRITY_FAILS -/
abbrev ideIntegrityFails (q : Nat) : Nat := 0x910005 + 256 * q
/-- 0x91qq:06 IDE_KEY_UPDATES -/
abbrev ideKeyUpdates (q : Nat) : Nat := 0x910006 + 256 * q
/-- 0xA01c:01 STATUS -/
abbrev status (c : Nat) : Nat := 0xA01001 + 256 * c
/-- 0xA01c:02 FIRST_SOURCE -/
abbrev firstSource (c : Nat) : Nat := 0xA01002 + 256 * c
/-- 0xA01c:03 FIRST_TIME -/
abbrev firstTime (c : Nat) : Nat := 0xA01003 + 256 * c
/-- 0xA01c:04 FIRST_TYPE -/
abbrev firstType (c : Nat) : Nat := 0xA01004 + 256 * c
/-- 0xA01c:05 CLASS_STATE -/
abbrev classState (c : Nat) : Nat := 0xA01005 + 256 * c
/-- 0xA01c:06 CLASS_COUNT -/
abbrev classCount (c : Nat) : Nat := 0xA01006 + 256 * c
/-- 0xA01c:07 CLASS_ACK -/
abbrev classAck (c : Nat) : Nat := 0xA01007 + 256 * c
/-- 0xA01c:08 WINDOW -/
abbrev window (c : Nat) : Nat := 0xA01008 + 256 * c
/-- 0xA020:01 INTERNAL_TIMEOUT -/
abbrev internalTimeout : Nat := 0xA02001
/-- 0xA020:02 SYNTH_RESPONSES -/
abbrev synthResponses : Nat := 0xA02002
/-- 0xA020:03 INTERNAL_LATE_DISCARDS -/
abbrev internalLateDiscards : Nat := 0xA02003
/-- 0xA030:01 EXT_COMPLETION_TIMEOUT -/
abbrev extCompletionTimeout : Nat := 0xA03001
/-- 0xA030:02 LATE_DISCARD_COUNT -/
abbrev lateDiscardCount : Nat := 0xA03002
/-- 0xA040:01 SOURCE_SELECT -/
abbrev sourceSelect : Nat := 0xA04001
/-- 0xA040:02 SOURCE_VIEW -/
abbrev sourceView : Nat := 0xA04002
/-- 0xA040:03 SOURCE_CLEAR -/
abbrev sourceClear : Nat := 0xA04003
/-- 0xA050:01 FENCE_UNIT -/
abbrev fenceUnit : Nat := 0xA05001
/-- 0xA050:02 FENCED_SLICES -/
abbrev fencedSlices : Nat := 0xA05002
/-- 0xA050:03 FENCED_ENGINES -/
abbrev fencedEngines : Nat := 0xA05003
/-- 0xA050:04 FENCED_CORES -/
abbrev fencedCores : Nat := 0xA05004
/-- 0xA050:05 FENCE_CLEAR -/
abbrev fenceClear : Nat := 0xA05005
/-- 0xA050:06 FENCE_POISONED_LINES -/
abbrev fencePoisonedLines : Nat := 0xA05006
/-- 0xA060:01 SALVAGE_FLUSH_STATE -/
abbrev salvageFlushState : Nat := 0xA06001
/-- 0xA060:02 SALVAGE_LOST_LINES -/
abbrev salvageLostLines : Nat := 0xA06002
/-- 0xA060:03 LAST_FATAL -/
abbrev lastFatal : Nat := 0xA06003
/-- 0xB000:01 BRIDGE_ERRORS -/
abbrev bridgeErrors : Nat := 0xB00001
/-- 0xB000:02 DISCARD_COUNT -/
abbrev discardCount : Nat := 0xB00002
/-- 0xB000:03 DISCARD_LOG_SELECT -/
abbrev discardLogSelect : Nat := 0xB00003
/-- 0xB000:04 DISCARD_LOG_ENTRY -/
abbrev discardLogEntry : Nat := 0xB00004
/-- 0xB000:05 ALERT_LAST -/
abbrev alertLast : Nat := 0xB00005
/-- 0xB1bb:01 BUS_MODE -/
abbrev busMode (b : Nat) : Nat := 0xB10001 + 256 * b
/-- 0xB1bb:02 POLL_PERIOD -/
abbrev pollPeriod (b : Nat) : Nat := 0xB10002 + 256 * b
/-- 0xB1bb:03 SB_SIGNALS -/
abbrev sbSignals (b : Nat) : Nat := 0xB10003 + 256 * b
/-- 0xB1bb:04 BUS_STATE -/
abbrev busState (b : Nat) : Nat := 0xB10004 + 256 * b
/-- 0xB1bb:05 BUS_ERRORS -/
abbrev busErrors (b : Nat) : Nat := 0xB10005 + 256 * b
/-- 0xB2ww:01 WIN_ENABLE -/
abbrev winEnable (w : Nat) : Nat := 0xB20001 + 256 * w
/-- 0xB2ww:02 WIN_QUAY -/
abbrev winQuay (w : Nat) : Nat := 0xB20002 + 256 * w
/-- 0xB2ww:03 WIN_FRAME -/
abbrev winFrame (w : Nat) : Nat := 0xB20003 + 256 * w
/-- 0xB2ww:04 WIN_BUS -/
abbrev winBus (w : Nat) : Nat := 0xB20004 + 256 * w
/-- 0xB2ww:05 WIN_ADDRESS -/
abbrev winAddress (w : Nat) : Nat := 0xB20005 + 256 * w
/-- 0xB2ww:06 WIN_FORM -/
abbrev winForm (w : Nat) : Nat := 0xB20006 + 256 * w
/-- 0xB2ww:07 WIN_PAGE -/
abbrev winPage (w : Nat) : Nat := 0xB20007 + 256 * w
/-- 0xB2ww:08 WIN_POSTED -/
abbrev winPosted (w : Nat) : Nat := 0xB20008 + 256 * w
/-- 0xB2ww:09 WIN_SWAP -/
abbrev winSwap (w : Nat) : Nat := 0xB20009 + 256 * w
/-- 0xB2ww:0A WIN_PEC -/
abbrev winPec (w : Nat) : Nat := 0xB2000A + 256 * w
/-- 0xB2ww:0B WIN_HOLD -/
abbrev winHold (w : Nat) : Nat := 0xB2000B + 256 * w
/-- 0xB2ww:0C WIN_DISCARD_TIMER -/
abbrev winDiscardTimer (w : Nat) : Nat := 0xB2000C + 256 * w
/-- 0xB2ww:0D WIN_WRITE_FAILS -/
abbrev winWriteFails (w : Nat) : Nat := 0xB2000D + 256 * w
/-- 0xB2ww:0E WIN_LAST_WRITE_FAIL -/
abbrev winLastWriteFail (w : Nat) : Nat := 0xB2000E + 256 * w
/-- 0xB3nn:01 SENSOR_ENABLE -/
abbrev sensorEnable (n : Nat) : Nat := 0xB30001 + 256 * n
/-- 0xB3nn:02 SENSOR_BUS -/
abbrev sensorBus (n : Nat) : Nat := 0xB30002 + 256 * n
/-- 0xB3nn:03 SENSOR_ADDRESS -/
abbrev sensorAddress (n : Nat) : Nat := 0xB30003 + 256 * n
/-- 0xB3nn:04 SENSOR_PAGE -/
abbrev sensorPage (n : Nat) : Nat := 0xB30004 + 256 * n
/-- 0xB3nn:05 SENSOR_COMMAND -/
abbrev sensorCommand (n : Nat) : Nat := 0xB30005 + 256 * n
/-- 0xB3nn:06 SENSOR_FORMAT -/
abbrev sensorFormat (n : Nat) : Nat := 0xB30006 + 256 * n
/-- 0xB3nn:07 SENSOR_SCALE -/
abbrev sensorScale (n : Nat) : Nat := 0xB30007 + 256 * n
/-- 0xB3nn:08 SENSOR_PERIOD -/
abbrev sensorPeriod (n : Nat) : Nat := 0xB30008 + 256 * n
/-- 0xB3nn:09 SENSOR_VALUE -/
abbrev sensorValue (n : Nat) : Nat := 0xB30009 + 256 * n
/-- 0xB3nn:0A SENSOR_RAW -/
abbrev sensorRaw (n : Nat) : Nat := 0xB3000A + 256 * n
/-- 0xB3nn:0B SENSOR_HIGH -/
abbrev sensorHigh (n : Nat) : Nat := 0xB3000B + 256 * n
/-- 0xB3nn:0C SENSOR_LOW -/
abbrev sensorLow (n : Nat) : Nat := 0xB3000C + 256 * n
/-- 0xB3nn:0D SENSOR_STATUS -/
abbrev sensorStatus (n : Nat) : Nat := 0xB3000D + 256 * n
/-- 0xC000:01 COUNT_ENABLE -/
abbrev countEnable : Nat := 0xC00001
/-- 0xC000:02 RATE_PORT -/
abbrev ratePort : Nat := 0xC00002
/-- 0xC000:03 RATE_MEASURED -/
abbrev rateMeasured : Nat := 0xC00003
/-- 0xC001:01 TLM_ENABLE -/
abbrev tlmEnable : Nat := 0xC00101
/-- 0xC001:02 TLM_PERIOD -/
abbrev tlmPeriod : Nat := 0xC00102
/-- 0xC001:03 TLM_QUAY_MASK -/
abbrev tlmQuayMask : Nat := 0xC00103
/-- 0xC001:04 TLM_SLICES -/
abbrev tlmSlices : Nat := 0xC00104
/-- 0xC001:05 TLM_SEQ -/
abbrev tlmSeq : Nat := 0xC00105
/-- 0xC001:06 TLM_READ_SEQ -/
abbrev tlmReadSeq : Nat := 0xC00106
/-- 0xC001:07 TLM_RECORD -/
abbrev tlmRecord : Nat := 0xC00107
/-- 0xC002:01 TRACE_CONTROL -/
abbrev traceControl : Nat := 0xC00201
/-- 0xC002:02 TRACE_FILTER -/
abbrev traceFilter : Nat := 0xC00202
/-- 0xC002:03 TRACE_START -/
abbrev traceStart : Nat := 0xC00203
/-- 0xC002:04 TRACE_STOP -/
abbrev traceStop : Nat := 0xC00204
/-- 0xC002:05 TRACE_STATE -/
abbrev traceState : Nat := 0xC00205
/-- 0xC002:06 TRACE_COUNT -/
abbrev traceCount : Nat := 0xC00206
/-- 0xC002:07 TRACE_READ_INDEX -/
abbrev traceReadIndex : Nat := 0xC00207
/-- 0xC002:08 TRACE_RECORD -/
abbrev traceRecord : Nat := 0xC00208
/-- 0xC002:09 TRACE_DROPS -/
abbrev traceDrops : Nat := 0xC00209
/-- 0xC1qq:01 TIME_BASE -/
abbrev timeBase (q : Nat) : Nat := 0xC10001 + 256 * q
/-- 0xC1qq:02 CTR_OVERFLOW -/
abbrev ctrOverflow (q : Nat) : Nat := 0xC10002 + 256 * q
/-- 0xC1qq:03 BW_WINDOW -/
abbrev bwWindow (q : Nat) : Nat := 0xC10003 + 256 * q
/-- 0xC1qq:04 BW_RX -/
abbrev bwRx (q : Nat) : Nat := 0xC10004 + 256 * q
/-- 0xC1qq:05 BW_TX -/
abbrev bwTx (q : Nat) : Nat := 0xC10005 + 256 * q
/-- 0xC1qq:06 TB_LOSS_COUNT -/
abbrev tbLossCount (q : Nat) : Nat := 0xC10006 + 256 * q
/-- 0xC1qq:1k CTR_CONFIG -/
abbrev ctrConfig (q : Nat) (k : Nat) : Nat := 0xC10010 + 256 * q + k
/-- 0xC1qq:2k CTR_VALUE -/
abbrev ctrValue (q : Nat) (k : Nat) : Nat := 0xC10020 + 256 * q + k
/-- 0xC1qq:3k CTR_FILTER -/
abbrev ctrFilter (q : Nat) (k : Nat) : Nat := 0xC10030 + 256 * q + k
/-- 0xC2ss:02 SLICE_CTR_OVERFLOW -/
abbrev sliceCtrOverflow (s : Nat) : Nat := 0xC20002 + 256 * s
/-- 0xC2ss:1k SLICE_CTR_CONFIG -/
abbrev sliceCtrConfig (s : Nat) (k : Nat) : Nat := 0xC20010 + 256 * s + k
/-- 0xC2ss:2k SLICE_CTR_VALUE -/
abbrev sliceCtrValue (s : Nat) (k : Nat) : Nat := 0xC20020 + 256 * s + k
/-- 0xC2ss:3k SLICE_CTR_FILTER -/
abbrev sliceCtrFilter (s : Nat) (k : Nat) : Nat := 0xC20030 + 256 * s + k
/-- 0xC3ee:02 ENGINE_CTR_OVERFLOW -/
abbrev engineCtrOverflow (e : Nat) : Nat := 0xC30002 + 256 * e
/-- 0xC3ee:1k ENGINE_CTR_CONFIG -/
abbrev engineCtrConfig (e : Nat) (k : Nat) : Nat := 0xC30010 + 256 * e + k
/-- 0xC3ee:2k ENGINE_CTR_VALUE -/
abbrev engineCtrValue (e : Nat) (k : Nat) : Nat := 0xC30020 + 256 * e + k
/-- 0xC3ee:3k ENGINE_CTR_FILTER -/
abbrev engineCtrFilter (e : Nat) (k : Nat) : Nat := 0xC30030 + 256 * e + k
/-- 0xC400:02 TIDE_CTR_OVERFLOW -/
abbrev tideCtrOverflow : Nat := 0xC40002
/-- 0xC400:1k TIDE_CTR_CONFIG -/
abbrev tideCtrConfig (k : Nat) : Nat := 0xC40010 + k
/-- 0xC400:2k TIDE_CTR_VALUE -/
abbrev tideCtrValue (k : Nat) : Nat := 0xC40020 + k
/-- 0xC400:3k TIDE_CTR_FILTER -/
abbrev tideCtrFilter (k : Nat) : Nat := 0xC40030 + k
/-- 0xC5ii:01 INIT_COMPLETED -/
abbrev initCompleted (i : Nat) : Nat := 0xC50001 + 256 * i
/-- 0xC5ii:02 INIT_BYTES -/
abbrev initBytes (i : Nat) : Nat := 0xC50002 + 256 * i
/-- 0xC5ii:03 INIT_TIMEOUTS -/
abbrev initTimeouts (i : Nat) : Nat := 0xC50003 + 256 * i
/-- 0xC5ii:04 LAT_MIN -/
abbrev latMin (i : Nat) : Nat := 0xC50004 + 256 * i
/-- 0xC5ii:05 LAT_MAX -/
abbrev latMax (i : Nat) : Nat := 0xC50005 + 256 * i
/-- 0xC5ii:06 LAT_SUM -/
abbrev latSum (i : Nat) : Nat := 0xC50006 + 256 * i
/-- 0xC5ii:07 LAT_HIST -/
abbrev latHist (i : Nat) : Nat := 0xC50007 + 256 * i
/-- 0xC5ii:08 INIT_CLEAR -/
abbrev initClear (i : Nat) : Nat := 0xC50008 + 256 * i
/-- 0xF01g:01 TG_CONFIG -/
abbrev tgConfig (g : Nat) : Nat := 0xF01001 + 256 * g
/-- 0xF01g:02 TG_START -/
abbrev tgStart (g : Nat) : Nat := 0xF01002 + 256 * g
/-- 0xF01g:03 TG_STOP -/
abbrev tgStop (g : Nat) : Nat := 0xF01003 + 256 * g
/-- 0xF01g:04 TG_STATE -/
abbrev tgState (g : Nat) : Nat := 0xF01004 + 256 * g
/-- 0xF01g:05 TG_ISSUED -/
abbrev tgIssued (g : Nat) : Nat := 0xF01005 + 256 * g
/-- 0xF01g:06 TG_ERRORS -/
abbrev tgErrors (g : Nat) : Nat := 0xF01006 + 256 * g
/-- 0xF01g:07 TG_FIRST_ERROR -/
abbrev tgFirstError (g : Nat) : Nat := 0xF01007 + 256 * g
/-- 0xF020:01 PRBS_QUAY -/
abbrev prbsQuay : Nat := 0xF02001
/-- 0xF020:02 PRBS_PATTERN -/
abbrev prbsPattern : Nat := 0xF02002
/-- 0xF020:03 PRBS_ERRORS -/
abbrev prbsErrors : Nat := 0xF02003
/-- 0xF030:01 ARRAY_SELECT -/
abbrev arraySelect : Nat := 0xF03001
/-- 0xF030:02 ARRAY_DATA -/
abbrev arrayData : Nat := 0xF03002

end Sys2Proof.Obj
end

