-- ==== Sys2Proof/Machine/TypesCore.lean ====
section
/-!
DEFINITION. The records of the state that the management, link, switch and coherence chapters give the device.
-/

namespace Sys2Proof.Machine

open Sys2Proof

/-- An event record (Table 14.8): the common header and its 32 B payload. -/
structure Event where
  seq : Nat
  time : Nat
  source : Nat
  cls : Nat
  flags : Nat
  typ : Nat
  token : Nat
  target : Nat
  payload : Nat
  deriving DecidableEq, Repr

/-- A response to one operation (Table 10.11). -/
structure OpAnswer where
  status : Nat
  index : Nat
  sub : Nat
  deferred : Bool
  seq : Nat
  value : Nat
  len : Nat
  deriving DecidableEq, Repr

/-- A response message (Table 10.9). -/
structure Response where
  msgId : Nat
  status : Nat
  ops : List OpAnswer
  deriving DecidableEq, Repr

/-- An open session (R296 to R299, R310; Table 10.18). -/
structure Session where
  slot : Nat
  credRole : Nat
  cred : Nat
  binding : Binding
  openTime : Nat
  lastSeq : Nat := 0
  mask : Nat := 0xF
  unacked : List Event := []
  responses : List Response := []
  keyUpdates : Nat := 0
  deriving DecidableEq, Repr

/-- A held operation of the function split (Table 2.6, R40): its token, function, the subject in numbers the owning
chapter names, the proposal, and the limit in force when it arose with that instant. -/
structure Decision where
  token : Nat
  fn : Nat
  subject : Nat
  proposal : Nat
  limit : Nat
  arose : Nat
  /-- Its page has been released or remapped since (R221). -/
  stale : Bool := false
  deriving DecidableEq, Repr

/-- What a quay sends its partner beside flits of traffic: an L0p request or its acceptance (R73, R75), the exit burst of
R61 with its number of sets, the preset asked for in equalisation (R64), a replay request (R81), the identity message (R97),
credits advertised for a channel (R79), entry to Recovery (R83). -/
inductive LinkMsg where
  | widthRequest (w : Nat)
  | widthAccept (w : Nat)
  | exitBurst (sets : Nat)
  | preset (p : Nat)
  | replayRequest (seq : Nat)
  | identity (id : Nat)
  | advertise (chan header data : Nat)
  | recovery
  deriving DecidableEq, Repr

/-- What the device sends or drives, in the order it does so. -/
inductive Out where
  /-- The answer to one ZMP operation (Table 10.11). -/
  | answer (caller : Caller) (a : OpAnswer)
  /-- A response message to a session. -/
  | response (slot : Nat) (r : Response)
  /-- A frame of another type, with its type and first body value (Table 10.7). -/
  | frame (b : Binding) (typ body : Nat)
  /-- An event message to a session (R309, R310): the event and the LOST flag. -/
  | event (slot : Nat) (lost : Bool) (e : Event)
  /-- An event record written to a Harbour event ring (R250). -/
  | ringEvent (inst : Nat) (e : Event)
  /-- A message or signal sent to the partner of a quay. -/
  | link (q : Nat) (m : LinkMsg)
  /-- A link flit transmitted on a quay: sequence number, acknowledgement, messages, credit returns. -/
  | flit (q seq ack : Nat) (msgs : List Msg) (credits : Tab Nat)
  /-- A completion or response to a host or endpoint: quay, tag, status (0 good, 1 error, 2 poison), data. -/
  | complete (q tag status data : Nat)
  /-- A back-invalidate snoop to a host: slot, home key, and whether it invalidates. -/
  | biSnp (slot key : Nat) (inv : Bool)
  /-- BIConflictAck to a host. -/
  | biConflictAck (slot key : Nat)
  /-- A write to memory of an instance (records, rings): instance, address, value. -/
  | hostMem (inst addr value : Nat)
  /-- An MSI-X message of an instance. -/
  | msix (inst vector : Nat)
  /-- A dynamic capacity add event on the Harbour function of a quay: berth, first berth page, pages (R197). -/
  | dcAdd (q berth first pages : Nat)
  /-- An error that the receiving port of a quay reports through AER: 1 a Malformed TLP (R272), 2 an ACS violation
  (Table 9.8). -/
  | aer (q kind : Nat)
  /-- A pin or pulse driven: its name by number and its level. -/
  | pin (id level : Nat)
  /-- A transfer started on a sideband bus: bus, its mode (BUS_MODE), address, bytes and value of its pointer, bytes of data, the
  data of a write in far order, whether it reads, and whether it carries a PEC. -/
  | bus (b mode addr ptrLen ptr n data : Nat) (read pec : Bool)
  /-- An IDE_KM message that the device sends as requester (R355): quay, stream, key set, and the sub-stream and key of a KEY_PROG;
  none of a K_SET_GO. -/
  | ideKm (q stream set : Nat) (prog : Option (Nat × Nat))
  /-- A protocol answer (SPDM, PLDM, MCTP control, FM API): protocol, command, status, value. -/
  | proto (protocol command status value : Nat)
  /-- A frame of 40 bits on TIDE_SYNC_OUT (Table 11.3). -/
  | sync (frame : Nat)
  deriving DecidableEq, Repr

/-- The condition on which a DOWN quay trains again (R89): none is set, presence, a command or hardware action
(release or recovery reset), at once after a recut, or step 6 of a recovery reset. -/
inductive DownBy where
  | none | presence | command | recut | reset
  deriving DecidableEq, Repr

/-- The partner's identity on a Fabric quay (Table 4.6): not known yet, not a W512, or a W512 with its fabric ID. -/
inductive Partner where
  | unknown | other | w512 (id : Nat)
  deriving DecidableEq, Repr

/-- The device's own L0p request on a quay (R73 to R76): the width asked for, whether it has been sent and is not yet
answered, consecutive lost collisions, and whether it waits to be re-issued. -/
structure WidthReq where
  width : Nat
  sent : Bool
  lost : Nat := 0
  reissue : Bool := false
  deriving DecidableEq, Repr

/-- Who issued a request that the device originated (R90, Table 4.4): a memory access of a home slice or a forwarded
pooled request (by the number of its record), a Ledger walk (slice, Ledger line), or the Harbourmaster (its operation). -/
inductive Initiator where
  | mem (id : Nat)
  | walk (s line : Nat)
  | harbour (op : Nat)
  deriving DecidableEq, Repr

/-- A request the device originated and still has open (R90 to R95). -/
structure Orig where
  quay : Nat
  slot : Nat
  gen : Nat
  ini : Initiator
  atomic : Bool := false
  sent : Bool := false
  issued : Nat
  limit : Nat
  level : Nat := 0
  deriving DecidableEq, Repr

/-- A message inside the device: with its tag slot and generation when it is a request that the device originated, with its
decoded access when it is a pooled request (R178), and whether it is a PBR flit in transit (R98). -/
structure Item where
  msg : Msg
  own : Option (Nat × Nat) := none
  acc : Option Access := none
  pbr : Bool := false
  /-- The check it passed (R275), 0 for none. -/
  chk : Nat := 0
  /-- The master it is charged to (0xFFFF for none), and that master's privilege at its check. -/
  master : Nat := 0xFFFF
  priv : Bool := true
  /-- No credit is returned for it (R80): a message of the device's own making, or one received before the quay's last link-up,
  which advertised its space anew (R79). -/
  made : Bool := false
  /-- It is a response to a request that the device originated, on its way to the initiator (R94, R108). -/
  rsp : Option (Orig × MemRsp) := none
  deriving DecidableEq, Repr

/-- A flit in the replay buffer (R82): its sequence number and messages. -/
structure LinkFlit where
  seq : Nat
  items : List Item
  deriving DecidableEq, Repr

/-- The retrain a quay is on its way through (R68, R72; a rate change of R469): the width to reach, or all configured
lanes. -/
inductive Retrain where
  | width (w : Nat)
  | all
  | rate
  deriving DecidableEq, Repr

/-- What a quay holds beside its objects (Lanes, wharves and quays; Link layer and fabric links). `width`, `rate`,
`protocol` and `rev` are what training settled; the objects show them while the quay is UP (R77). -/
structure Quay where
  downBy : DownBy := .none
  /-- The LTSSM is in L0, L0p or L1. -/
  l0 : Bool := false
  /-- A DL_Down has come since the last DL_Up. -/
  dlDown : Bool := true
  /-- It has been UP since it was last DOWN. -/
  beenUp : Bool := false
  awaitId : Bool := false
  partner : Partner := .unknown
  width : Nat := 0
  rate : Nat := 7
  protocol : Nat := 0
  rev : Bool := false
  partnerMax : Nat := 16
  l0p : Bool := false
  burst : Nat := 0
  tagBits : Nat := 14
  /-- The highest rate that the partner allowed at the last training (R47). -/
  topRate : Nat := 7
  /-- EI_EXIT_BURST and CLOCKING as the last training took them (R78). -/
  ownBurst : Nat := 16
  sris : Bool := false
  /-- Back-invalidate snoops were offered by both ends (R56). -/
  bi : Bool := false
  retrain : Option Retrain := none
  /-- Held for a function 5 verdict (R68). -/
  widthHold : Bool := false
  l1 : Bool := false
  lockLost : Nat := 0
  /-- Lanes whose warning has been raised (R65). -/
  warned : Nat := 0
  warnRun : Tab Nat := []
  failRun : Tab Nat := []
  wreq : Option WidthReq := none
  rxSeq : Nat := 0
  txSeq : Nat := 0
  replay : List LinkFlit := []
  replays : Nat := 0
  /-- Credits of the partner: key 2 × channel the headers, 2 × channel + 1 the data bytes (R79). -/
  credits : Tab Nat := []
  /-- Credits to be returned in the next flit (R80), by the same keys. -/
  returns : Tab Nat := []
  /-- A declaration of DOWN has passed since the last UP (R95). -/
  stepGens : Bool := false
  genBase : Nat := 0
  /-- The PERST input is asserted (Host quays). -/
  perst : Bool := true
  deriving DecidableEq, Repr

/-- A request of the device's own before it has a tag slot: its quay, initiator, message, crossbar input (of a slice,
or a management port), level, and whether it holds no received space that is to be credited (R80). -/
structure OrigWait where
  quay : Nat
  ini : Initiator
  msg : Msg
  unit : Nat
  level : Nat
  made : Bool := false
  deriving DecidableEq, Repr

/-- A tag slot of a quay (R92, R93): the generation it takes next and its stale generations. -/
structure TagSlot where
  next : Nat := 0
  stale : List Nat := []
  deriving DecidableEq, Repr

/-- The stream a core flit belongs to (R110): its key and its sequence number. -/
structure StreamTag where
  key : Nat
  seq : Nat
  deriving DecidableEq, Repr

/-- A core flit (R107) in a VOQ or in an egress buffer: input and output port, class, channel, its units and those not
yet granted, the instant of its admission, the cells charged to the reservation and to the shared part, whether it
carries data, its messages, its stream, the units that have left the egress buffer while it is in progress, and, when a
quay was declared DOWN while it was in progress (R107, R130, R131), the DOWN quay it goes toward or that it came from one. -/
structure CoreFlit where
  inp : Nat
  out : Nat
  cls : Nat
  ch : Chan
  units : Nat
  left : Nat
  admitted : Nat
  reserved : Nat
  shared : Nat := 0
  data : Bool
  items : List Item
  stream : Option StreamTag := none
  gone : Nat := 0
  cutTo : Option Nat := none
  cutFrom : Bool := false
  deriving DecidableEq, Repr

/-- One stream (R110): the next sequence number to be stamped, the next one to be released, and whether it is cleared once
none of its units is left. -/
structure Stream where
  next : Nat := 0
  release : Nat := 0
  ends : Bool := false
  deriving DecidableEq, Repr

/-- A write to a priority or policy object on its way to an arbiter (R118): class priority, the weight of an input,
or the policy. -/
inductive PrioWrite where
  | priority (v : Nat)
  | weight (inp v : Nat)
  | policy (v : Nat)
  deriving DecidableEq, Repr

/-- One output's arbiter (R116 to R120): the values in force, writes on their way in commit order, writes that have
reached it and wait for its next decision, the last class served, the last input served in each class and the core flits
served to it in its turn, and the last input granted. -/
structure Arb where
  priority : Nat := 0
  weights : Tab Nat := []
  policy : Nat := 0
  coming : List PrioWrite := []
  waiting : List PrioWrite := []
  lastClass : Nat := 7
  lastInput : Tab Nat := []
  served : Tab Nat := []
  lastGrant : Nat := 195
  deriving DecidableEq, Repr

/-- A gate list (R121): base time, cycle, entries. -/
structure GateList where
  base : Nat
  cycle : Nat
  entries : List Nat
  deriving DecidableEq, Repr

/-- The gates of a quay (R121 to R125): the running list, and the pending one with its start instant. -/
structure Gate where
  running : Option GateList := none
  pending : Option (GateList × Nat) := none
  deriving DecidableEq, Repr

/-- Table 6.2: the states of a line in a slice cache (I: no line). -/
inductive LineState where
  | m | e | f | s
  deriving DecidableEq, Repr

/-- A line in a slice cache or victim buffer: home key, state, data, poison, the host slot that last wrote it (R203), and
its way. -/
structure SLine where
  key : Nat
  st : LineState
  data : Nat
  poison : Bool := false
  writer : Nat := 0xFF
  way : Nat := 0
  deriving DecidableEq, Repr

/-- HSTATE of Table 6.3. -/
inductive HState where
  | none | shared | excl
  deriving DecidableEq, Repr

/-- A directory entry (Table 6.3) with the way it takes in its set. PINNED is 1 while a transaction on the line is open,
so it is not kept. -/
structure DirEnt where
  key : Nat
  way : Nat
  hs : HState
  ptrs : List Nat
  ovf : Bool := false
  peer : Bool := false
  deriving DecidableEq, Repr

/-- A request at its home (Table 6.4). -/
structure HReq where
  acc : Access
  /-- The pool epoch of its translation (R190). -/
  epoch : Nat := 0
  deriving DecidableEq, Repr

/-- What a home transaction serves: a host's request, a directory victim whose way a waiting request takes (R160),
an entry of the reset walk of a Basin (R171), or a prefetch (R210). -/
inductive TxFor where
  | host (r : HReq)
  | victim (set way : Nat)
  | walk (b : Nat)
  | prefetch
  deriving DecidableEq, Repr

/-- The stages of a home transaction, carried out in order; each is over when it awaits nothing. -/
inductive Stage where
  /-- BISnp to hosts, and whether it invalidates (R157). -/
  | bisnp (hosts : List Nat) (inv : Bool)
  /-- A write-back that a snooped host returned is written to memory (Table 6.4). -/
  | writeBack
  /-- The memory line is poisoned (R171). -/
  | poison
  /-- A read takes its data from the first source of R148. -/
  | supply
  /-- The line is read from memory unless the data are known. -/
  | readMem
  /-- A ring invalidate if PEER is 1 (R153). -/
  | ringInv
  /-- The home's own copy is invalidated. -/
  | dropHome
  /-- The request's data are written to memory. -/
  | writeMem
  /-- The last response, and the directory after it (Table 6.4). -/
  | respond
  /-- A near copy, if R150 makes one. -/
  | nearCopy
  /-- The directory entry is freed (R160, R171). -/
  | free
  /-- A private line is installed with the data read, merged with a write's, and the request answered (R201). -/
  | fill
  /-- The home's copy takes the value written through to memory, and the request is answered (R202). -/
  | through
  /-- A prefetched line is installed (R210). -/
  | keep
  /-- The copy read of a migration is over: the line may be written to the target (R214). -/
  | copied
  deriving DecidableEq, Repr

/-- An open home transaction (R146 to R152): its key, what it serves, its stages still to come, the slices and hosts whose
answers it awaits, the near slice whose acknowledgement it awaits, whether it awaits memory, the data, whether they are
poisoned, a host's write-back not yet in memory, and the slice that supplied the requester. -/
structure Tx where
  key : Nat
  serves : TxFor
  stages : List Stage
  ring : List Nat := []
  snps : List Nat := []
  near : Option Nat := none
  mem : Bool := false
  /-- A fill waits for a free entry of the victim buffer (R156). -/
  blocked : Bool := false
  data : Option Nat := none
  poison : Bool := false
  returned : Option Nat := none
  /-- The host whose write-back that is, until it is in memory (R206). -/
  wb : Option Nat := none
  supplier : Option Nat := none
  /-- Hosts whose write crossed the snoop and has completed (R158). -/
  crossed : List Nat := []
  /-- Writes that crossed the snoop and are not in memory yet, and whether one of a part of the line has made every slice copy
  out of date (R158). -/
  cross : Nat := 0
  stale : Bool := false
  deriving DecidableEq, Repr

/-- The kinds of ring snoop (Table 6.6). -/
inductive RingKind where
  | read | directed | invalidate
  deriving DecidableEq, Repr

/-- A ring snoop on its way: home, target slice, home key, kind. -/
structure RingSnoop where
  home : Nat
  target : Nat
  key : Nat
  kind : RingKind
  deriving DecidableEq, Repr

/-- A ring answer on its way to the home (R153): from which slice, the copy's state if it held one, and data. -/
structure RingAnswer where
  home : Nat
  origin : Nat
  key : Nat
  held : Option LineState
  data : Option Nat
  deriving DecidableEq, Repr

/-- A request delivered to a slice by the crossbar and not yet taken by its home tracker. -/
structure Inbox where
  slice : Nat
  acc : Access
  deriving DecidableEq, Repr

/-- What a slice holds (Table 6.1). -/
structure Slice where
  lines : List SLine := []
  dir : List DirEnt := []
  txs : List Tx := []
  conflict : List (Nat × HReq) := []
  alloc : List (Nat × HReq) := []
  /-- Requests that wait in the slice channels, since the home tracker or a queue is full (R147). -/
  door : List Access := []
  /-- The ways that verdicts chose for sets whose victim still waits for room in the home tracker (R135, R162), by set; 16: none. -/
  picked : Tab Nat := []
  victims : List SLine := []
  /-- The ways of a directory set from least to most recently used (R162). -/
  lru : Tab (List Nat) := []
  /-- BIConflicts that wait (R159): key, host, and whether the conflicting request is a write or a clean eviction. -/
  conflicts : List (Nat × Nat × Bool) := []
  deriving DecidableEq, Repr

/-- What a Basin holds beside its objects (R165, R171): the home set in force, members removed while DOWN, the reset
walk's entries still to visit, hosts dead in it, and whether the walk ends UNUSED. -/
structure Basin where
  setBase : Nat := 0
  setSize : Nat := 2
  removed : List Nat := []
  dead : List Nat := []
  disabling : Bool := false
  /-- It becomes UP when the parked slices of its set are unparked (R164). -/
  enabling : Bool := false
  deriving DecidableEq, Repr

end Sys2Proof.Machine
end

