-- ==== Sys2Proof/Machine/TypesPool.lean ====
section
/-!
DEFINITION. The records of the state that the pooled-memory chapter gives the device.
-/

namespace Sys2Proof.Machine

open Sys2Proof

/-- An entry of a translation cache (R186): Ledger index, the entry, the pool epoch of its fill, and the accesses
counted since the last fold (R219). -/
structure TEntry where
  index : Nat
  entry : Nat
  epoch : Nat
  count : Nat := 0
  deriving DecidableEq, Repr

/-- An open Ledger walk of a slice (R186): the Ledger line it reads, the epoch at its start, the accesses that wait. -/
structure Walk where
  slice : Nat
  line : Nat
  epoch : Nat
  waiting : List Access
  deriving DecidableEq, Repr

/-- What a memory access of the device is for: the home transaction of its line; the write of a host that crossed a snoop
(R158); the write-back of a line in M, with its writer slot (R156, R191, R203); the poisoned write of R205; a request forwarded to its home device (R103). -/
inductive MemFor where
  | tx
  | cross (a : Access)
  | clean (writer data : Nat)
  | flushWrite (a : Access)
  | poison
  | forward (a : Access)
  deriving DecidableEq, Repr

/-- A memory access the device has open (R190, R193, R204): its number, slice, home key, device (64: none) and DPA line,
the epoch of its translation, the page's Ledger index, the quay it goes out on, whether it writes, and what it is for. -/
structure MemAcc where
  id : Nat
  slice : Nat
  key : Nat
  dev : Nat
  line : Nat
  epoch : Nat
  index : Nat
  quay : Nat
  write : Bool
  goal : MemFor
  deriving DecidableEq, Repr

/-- A page being fenced after a Ledger write (R191): its index, the old entry, whether its lines in M are written back (a
write that keeps the mapping only invalidates translations), whether every line of it goes (R192), the lines written back, and
the accesses that wait. -/
structure PageFence where
  index : Nat
  old : Nat
  writeBack : Bool
  drop : Bool := false
  lines : List (Nat × Nat) := []
  waiting : List Access := []
  deriving DecidableEq, Repr

/-- Who asked for capacity (R194): an ALLOC_GRANT with its session slot (0: the FM API) and sequence number, or an
instance's capacity mailbox. -/
inductive Asker where
  | manager (slot seq : Nat)
  | inst (i : Nat)
  deriving DecidableEq, Repr

/-- An open capacity request (Table 7.5): the target berth or span, tier, fallback, pages, fewest pages, the asker,
and whether it waits for zeroing (else for a decision). -/
structure CapReq where
  target : Nat
  tier : Nat
  fallback : Bool
  pages : Nat
  minPages : Nat
  asker : Asker
  zeroWait : Bool
  deriving DecidableEq, Repr

/-- An extent that a host has still to accept (R197): berth, first berth page, pages. -/
structure Extent where
  berth : Nat
  first : Nat
  pages : Nat
  deriving DecidableEq, Repr

/-- A write held by the current bale of a migration (Table 7.9): the access record it becomes, and its data. -/
structure HeldWrite where
  acc : MemAcc
  data : Nat
  be : Nat
  poison : Bool := false
  deriving DecidableEq, Repr

/-- A migration slot (R212 to R218): Ledger index, source and target (device, page), the bitmap, the current bale,
whether it is being copied, the engine, writes held by the current bale, the lines of the bale whose copy read waits at their
homes (R214), whether tiering started it, its start, whether it copies back, whether its last entry is written (R216), and
whether a write to its target has failed (R217). -/
structure Mig where
  slot : Nat
  index : Nat
  srcDev : Nat
  srcPage : Nat
  dstDev : Nat
  dstPage : Nat
  bitmap : Nat := 0
  current : Nat := 0
  copying : Bool := false
  engine : Nat
  held : List HeldWrite := []
  waits : List Nat := []
  byTier : Bool
  start : Nat := 0
  reversing : Bool := false
  finishing : Bool := false
  failed : Bool := false
  deriving DecidableEq, Repr

/-- A page on its way to ZEROING (R199, R216): device, page, the epoch that its release opened, its Ledger index. -/
structure Releasing where
  dev : Nat
  page : Nat
  epoch : Nat
  index : Nat
  deriving DecidableEq, Repr

/-- What the pool keeps beside its objects. -/
structure Pool where
  /-- Ledger entries (Table 7.4) by index; an unlisted entry is 0. -/
  ledger : Tab Nat := []
  /-- The page-state map (Table 7.3) by device × 2^27 + page: 0 FREE, 1 USED, 2 ZEROING, 3 RESERVED; an unlisted page is
  ZEROING, since it has never been zeroed. -/
  pages : Tab Nat := []
  /-- Translation caches by slice, oldest fill first. -/
  tlb : Tab (List TEntry) := []
  walks : List Walk := []
  /-- Accesses that wait because 64 walks of their slice are open (R186). -/
  walkQueue : List (Nat × Access) := []
  fences : List PageFence := []
  accesses : List MemAcc := []
  nextAcc : Nat := 1
  /-- The device-wide poison list (R205), by device × 2^58 + DPA line. -/
  poison : List Nat := []
  caps : List CapReq := []
  extents : List Extent := []
  /-- The device that supplied a tier's last page, plus 1 (R196). -/
  lastDev : Tab Nat := []
  /-- Pages that wait until no access of an earlier epoch remains to them (R199, R216). -/
  releasing : List Releasing := []
  zeroFails : Tab Nat := []
  migs : List Mig := []
  nextEngine : Nat := 0
  /-- Recent misses by slice, 4 KiB block and time (R209). -/
  misses : List (Nat × Nat × Nat) := []
  /-- Hints on their way to a home: slice and key. -/
  hints : List (Nat × Nat) := []
  /-- Prefetched lines not used yet: slice and key. -/
  prefetched : List (Nat × Nat) := []
  sweep : Nat := 0
  /-- The time of the last decode event of a slot, plus 1 (R179). -/
  faultTime : Tab Nat := []
  /-- Devices whose enumeration is complete (R183), as a mask. -/
  enumerated : Nat := 0
  /-- Flushes whose answer is due (R203): session, sequence number, and the write-backs still open. -/
  flushes : List (Nat × Nat × List Nat) := []
  deriving DecidableEq, Repr

end Sys2Proof.Machine
end

