-- ==== Sys2Proof/Machine/TypesUnits.lean ====
section
/-!
DEFINITION. The records of the state that the remaining chapters give the device.
-/

namespace Sys2Proof.Machine

open Sys2Proof

/-- The settings of a service mode profile (Tables 2.3 and 2.9). -/
structure Settings where
  rateCap : Nat := 0
  power : Nat := 0
  slices : Nat := 0
  prefetch : Nat := 0
  share : Nat := 0
  depth : Nat := 0
  policy : Nat := 0
  near : Nat := 0
  deriving DecidableEq, Repr

/-- A transition between modes in progress (R27, R33, R469): its target; whether it enters from Slipway (and so has
already put its mode in force) or first ends Lull; wharves that still have to retrain and those retraining now;
slices that still have to park or to be unparked. -/
structure Transition where
  target : Nat
  fromSlipway : Bool
  endingLull : Bool := false
  toDrydock : Bool := false
  /-- The power limit that applies until Tide's next control update (Table 2.4). -/
  powerFrom : Option Nat := none
  waitWharves : List Nat := []
  nowWharves : List Nat := []
  /-- The settings of the target's profile as the transition took them (R30, R469). -/
  taken : Settings := {}
  deriving DecidableEq, Repr

/-- What the modes keep beside their objects. -/
structure Modes where
  trans : Option Transition := none
  /-- The number of slices being parked down to, while a park goes on (R31, R36). -/
  parkTo : Option Nat := none
  /-- Slices to unpark, in order (R138). -/
  unpark : List Nat := []
  /-- The entry to Lull is in progress (R37). -/
  lullEntry : Bool := false
  /-- Slices parked for Lull (R36). -/
  lullParked : List Nat := []
  /-- Autostart in the present stay in Slipway (R29, R377): it can still act; the AUTOSTART_DELAY that has elapsed. -/
  autoLive : Bool := true
  autoElapsed : Option Nat := none
  /-- Full has been reached in this stay, so that the autostart delay runs (R29). -/
  autoRuns : Bool := false
  /-- Lull is being left: slices parked for it return (R36, R38). -/
  lullExit : Bool := false
  /-- The deferred POWER_STATE_REQUEST whose answer is due (R318): session slot and sequence number. -/
  powerReq : Option (Nat × Nat) := none
  /-- The request the device makes itself at a start from Off is being carried out (R372), and the one request for Standby
  that waits for it: session slot and sequence number. -/
  ownPowerReq : Bool := false
  waitStandby : Option (Nat × Nat) := none
  decisions : List Decision := []
  nextToken : Nat := 1
  deriving DecidableEq, Repr

/-- A queue's state (Table 8.8); HELD is shown while the instance is IMPOUNDED or no service mode is in force. -/
inductive QState where
  | absent | running | error | paused | disabling | disabled | destroying
  deriving DecidableEq, Repr

/-- A descriptor in execution (R236): its ring index and lap phase, its 64 B, the pieces issued, the pieces whose accesses
have ended, those that failed with status and subcode (Table 8.4), those that wrote, the offset of the first poisoned
source line, the bytes read by piece at the source and the destination, the open checks of its pieces, why it was cut (the
SUBCODE of PARTIAL), whether it is UNCERTAIN for a reason of its own, and the status of one that ends without pieces
(SKIPPED, an administrative command). -/
structure Desc where
  entry : Nat
  phase : Bool
  raw : Nat
  issued : Nat := 0
  finished : List Nat := []
  bad : List (Nat × Nat × Nat) := []
  wrote : List Nat := []
  poisonAt : Option Nat := none
  srcs : Tab Nat := []
  dsts : Tab Nat := []
  /-- The instants at which its pieces were issued (R436). -/
  starts : Tab Nat := []
  /-- The engines on which its pieces were issued, where that is not engine 0. -/
  engines : Tab Nat := []
  checks : List (Nat × Nat) := []
  /-- The cacheability that the check of each piece delivered for its parts (R266, R273). -/
  caches : Tab (List Nat) := []
  cut : Option Nat := none
  uncertain : Bool := false
  status : Option Nat := none
  deriving DecidableEq, Repr

/-- A work queue (R233 to R247). -/
structure Queue where
  inst : Nat
  qid : Nat
  ctx : QContext
  state : QState
  fetch : Nat := 0
  phase : Bool := true
  /-- Fetched entries that have not started: ring index, phase, 64 B. -/
  cache : List (Nat × Bool × Nat) := []
  exec : List Desc := []
  head : Nat := 0
  headPhase : Bool := true
  errCode : Nat := 0
  errIndex : Nat := 0
  invalHead : Nat := 0
  /-- The entry at which a PAUSED queue is held. -/
  paused : Nat := 0
  pausedRaw : Nat := 0
  /-- The head word waits to be written, and the vector to be raised after it. -/
  headDue : Bool := false
  noticeDue : Bool := false
  /-- The head stays at a PARTIAL descriptor of a reset or a disable (R247). -/
  stuck : Bool := false
  deriving DecidableEq, Repr

/-- A bound function's resources (R248 to R256; Tables 8.12 and 8.14). -/
structure Inst where
  bound : Bool := false
  quay : Nat := 0
  function : Nat := 0
  model : Nat := 0
  share : Nat := 1
  maxQueues : Nat := 1
  nextMaxQueues : Option Nat := none
  berthMask : Nat := 0
  quota : Nat := 0
  enable : Bool := false
  h2m : Nat := 0
  h2mPost : Bool := false
  m2h : Nat := 0
  m2hValid : Bool := false
  mboxVector : Nat := 0
  capReq : Nat := 0
  capResp : Nat := 0
  capGo : Bool := false
  capVector : Nat := 0
  evtBase : Nat := 0
  evtEntries : Nat := 0
  evtVector : Nat := 0
  evtHead : Nat := 0
  evtTail : Nat := 0
  evtOverflow : Bool := false
  recoveryLoss : Bool := false
  bytes : Nat := 0
  resetting : Bool := false
  buckets : Tab Int := []
  /-- SHARE as its last round on an engine took it (R228), by engine; 0: not taken yet. -/
  shares : Tab Nat := []
  /-- ADMIN_CONTEXT and the QUEUE_CONTEXTs as the host wrote them (R239), CAP_CTL.RELEASE, the MSI-X table by vector (an entry that
  is not listed is masked, as PCI Express resets it: PRESUMED, log entry 107), and the pending bits (Table 8.12). -/
  admin : Option QContext := none
  contexts : List QContext := []
  capRelease : Bool := false
  msixTable : Tab Nat := []
  pba : Nat := 0
  deriving DecidableEq, Repr

/-- One line access of a piece at its home slice (R224, R225, R236): its number, the descriptor and piece, whether it reads the
source (0), the destination (1) or writes (2), the line of the HPA, whether it has ended, the line read, whether it is poisoned, the
status and subcode of Table 8.4 with which it failed, and whether it ended by a timer (R395). -/
structure PieceAcc where
  id : Nat
  inst : Nat
  qid : Nat
  entry : Nat
  piece : Nat
  part : Nat
  line : Nat
  ended : Bool := false
  data : Nat := 0
  poison : Bool := false
  status : Nat := 0
  sub : Nat := 0
  late : Bool := false
  /-- Its open check; 0: its descriptor holds it. -/
  chk : Nat := 0
  deriving DecidableEq, Repr

/-- A Crane engine (R227, R228): its allowance, the share in force for its refills, and the queue that started its last
round (4,096 × instance + queue, plus 1). -/
structure Engine where
  bucket : Int := 65536
  share : Nat := 100
  start : Nat := 0
  deriving DecidableEq, Repr

/-- What Crane keeps. -/
structure Crane where
  insts : Tab Inst := []
  queues : List Queue := []
  engines : Tab Engine := []
  /-- Pages in ZEROING in the order they entered it (R228): device, first page, pages. -/
  zeroQueue : List (Nat × Nat × Nat) := []
  /-- Pages being zeroed: device, page, units of 64 KiB started, engine. -/
  zeroing : List (Nat × Nat × Nat × Nat) := []
  /-- Event records that wait to be written to the ring of an instance (R250), oldest first. -/
  ringWork : List (Nat × Event) := []
  /-- The accesses of pieces in flight, and the number of the next one. -/
  accs : List PieceAcc := []
  nextAcc : Nat := 1
  deriving DecidableEq, Repr

/-- What is due once a message has been answered: the self-tests (R303, Table 12.11), with the tests that fail; the end of a session (R298) or of the sessions of a credential (R349), a
zeroisation (R359), a recovery reset (R378), a lifecycle change (R360), with the world around the last two, or a hardware
action that a verdict in the message lets through (R390): the action, its error and its event record. -/
inductive After where
  | selfTest (fails : Nat)
  | close (slot : Nat)
  | credential (k : Nat)
  | zeroise
  | reset (env : Env)
  | lifecycle (target : Nat) (env : Env)
  | act (action : Nat) (err : Err) (record : Nat)
  deriving DecidableEq, Repr

/-- What the management plane keeps beside its objects (The Manifest and ZMP). -/
structure Mgmt where
  sessions : List Session := []
  /-- The last 1,024 events, oldest first (R310). -/
  eventLog : List Event := []
  /-- The FM API read pointer (Table 10.16). -/
  fmPointer : Nat := 0
  /-- vPPB bindings of the virtual CXL switches: Host quay, vPPB, target. -/
  vppbs : List (Nat × Nat × Nat) := []
  /-- Deferred command answers still due (R306): session slot and sequence number. -/
  due : List (Nat × Nat) := []
  /-- Deferred answers that are ready to be sent: session slot, sequence number, status, answer. -/
  ready : List (Nat × Nat × Nat × Nat) := []
  after : List After := []
  /-- Consecutive time offsets below 100 ns (R312). -/
  goodOffsets : Nat := 0
  /-- Journal numbers reserved up to here (R304). -/
  seqBlock : Nat := 65537
  /-- Fabric time has been aligned to a source since power-up (R311). -/
  aligned : Bool := false
  /-- ETH_MODE as sampled at the start from Off, by port: 0 SGMII, 1 1000BASE-X (R450). -/
  ethMode : Nat := 0
  /-- ns of offset still to be slewed, and ticks of the time base since the last ns of slew (R312). -/
  slew : Int := 0
  slewRun : Nat := 0
  /-- The event up to which PLDM polling has read (Table 10.15). -/
  pldmPointer : Nat := 0
  deriving DecidableEq, Repr

/-- What the lanes, links and switch core keep beside their objects. -/
structure Net where
  /-- Lane tiles whose wharves have been started since the tile was last powered (R59, R472), as a mask. -/
  started : Nat := 0
  /-- Tiles whose reference is still to be judged absent, 10 µs after the start (R59). -/
  absentDue : Nat := 0
  /-- Wharves whose PLL relocks (R59), as a mask. -/
  relock : Nat := 0
  quays : Tab Quay := []
  orig : List Orig := []
  /-- Requests of the device's own that wait for a tag slot (R93), oldest first. -/
  waiting : List OrigWait := []
  /-- Tag slots (R92) by quay × 8,192 + slot, where the slots of each tag size have numbers of their own. -/
  tags : Tab TagSlot := []
  /-- Core flits in VOQs, in order of admission (R109). -/
  voq : List CoreFlit := []
  /-- Core flits that wait at their input for reserved cells (R111), in order of arrival. -/
  backlog : List CoreFlit := []
  /-- Core flits wholly across and in egress buffers (R115), in order of arrival. -/
  egress : List CoreFlit := []
  streams : Tab Stream := []
  arbs : Tab Arb := []
  gates : Tab Gate := []
  /-- SHAPE_RATE in force since the last refill (R128), by quay × 8 + class. -/
  rates : Tab Nat := []
  inbox : List Inbox := []
  /-- Levels of CXL.mem requests in transit (R108), by source PBR ID × 65,536 + tag. -/
  passed : Tab Nat := []
  /-- Snoops relayed to members' quays (R103): home device, address, and the quays still to answer. -/
  relays : List (Nat × Nat × List Nat) := []
  deriving DecidableEq, Repr

/-- The Customs tables of one epoch (R267, R274): region entries by master × 256 + region (word 0, then word 1), and the
masters whose privilege differs from its default (Table 9.1). -/
structure CTable where
  regions : Tab Nat := []
  flips : Tab Nat := []
  deriving DecidableEq, Repr

/-- An IMPOUNDED master (R279): the input of the checker that found the violation, and whether every other checker knows. -/
structure Impound where
  master : Nat
  input : Nat
  everywhere : Bool := false
  deriving DecidableEq, Repr

/-- A held request (R279): its master, its input, the quay it came from, and the message with its level. -/
structure Held where
  master : Nat
  input : Nat
  quay : Nat
  msg : Msg
  level : Nat
  deriving DecidableEq, Repr

/-- A checked non-posted request forwarded to a quay (Table 9.7): its check, requester quay and tag, and egress quay. -/
structure Forwarded where
  check : Nat
  quay : Nat
  tag : Nat
  egress : Nat
  deriving DecidableEq, Repr

/-- The device's own work that an engine does (R228): the bale that a migration slot copies, or the zeroing of a page of a device. -/
inductive OwnWork where
  | bale (slot : Nat)
  | zero (dev page : Nat)
  deriving DecidableEq, Repr

/-- An open check (R274): its number, the epoch of the check, its master, the region it matched (256: the default map), whether it
writes, and the line accesses that it stands for. -/
structure Opened where
  id : Nat
  epoch : Nat
  master : Nat
  region : Nat
  write : Bool
  accesses : Nat := 1
  own : Option OwnWork := none
  deriving DecidableEq, Repr

/-- What Customs keeps beside its objects. -/
structure Customs where
  /-- The tables of the epochs that some checker still holds, newest first (R274). -/
  tables : List CTable := [{}]
  /-- How many epochs the checker of an input is behind. -/
  lag : Tab Nat := []
  impounds : List Impound := []
  held : List Held := []
  /-- MASTER_VIOLATION and the violation count of each master (R278). -/
  violations : Tab Nat := []
  counts : Tab Nat := []
  opened : List Opened := []
  forwarded : List Forwarded := []
  nextCheck : Nat := 1
  /-- The window in management space of each quay's partner, as the last enumeration assigned it: its first and last 4 KiB page. -/
  windows : List (Nat × Nat × Nat) := []
  deriving DecidableEq, Repr

/-- What the home slices and Basins keep beside their objects. -/
structure Coh where
  slices : Tab Slice := []
  basins : Tab Basin := []
  snoops : List RingSnoop := []
  answers : List RingAnswer := []
  /-- Requests to lines whose homing moves (R32, R139), in order of arrival. -/
  held : List Access := []
  deriving DecidableEq, Repr

end Sys2Proof.Machine
end

