-- ==== Sys2Proof/Machine/TypesMore.lean ====
section
/-!
DEFINITION. The records of the state that the power, security, start-up, faults, sideband and observability chapters give
the device.
-/

namespace Sys2Proof.Machine

open Sys2Proof

/-! Tide (11). -/

/-- A slot channel beside its objects (R331 to R336): its retry count and the RETRY_LIMIT of its last trip, whether its
cool-down runs and when that ends, whether the current has been held at the limit since the gate came on, whether the short
pins are low and steady, whether PERST_DELAY runs, the ramp rate of a verdict, and the supply of its present ramp. -/
structure SlotCh where
  retries : Nat := 0
  limit : Nat := 0
  cooling : Bool := false
  coolEnd : Nat := 0
  limited : Bool := false
  steady : Bool := false
  perstDue : Bool := false
  rate : Option Nat := none
  supply : Nat := 0
  /-- SLOT_QUAY and SLOT_AUTO_ON as the last ramp start, or the start of the device, took them (R339). -/
  quay : Nat := 0xFF
  auto : Nat := 1
  deriving DecidableEq, Repr

/-- An up-step that has been warned of (R323): the level up to which the ceiling may rise before its start, its start (with
the first start chosen, R326), its size in A, and whether the ramp has begun. -/
structure Fore where
  hold : Nat
  start : Nat
  first : Nat
  step : Nat
  ramping : Bool := false
  deriving DecidableEq, Repr

/-- An announced up-step of another member of the chain (R326): its source, start and step in A. -/
structure Announced where
  source : Nat
  start : Nat
  step : Nat
  deriving DecidableEq, Repr

/-- What Tide keeps beside its objects. Currents are in Q16.16 A, the core voltage in mV. -/
structure Tide where
  /-- TIDE_FORE_LANE_N is asserted, until the lane ramp ends at this time (R324). -/
  laneRamp : Option Nat := none
  /-- The rail whose power-good is awaited at a power-up (R317). -/
  rising : Option Nat := none
  /-- Rail regulators that have not answered since their event (R318), as a mask. -/
  silent : Nat := 0
  /-- VCORE as last requested, in mV; 0 before the first request (R319). -/
  vcore : Nat := 0
  vsram : Nat := 0
  /-- Updates since the governor last raised its ceiling, up to 20 (R319). -/
  calm : Nat := 20
  raised : Bool := false
  /-- The die voltage is below 0.585 V, or was within the last µs (R320). -/
  droop : Bool := false
  /-- The power cap (R329). -/
  cap : Nat := 480 * 65536
  demand : Nat := 0
  fore : Option Fore := none
  announced : List Announced := []
  /-- The cap when the throttle began (R330). -/
  throttleCap : Nat := 0
  /-- Type 44 has been raised and has not re-armed (R392); the trip of 115 °C has been raised. -/
  hot : Bool := false
  tripped : Bool := false
  /-- The time of the last POWER_LIMIT_UNMET event, plus 1. -/
  unmetAt : Nat := 0
  slots : Tab SlotCh := []
  deriving DecidableEq, Repr

/-! Breakwater (12). -/

/-- An IDE stream of a quay (R352 to R355): its state (0 NONE, 1 KEYING, 2 SECURE, 3 INSECURE), the keys by
3 × key set + sub-stream, the active key set, and a retired set that is not yet zeroised. -/
structure IdeStream where
  st : Nat := 0
  keys : Tab Nat := []
  active : Nat := 0
  retiring : Option Nat := none
  /-- A flit of the stream has failed its integrity check: later ones are discarded (R354). -/
  failed : Bool := false
  deriving DecidableEq, Repr

/-- The image that manufacture puts into slot A: a valid one, of security version 0. -/
def factoryImage : Image :=
  { bodyLength := 1, svn := 0, keySlot := 0, version := Config.factoryVersion, digestOk := true, ecdsaOk := true
    mldsaOk := true, bodyOk := true }

/-- The header of an image (Table 12.2). -/
def imageHeader (i : Image) : Nat :=
  i.magic + i.headerVersion * 2 ^ 32 + i.bodyLength * 2 ^ 64 + i.svn * 2 ^ 96 + i.keySlot * 2 ^ 112 + i.version * 2 ^ 128 +
    i.bodyHash * 2 ^ 384 + i.ecdsaKey * 2 ^ 768 + i.mldsaKey * 2 ^ 1536 + i.ecdsaSig * 2 ^ 22272 + i.mldsaSig * 2 ^ 23040

/-- What layer 1 measures (Table 12.3): the image header, LIFECYCLE and SVN_FUSED. -/
def layerOf (running : Option Image) (lifecycle svnFused : Nat) : Nat :=
  lifecycle + svnFused * 2 ^ 8 + (running.map imageHeader).getD 0 * 2 ^ 16

/-- The security configuration that block 6 covers (Table 12.4): credentials without PSK bytes, trust anchors, role caps and
FMAPI_ENABLE. -/
def securityOf (creds anchors caps : List Nat) (fmApi : Nat) : Nat :=
  let pack (w : Nat) (l : List Nat) (v : Nat) : Nat := l.foldl (fun v x => v * 2 ^ w + x) v
  pack 384 anchors (pack 896 creds 0) * 2 ^ 48 + pack 8 caps 0 + fmApi * 2 ^ 40

/-- The blocks of Table 12.4. Blocks 1, 2 and 6 are digests, of the ROM, of the image header and of the security configuration. -/
def blocksOf (running : Option Image) (lifecycle svnFused debug security : Nat) : List Nat :=
  [Config.spdmAnswer 0xE001 0, Config.spdmAnswer 0xE002 ((running.map imageHeader).getD 0),
   svnFused + 65536 * (running.map (·.svn)).getD 0, lifecycle, debug, Config.spdmAnswer 0xE006 security]

/-- Blocks one after another. -/
def packBlocks (l : List Nat) : Nat := l.foldl (fun v b => v * 2 ^ 384 + b % 2 ^ 384) 0

/-- The CSPs in the enclave's SRAM (Table 12.1) beside sessions and IDE keys: the DeviceID and Alias private keys, CDI_L1, KWK and the
state of the DRBG, with its requests since it was seeded and the time of that (R356). None is there once it has been zeroised. -/
structure Enclave where
  deviceKey : Option Nat := none
  cdi : Option Nat := none
  aliasKey : Option Nat := none
  kwk : Option Nat := none
  drbg : Option Nat := none
  uses : Nat := 0
  seeded : Nat := 0
  deriving DecidableEq, Repr

/-- What a boot derives (Table 12.3) from what layer 1 measures and STORE_EPOCH; nothing with a blown UDS (R362). -/
def enclaveOf (blown : Bool) (layer epoch seed time : Nat) : Enclave :=
  let key (v : Nat) : Option Nat := if blown then none else some v
  { deviceKey := key Config.deviceIdPrivate, cdi := key (Config.cdiOne layer), aliasKey := key (Config.aliasPrivate layer)
    kwk := key (Config.storeKey epoch), drbg := some seed, seeded := time }

/-- What Breakwater keeps beside its objects: streams by 8 × quay + stream (0: the link stream), wharves that refuse keys
(SOFT_ERROR of their engine), wharves whose engine fails its tests (a fact), consecutive failed entropy windows, whether a SOFT_ERROR is due to one, whether HARD_ERROR
awaits its recovery reset and whether that has been used, authorisations (session, level), a confirmed
ENTER_DRYDOCK, the arming (session, target), the lifecycle intent, the epoch of the
store, whether the UDS is blown and the DeviceID certificate present, certificate slot 1, fuse digests, and the images
of the two MRAM slots, and the image that runs with its FIRMWARE_SLOT. -/
structure Bw where
  /-- What layer 1 measured, and the measurement blocks, at the last boot (R290, Table 12.18). -/
  bootLayer : Nat := layerOf (some factoryImage) 1 0
  bootBlocks : Nat := packBlocks (blocksOf (some factoryImage) 1 0 0 (securityOf [] [] [3, 3, 2, 2, 1] 0))
  streams : Tab IdeStream := []
  badWharves : Nat := 0
  engineFaults : Nat := 0
  entropyBad : Bool := false
  badWindows : Nat := 0
  resetDue : Bool := false
  resetUsed : Bool := false
  holders : List (Nat × Nat) := []
  arming : Option (Nat × Nat) := none
  intent : Option Nat := none
  storeEpoch : Nat := 0
  udsBlown : Bool := false
  certPresent : Bool := true
  chain1 : Option Nat := none
  imageA : Option Image := some factoryImage
  imageB : Option Image := none
  running : Option Image := some factoryImage
  runSlot : Nat := 0
  /-- The start in progress is one from Off (R372). -/
  fromOff : Bool := false
  enclave : Enclave := {}
  /-- Pre-shared keys by credential, each wrapped under KWK (R341). -/
  store : Tab Nat := []
  /-- Quays whose IDE_KM session is open (R352). -/
  km : List Nat := []
  deriving DecidableEq, Repr

/-! Start-up (13). -/

/-- Where the device stands before it answers: Off; held in the ROM by TEST_MODE; the recovery loader runs (R344);
running. -/
inductive Boot where
  | off | held | loader | running
  deriving DecidableEq, Repr

/-! Faults (14). -/

/-- What a source has counted (R384, Table 14.12). -/
structure SrcCount where
  count : Nat := 0
  first : Nat := 0
  last : Nat := 0
  cls : Nat := 0
  typ : Nat := 0
  deriving DecidableEq, Repr

/-- A class in WINDOW (R389): class, token, condition, proposed action, the instant at which the window expires, and its
event record. -/
structure Window where
  cls : Nat
  token : Nat
  err : Err
  action : Nat
  expires : Nat
  record : Nat
  deriving DecidableEq, Repr

/-- A slice being fenced (Table 14.6): the lines its dirty mirror names with their writers, whether the requests open to it
have ended (step 3), and the instant of the fence. -/
structure Fencing where
  slice : Nat
  mirror : List (Nat × Nat)
  ended : Bool := false
  time : Nat
  deriving DecidableEq, Repr

/-- What Watch's collector and the fences keep beside their objects. -/
structure Faults where
  sources : Tab SrcCount := []
  windows : List Window := []
  fencing : List Fencing := []
  /-- Units marked by FENCE_CLEAR (R400), as masks. -/
  clearSlices : Nat := 0
  clearEngines : Nat := 0
  clearCores : Nat := 0
  /-- The Salvage flush runs (R402). -/
  flushing : Bool := false
  deriving DecidableEq, Repr

/-! Sideband (15). -/

/-- A far piece of a window (R415): offset, bytes, and for a write its data in far order. -/
structure Piece where
  offset : Nat
  len : Nat
  data : Nat := 0
  deriving DecidableEq, Repr

/-- A queued access of a window (R416, R419): a write, or the read of the slot; offset, length, the pieces still to go out,
and the bytes read so far. -/
structure SbAccess where
  write : Bool
  offset : Nat
  len : Nat
  pieces : List Piece
  data : Nat := 0
  cancelled : Bool := false
  deriving DecidableEq, Repr

/-- A window beside its configuration (Table 15.3): the read slot (state, offset, length, code, data), whether a host read
is held, by its tag (R420), the write status, DISCARDS, queued accesses, and its PMBus page (R423). -/
structure Win where
  st : Nat := 0
  offset : Nat := 0
  len : Nat := 0
  code : Nat := 0
  data : Nat := 0
  holding : Option Nat := none
  wrError : Bool := false
  lastCode : Nat := 0
  errOffset : Nat := 0
  discards : Nat := 0
  queue : List SbAccess := []
  page : Nat := 0
  deriving DecidableEq, Repr

/-- The transfer in progress on a bus (R409): the alert response, STATUS_WORD of its responder, or a piece of a window. -/
inductive SbJob where
  | alert
  | statusWord (addr : Nat)
  | piece (w : Nat)
  deriving DecidableEq, Repr

/-- A bus beside its objects: the last sample of its signals, whether an alert response is due, the time of the last one of
the present alert, the transfer in progress, lost arbitrations of it, pages by device plus 1 (R423), the window served
last, and the mode of the last transfer (R408, R429). -/
structure Bus where
  sample : Option Nat := none
  alert : Bool := false
  alertAt : Option Nat := none
  job : Option SbJob := none
  lost : Nat := 0
  pages : Tab Nat := []
  lastWin : Nat := 127
  mode : Nat := 0
  deriving DecidableEq, Repr

/-- A sensor beside its objects (R425, R426): failures in a row, VOUT_MODE, and whether its KIND 5 report has been raised and
no reading within both limits has come since. -/
structure Sensor where
  fails : Nat := 0
  vout : Option Nat := none
  alarmed : Bool := false
  deriving DecidableEq, Repr

/-- What the bridge keeps. -/
structure Side where
  buses : Tab Bus := []
  wins : Tab Win := []
  sensors : Tab Sensor := []
  /-- The discarded-read log, newest first (R422), and the number of the newest. -/
  log : List Nat := []
  logSeq : Nat := 0
  deriving DecidableEq, Repr

/-! Observability (16). -/

/-- A traffic generator (R443): whether a request is open, its address, whether it reads back the line just written, when it started,
and whether the next one waits for INTERVAL. -/
structure Gen where
  busy : Bool := false
  addr : Nat := 0
  readBack : Bool := false
  start : Nat := 0
  waits : Bool := false
  deriving DecidableEq, Repr

/-- What Watch's counters, telemetry, trace and the test access port keep beside their objects. -/
structure Obs where
  /-- Payload bytes received and transmitted in the bandwidth window, by quay, and quays whose window was restarted and
  has not begun again. -/
  rx : Tab Nat := []
  tx : Tab Nat := []
  restarted : List Nat := []
  /-- Ticks of each tile's time base (R430). -/
  ticks : Tab Nat := []
  /-- Telemetry records, oldest first, and the slices' own counts in the period (2 × slice: entries; + 1: hits). -/
  records : List Nat := []
  period : Tab Nat := []
  /-- Trace records, oldest first, and the instant of the last at ports A and B. -/
  trace : List Nat := []
  lastA : Option Nat := none
  lastB : Option Nat := none
  gens : Tab Gen := []
  /-- The JTAG instruction in effect, and the boundary register. -/
  tap : Nat := 2
  boundary : Nat := 0
  /-- The debug register's last captured value. -/
  debug : Nat := 0
  deriving DecidableEq, Repr

end Sys2Proof.Machine
end

