-- ==== Sys2Proof/Machine/State.lean ====
section
/-!
DEFINITION. The state: everything the spec gives the device, the queue of commands that wait, the state at reset, and
the reasons a step can stop.
-/

namespace Sys2Proof.Machine

open Sys2Proof

/-- The device. `man` holds the value of every object of the Manifest that differs from its default; the other fields
hold what the rules give the device beside its objects. -/
structure Dev where
  part : Part := .w512
  /-- The device runs and answers: VAUX is good and start-up has reached step 6 of Table 13.1. -/
  powered : Bool := true
  boot : Boot := .running
  /-- Fabric time in ns (R311). -/
  time : Nat := 0
  man : Tab Nat := []
  /-- LAST_SEQ of each object (R305). -/
  lastSeq : Tab Nat := []
  /-- Stored values of persistent-on-commit objects and their LAST_SEQ (R290, R305). -/
  stored : Tab Nat := []
  storedSeq : Tab Nat := []
  mgmt : Mgmt := {}
  modes : Modes := {}
  net : Net := {}
  coh : Coh := {}
  pool : Pool := {}
  crane : Crane := {}
  customs : Customs := {}
  tide : Tide := {}
  bw : Bw := {}
  faults : Faults := {}
  side : Side := {}
  obs : Obs := {}
  /-- The error lines to the Watch collector, oldest first (R384, R386). -/
  lines : List Err := []
  /-- What the device has sent or driven, oldest first. -/
  sent : List Out := []
  /-- Free values drawn so far (the model's own). -/
  draws : Nat := 0
  deriving DecidableEq, Repr

structure State where
  dev : Dev
  /-- The commands that wait, first in, first out. -/
  pending : List Instr
  deriving DecidableEq, Repr

/-- No command ends in a fault: an event that the state does not let arise changes nothing. The one constructor is
raised by no meaning. -/
inductive Fault where
  /-- Raised by nobody. -/
  | impossible
  deriving DecidableEq, Repr

/-- Why a command is refused. -/
inductive Refusal where
  /-- Raised by nobody: every command has its meaning. It would be safe: no step is taken. -/
  | notModelled (mnemonic : String)
  deriving DecidableEq, Repr

/-- The quays at reset: with every wharf cut as one x16 quay (BIFURCATION 0), quay 4w is DOWN with CONFIG_WIDTH 16
(R373, Table 3.2). -/
def quaysAtReset : Tab Nat :=
  (List.range 32).flatMap fun w => [(0x210001 + 1024 * w, 1), (0x210004 + 1024 * w, 16)]

/-- The objects at reset that differ from their defaults: COMMIT_SEQ after the device commit of R372, the quays, rail 4 on
its way up, and BW_STATE OPERATIONAL (Table 13.1, steps 4 to 7). -/
def manAtReset : Tab Nat := (0x103001, 2) :: quaysAtReset ++ [(0x801401, 1), (0x900002, 1)]

/-- What the first start derives (Table 12.3). -/
def bwAtReset : Bw := { enclave := enclaveOf false (layerOf (some factoryImage) 1 0) 0 Config.drbgSeed 0 }

/-- What the first start drives: every rail enable and slot gate off and SLOT_PERST_N asserted (R369), and the enable of VIO. -/
def sentAtReset : List Out :=
  (List.range 5).map (fun r => .pin (10 + r) 0) ++ (List.range 48).flatMap (fun s => [.pin (300 + s) 0, .pin (100 + s) 0]) ++
    [.pin 14 1]

/-- The W512 at the first start from Off, with the defaults of manufacture: in Slipway in Standby, with its own request
for Full under way (R372) and an empty queue. -/
def State.reset : State :=
  { dev := { man := manAtReset, modes := { ownPowerReq := true }, bw := bwAtReset, tide := { rising := some 4 }, sent := sentAtReset }
    pending := [] }

end Sys2Proof.Machine
end

