-- ==== Sys2Proof/Machine/Ops.lean ====
section
/-!
DEFINITION. The named operations that every family uses: reading and writing objects, commits, events, error lines,
held operations, and what the device sends.
-/

namespace Sys2Proof.Machine

open Sys2Proof

/-! Pins and pulses by number: the model's own numbering of `Out.pin`. -/

/-- TIDE_FORE_LANE_N, the forewarning to the VLANE_A regulator (R324). -/
abbrev Pin.laneFore : Nat := 1

/-- TIDE_FORE_N (R323). -/
abbrev Pin.fore : Nat := 2

/-- TIDE_THERMTRIP_N (R330). -/
abbrev Pin.thermTrip : Nat := 3

/-- The enable of a rail (R317). -/
abbrev Pin.rail (r : Nat) : Nat := 10 + r

/-- The pre-charge path (level 1) or bypass (level 2) of a backplane channel. -/
abbrev Pin.bp (b : Nat) : Nat := 20 + b

/-- SLOT_PERST_N, SLOT_PWRWARN_N and the gate of a slot; the level of a gate is its ramp rate in 0.1 V/ms. -/
abbrev Pin.perst (s : Nat) : Nat := 100 + s
abbrev Pin.warn (s : Nat) : Nat := 200 + s
abbrev Pin.gate (s : Nat) : Nat := 300 + s

/-- QPERST of a Downstream quay (Table 13.1). -/
abbrev Pin.qperst (q : Nat) : Nat := 400 + q

/-- The value an object holds. -/
def Dev.get (d : Dev) (o : Nat) : Nat := Tab.get (objDefault d.part o) d.man o

/-- Set the value of an object. -/
def Dev.put (o v : Nat) (d : Dev) : Dev := { d with man := Tab.set (objDefault d.part o) d.man o v }

/-- Set an object when a condition holds. -/
def Dev.putIf (b : Bool) (o v : Nat) (d : Dev) : Dev := if b then d.put o v else d

/-- Set several objects. -/
def Dev.putAll (l : List (Nat × Nat)) (d : Dev) : Dev := l.foldl (fun d p => d.put p.1 p.2) d

/-! Changing one part of the state. -/

def Dev.setNet (f : Net → Net) (d : Dev) : Dev := { d with net := f d.net }
def Dev.setCoh (f : Coh → Coh) (d : Dev) : Dev := { d with coh := f d.coh }
def Dev.setPool (f : Pool → Pool) (d : Dev) : Dev := { d with pool := f d.pool }
def Dev.setCrane (f : Crane → Crane) (d : Dev) : Dev := { d with crane := f d.crane }
def Dev.setCustoms (f : Customs → Customs) (d : Dev) : Dev := { d with customs := f d.customs }
def Dev.setMgmt (f : Mgmt → Mgmt) (d : Dev) : Dev := { d with mgmt := f d.mgmt }
def Dev.setModes (f : Modes → Modes) (d : Dev) : Dev := { d with modes := f d.modes }

def Dev.setTide (f : Tide → Tide) (d : Dev) : Dev := { d with tide := f d.tide }
def Dev.setBw (f : Bw → Bw) (d : Dev) : Dev := { d with bw := f d.bw }
def Dev.setFaults (f : Faults → Faults) (d : Dev) : Dev := { d with faults := f d.faults }
def Dev.setSide (f : Side → Side) (d : Dev) : Dev := { d with side := f d.side }
def Dev.setObs (f : Obs → Obs) (d : Dev) : Dev := { d with obs := f d.obs }

/-- Count up a U32 counter that saturates (R78, R134, R175, R223, R261, R406, R446). -/
def Dev.count (o n : Nat) (d : Dev) : Dev := d.put o (satAdd 32 (d.get o) n)

/-- Append to what the device sends. -/
def Dev.send (o : Out) (d : Dev) : Dev := { d with sent := d.sent ++ [o] }

/-- Append several messages. -/
def Dev.sendAll (l : List Out) (d : Dev) : Dev := { d with sent := d.sent ++ l }

/-- Put a condition on the error lines to the collector (R384). -/
def Dev.err (e : Err) (d : Dev) : Dev := { d with lines := d.lines ++ [e] }

/-- Put a condition on the error lines when it holds. -/
def Dev.errIf (b : Bool) (e : Err) (d : Dev) : Dev := if b then d.err e else d

/-! Modes and power states (Table 2.1, R35). -/

/-- The mode in force. -/
def Dev.mode (d : Dev) : Nat := d.get Obj.currentMode

/-- A service mode (Bulk 1, Swift 2, Lean 3) is in force. -/
def Dev.service (d : Dev) : Bool := d.mode == 1 || d.mode == 2 || d.mode == 3

/-- The power state: 0 Full, 1 Lull, 2 Standby. -/
def Dev.power (d : Dev) : Nat := d.get Obj.powerState

/-- The core rails are up: the power state is Full or Lull. -/
def Dev.coreOn (d : Dev) : Bool := d.powered && (d.power != 2)

/-- A transition between modes is in progress (R27). -/
def Dev.inTransition (d : Dev) : Bool := d.modes.trans.isSome

/-- The mode whose profile governs now: the target once a transition's settings have started (R469), else the mode in
force. -/
def Dev.profileMode (d : Dev) : Nat :=
  match d.modes.trans with
  | some t => if t.toDrydock || t.endingLull then d.mode else t.target
  | none => d.mode

/-- The settings of a profile as it stands. -/
def Dev.settingsOf (d : Dev) (m : Nat) : Settings :=
  { rateCap := d.get (Obj.laneRateCap m), power := d.get (Obj.powerLimit m), slices := d.get (Obj.activeSlices m)
    prefetch := d.get (Obj.prefetch m), share := d.get (Obj.craneShare m), depth := d.get (Obj.voqDepth m)
    policy := d.get (Obj.arbPolicy m), near := d.get (Obj.nearSharer m) }

/-- The settings that govern now: those that a transition took from its target's profile, else the profile of the mode in force. -/
def Dev.settings (d : Dev) : Settings :=
  match d.modes.trans with
  | some t => if t.toDrydock || t.endingLull then d.settingsOf d.mode else t.taken
  | none => d.settingsOf d.mode

/-- A profile governs: a service mode is in force, or on its way from Slipway. -/
def Dev.profiled (d : Dev) : Bool := decide (1 ≤ d.profileMode ∧ d.profileMode ≤ 3)

/-! Sequence numbers and commits (R302 to R305). -/

/-- The next commit sequence number to be issued. -/
def Dev.nextSeq (d : Dev) : Nat := d.get Obj.commitSeq

/-- Issue a number: COMMIT_SEQ rises by one, and the journal reserves the next block of 65,536 when one is used up
(R304). -/
def Dev.takeSeq (d : Dev) : Dev :=
  { (d.put Obj.commitSeq (d.nextSeq + 1)) with
    mgmt := { d.mgmt with seqBlock := if d.nextSeq + 1 = d.mgmt.seqBlock then d.mgmt.seqBlock + 65536
                                      else d.mgmt.seqBlock } }

/-- LAST_SEQ of an object (R305). -/
def Dev.lastSeqOf (d : Dev) (o : Nat) : Nat := Tab.get 0 d.lastSeq o

/-- Record the number of the commit that wrote an object. -/
def Dev.mark (o n : Nat) (d : Dev) : Dev := { d with lastSeq := Tab.set 0 d.lastSeq o n }

/-- A device commit (R303, R305): the objects take their values, and LAST_SEQ of each whose value the commit changes
becomes the commit's number. -/
def Dev.commit (l : List (Nat × Nat)) (d : Dev) : Dev :=
  let n := d.nextSeq
  (l.foldl (fun e p => if e.get p.1 = p.2 then e else (e.put p.1 p.2).mark p.1 n) d).takeSeq

/-- A device commit whose change is an operation: LAST_SEQ of each of the objects whose value it changes becomes its
number. -/
def Dev.devCommit (objs : List Nat) (f : Dev → Dev) (d : Dev) : Dev :=
  objs.foldl (fun e o => if e.get o = d.get o then e else e.mark o d.nextSeq) (f d.takeSeq)

/-- An effect of an accepted write that changes further objects: LAST_SEQ of each of those becomes the write's number
(R305). -/
def Dev.marking (objs : List Nat) (n : Nat) (f : Dev → Dev) (d : Dev) : Dev :=
  objs.foldl (fun e o => if e.get o = d.get o then e else e.mark o n) (f d)

/-! Programmable counters (R431, R432). -/

/-- What the filters of a counter see of an event: its master, that master's privilege at its check, the first byte of the
access, and the traffic class. -/
structure Who where
  master : Nat := 0
  priv : Bool := false
  addr : Nat := 0
  cls : Nat := 0
  deriving DecidableEq, Repr

/-- The counters of a block (Table 16.1). -/
def ctrCount (block : Nat) : Nat := if block < 0xC300 then 8 else 4

/-- Every filter that a configuration switches on matches (Tables 16.2 and 16.3). -/
def Who.passes (w : Who) (config filter : Nat) : Bool :=
  (!bitAt config 27 || bitAt (bits config 16 8) w.cls) &&
  (!bitAt config 26 || decide (bytesAt filter 8 8 ≤ w.addr ∧ w.addr ≤ bytesAt filter 16 8)) &&
  (!bitAt config 25 || Nat.land (Nat.xor w.master (bytesAt filter 0 2)) (bytesAt filter 2 2) == 0) &&
  (!bitAt config 24 || byteAt filter 4 == b2n w.priv)

/-- A counter gains an increment; a wrap sets its bit in CTR_OVERFLOW (R432). -/
def Dev.bumpCounter (block k inc : Nat) (d : Dev) : Dev :=
  let v := Tab.get 0 d.man (256 * block + 0x20 + k) + inc
  let past := Tab.get 0 d.man (256 * block + 2)
  (if 2 ^ 48 ≤ v then d.put (256 * block + 2) (setBit past k true) else d).put (256 * block + 0x20 + k) (v % 2 ^ 48)

/-- A counter counts an event code for what its filters see (R431). Every counter object is 0 by default. -/
def Dev.counts (d : Dev) (block k code : Nat) (w : Who) : Bool :=
  let config := Tab.get 0 d.man (256 * block + 0x10 + k)
  bitAt config 31 && bits config 0 8 == code && w.passes config (Tab.get 0 d.man (256 * block + 0x30 + k))

/-- An event of Table 16.4 at a unit, while COUNT_ENABLE is 1. -/
def Dev.event (block code inc : Nat) (w : Who) (d : Dev) : Dev :=
  if Tab.get 1 d.man Obj.countEnable = 1 then
    (List.range (ctrCount block)).foldl (fun d k => if d.counts block k code w then d.bumpCounter block k inc else d) d
  else d

/-! Source IDs (R383). -/

/-- The source ID of an instance of a group. -/
def sourceId (group inst : Nat) : Nat := 1024 * group + inst

/-! Sessions (R296). -/

/-- The open session of a slot. -/
def Dev.session (d : Dev) (slot : Nat) : Option Session := d.mgmt.sessions.find? (fun s => s.slot == slot)

/-- Change the session of a slot. -/
def Dev.setSession (slot : Nat) (f : Session → Session) (d : Dev) : Dev :=
  { d with mgmt := { d.mgmt with sessions := d.mgmt.sessions.map (fun s => if s.slot = slot then f s else s) } }

/-! Harbour functions (R248 to R250). -/

/-- The number of a function that no instance is bound to, beside those of the instances, which name their bound functions. -/
def funcOf (quay function : Nat) : Nat := 4096 + 257 * quay + function

/-- The resources of an instance with the registers of its function, or the registers of a function that no instance is bound to. -/
def Dev.inst (d : Dev) (i : Nat) : Inst :=
  if i < 4096 then Tab.get {} d.crane.insts i
  else { Tab.get {} d.crane.insts i with quay := (i - 4096) / 257, function := (i - 4096) % 257 }

/-- Change the resources of an instance. -/
def Dev.setInst (i : Nat) (f : Inst → Inst) (d : Dev) : Dev :=
  { d with crane := { d.crane with insts := Tab.set {} d.crane.insts i (f (d.inst i)) } }

/-- An entry of the MSI-X table of a function; one that the host has not written is masked (PRESUMED: the PCIe reset value, log
entry 107). -/
def Inst.msixEntry (x : Inst) (v : Nat) : Nat := Tab.get (2 ^ 96) x.msixTable v

/-- An MSI-X vector of a function is raised; a masked one becomes pending (PRESUMED: the PCIe vector control, log entry 107). -/
def Dev.msix (i v : Nat) (d : Dev) : Dev :=
  if bitAt ((d.inst i).msixEntry v) 96 then d.setInst i fun x => { x with pba := setBit x.pba v true }
  else d.send (.msix i v)

/-- The instance bound to a function, if any. -/
def Dev.boundTo (d : Dev) (quay function : Nat) : Option Nat :=
  d.crane.insts.findSome? (fun p => if p.2.bound && p.2.quay == quay && p.2.function == function then some p.1 else none)

/-- The PF of a Host quay: the instance bound to it, or the unbound function (R250). -/
def Dev.pfOf (d : Dev) (q : Nat) : Option Nat :=
  if d.get (Obj.role q) = 1 then some ((d.boundTo q 0).getD (funcOf q 0)) else none

/-- An event record as 64 bytes (Table 14.8). -/
def Event.record (e : Event) : Nat :=
  e.seq + e.time * 2 ^ 64 + e.source * 2 ^ 128 + e.cls * 2 ^ 144 + e.flags * 2 ^ 152 + e.typ * 2 ^ 160 + e.token * 2 ^ 176 +
    e.target * 2 ^ 192 + e.payload % 2 ^ 256 * 2 ^ 256

/-- An event record for an instance's event ring waits to be written at the next nanosecond (R250). A ring of no entries is off
(Table 8.12). -/
def Dev.ringWrite (i : Nat) (e : Event) (d : Dev) : Dev :=
  if (d.inst i).evtEntries = 0 then d
  else { d with crane := { d.crane with ringWork := d.crane.ringWork ++ [(i, e)] } }

/-- Write one event record to several rings. -/
def Dev.ringWrites (is : List Nat) (e : Event) (d : Dev) : Dev := is.foldl (fun d i => d.ringWrite i e) d

/-! Events (R309, R310, R405). -/

/-- A session's list of unacknowledged events with one more; the oldest of more than 256 is dropped (R310). -/
def pushEvent (l : List Event) (e : Event) : List Event := if 256 ≤ l.length then l.drop 1 ++ [e] else l ++ [e]

/-- The event log keeps the last 1,024 events (R310). -/
def pushLog (l : List Event) (e : Event) : List Event := if 1024 ≤ l.length then l.drop 1 ++ [e] else l ++ [e]

/-- A session's EVENT_MASK selects a class (R309). -/
def Session.wants (s : Session) (cls : Nat) : Bool := bitAt s.mask cls

/-- The record a new event gets: the next device-wide number and the time. -/
def Dev.stamp (e : Event) (d : Dev) : Event := { e with seq := d.get Obj.eventSeq + 1, time := d.time }

/-- Raise an event to the managers: it takes the next event number, is logged, and is sent to every session whose
mask selects its class; the message says LOST when an older event was dropped for it. -/
def Dev.raise (e : Event) (d : Dev) : Dev :=
  let e := d.stamp e
  let d := d.put Obj.eventSeq e.seq
  { d with
    mgmt := { d.mgmt with
      eventLog := pushLog d.mgmt.eventLog e
      sessions := d.mgmt.sessions.map fun s => if s.wants e.cls then { s with unacked := pushEvent s.unacked e } else s }
    sent := d.sent ++ (d.mgmt.sessions.filter (·.wants e.cls)).map
      fun s => .event s.slot (decide (256 ≤ s.unacked.length)) e }

/-- Raise an event to the managers and to event rings. -/
def Dev.raiseTo (is : List Nat) (e : Event) (d : Dev) : Dev := (d.raise e).ringWrites is (d.stamp e)

/-- An Information event (Table 14.9). -/
def info (source typ token target payload : Nat) : Event :=
  { seq := 0, time := 0, source := source, cls := 3, flags := if token = 0 then 0 else 4, typ := typ, token := token,
    target := target, payload := payload }

/-- A STATE_CHANGE event for an object: index, sub-index, COMMIT_SEQ, and the first 16 B of the new value. -/
def Dev.stateChange (source o : Nat) (d : Dev) : Dev :=
  d.raise (info source 0x8002 0 0xFFFF
    (o / 256 + o % 256 * 2 ^ 16 + d.nextSeq * 2 ^ 64 + bytesAt (d.get o) 0 16 * 2 ^ 128))

/-- A STATE_CHANGE event to the managers and to event rings. -/
def Dev.stateChangeTo (is : List Nat) (source o : Nat) (d : Dev) : Dev :=
  d.raiseTo is (info source 0x8002 0 0xFFFF
    (o / 256 + o % 256 * 2 ^ 16 + d.nextSeq * 2 ^ 64 + bytesAt (d.get o) 0 16 * 2 ^ 128))

/-! Held operations (R40 to R44). -/

/-- The function is host-assisted now: its MODE is 1 and a service mode is in force (R44). -/
def Dev.assisted (d : Dev) (f : Nat) : Bool := d.service && d.get (Obj.functionMode f) == 1

/-- Operations of a function that are pending. -/
def Dev.pendingOf (d : Dev) (f : Nat) : List Decision := d.modes.decisions.filter (·.fn == f)

/-- One more operation of the function can be held (R42). -/
def Dev.canHold (d : Dev) (f : Nat) : Bool := decide ((d.pendingOf f).length < 64)

/-- The token after a token; 0 is never one. -/
def tokenAfter (t : Nat) : Nat := if t = 0xFFFF then 1 else t + 1

/-- The limit in force for a new operation, in µs (Table 2.6); for function 4, the window given. -/
def Dev.limitOf (d : Dev) (f : Nat) : Nat := d.get (Obj.decisionLimit f)

/-- Hold an operation: it takes the next token and the limit in force. -/
def Dev.holdOp (f subject proposal limit : Nat) (d : Dev) : Dev :=
  { d with modes := { d.modes with
      nextToken := tokenAfter d.modes.nextToken
      decisions := d.modes.decisions ++ [{ token := d.modes.nextToken, fn := f, subject := subject,
                                           proposal := proposal, limit := limit, arose := d.time }] } }

/-- TARGET of a decision event (R405): the slot whose berth asks for capacity, or the instance of an entry. -/
def decisionTarget (f subject : Nat) : Nat :=
  if f = 1 then subject / 16 else if f = 7 then 0x1000 + subject % 2 ^ 16 else 0xFFFF

/-- The payload of a DECISION event (Table 14.9). -/
def decisionPayload (f proposal subject : Nat) : Nat := f + proposal % 2 ^ 64 * 2 ^ 64 + subject % 2 ^ 128 * 2 ^ 128

/-- Hold an operation and raise its decision event (not function 4, whose event is the collector's). -/
def Dev.hold (is : List Nat) (source f subject proposal : Nat) (d : Dev) : Dev :=
  (d.holdOp f subject proposal (d.limitOf f)).raiseTo is
    (info source 0x8001 d.modes.nextToken (decisionTarget f subject) (decisionPayload f proposal subject))

/-- Count operations that received their expiry default (R44). -/
def Dev.expired (f n : Nat) (d : Dev) : Dev := d.count (Obj.expiredCount f) n

/-- The DECISION_OVERFLOW event of R42. -/
def Dev.overflow (source f subject : Nat) (d : Dev) : Dev :=
  (d.raise (info source 0x8009 0 (decisionTarget f subject) (f + subject % 2 ^ 128 * 2 ^ 128))).expired f 1

/-- Close a pending operation. -/
def Dev.closeOp (token : Nat) (d : Dev) : Dev :=
  { d with modes := { d.modes with decisions := d.modes.decisions.filter (·.token != token) } }

/-- A deferred answer is ready (R306). -/
def Dev.answerReady (slot seq status value : Nat) (d : Dev) : Dev :=
  d.setMgmt fun m => { m with ready := m.ready ++ [(slot, seq, status, value)] }

/-- Full has been reached: a request for it that waits has its answer (R306). -/
def Dev.answerFull (d : Dev) : Dev :=
  match d.modes.powerReq with
  | some r => if d.power = 0 then (d.answerReady r.1 r.2 0 0).setModes fun m => { m with powerReq := none } else d
  | none => d

/-- A free value: one the spec states no number for. -/
def Dev.draw (d : Dev) : Nat := Config.freeValue d.draws

/-- The draw counter moves on. -/
def Dev.drawn (d : Dev) : Dev := { d with draws := d.draws + 1 }

/-- The meaning of a command as a change of the device. -/
def lift (f : Dev → Dev) (s : State) : Host.Outcome State Fault Refusal := .next { s with dev := f s.dev }

/-- Metered work waits: what the work at hand would draw in the next window exceeds the ceiling (R321). -/
def Dev.metered (d : Dev) : Bool := decide (d.get Obj.currentCeiling < d.tide.demand)

/-- The quay of a slot, as its last ramp start took SLOT_QUAY (R339); 0xFF none. -/
def Dev.slotQuayNow (d : Dev) (s : Nat) : Nat := (Tab.get {} d.tide.slots s).quay

/-- A change that takes place only while the device is not Off. -/
def Dev.live (f : Dev → Dev) (d : Dev) : Dev := if d.powered then f d else d

/-- The meaning of an event: the device's change while it is not Off. -/
def liveLift (f : Dev → Dev) (s : State) : Host.Outcome State Fault Refusal := lift (Dev.live f) s

end Sys2Proof.Machine
end

