-- ==== Sys2Proof/Machine/Manifest.lean ====
section
/-!
DEFINITION. The judgement of a write at the serialiser (R287 to R308, Table 10.12) and its commit.
-/

namespace Sys2Proof.Machine

open Sys2Proof

/-! Table 10.12 status codes. -/

abbrev Status.success : Nat := 0
abbrev Status.noSuchObject : Nat := 1
abbrev Status.accessMode : Nat := 2
abbrev Status.role : Nat := 3
abbrev Status.notMaster : Nat := 4
abbrev Status.fencedUnit : Nat := 5
abbrev Status.badLength : Nat := 6
abbrev Status.conditionRequired : Nat := 7
abbrev Status.seqMismatch : Nat := 8
abbrev Status.badValue : Nat := 9
abbrev Status.wrongMode : Nat := 10
abbrev Status.busy : Nat := 11
abbrev Status.resourceLimit : Nat := 12
abbrev Status.staleDecision : Nat := 13
abbrev Status.unsupported : Nat := 14
abbrev Status.notExecuted : Nat := 15
abbrev Status.deviceError : Nat := 16

/-- The answer of a command: none, at once (value, bytes), or deferred (R306). -/
inductive Reply where
  | none
  | now (value len : Nat)
  | deferred
  deriving DecidableEq, Repr

/-- What a write to an object does beyond the general judgement: the status its owning chapter gives (0, or a code from
BAD_VALUE to UNSUPPORTED), the effect of its commit (with the operation's sequence number), and its answer, both taken
on the state that the judgement saw. -/
structure Act where
  check : Call → Nat → Dev → Nat := fun _ _ _ => 0
  effect : Call → Nat → Nat → Dev → Dev := fun _ _ _ d => d
  reply : Call → Nat → Nat → Dev → Reply := fun _ _ _ _ => .none

/-- Lane tile t is absent on the part (R1). -/
def tileAbsent (p : Part) (t : Nat) : Bool := p == .w384 && decide (6 ≤ t)

/-- Wharf w is absent on the part (R1). -/
def wharfAbsent (p : Part) (w : Nat) : Bool := p == .w384 && decide (24 ≤ w)

/-- Quay q is absent on the part (R1). -/
def quayAbsent (p : Part) (q : Nat) : Bool := p == .w384 && decide (96 ≤ q)

/-- Slice s reads FENCED: absent on the part, or fenced (R2, R396). -/
def Dev.sliceFenced (d : Dev) (s : Nat) : Bool := d.get (Obj.sliceState s) == 4

/-- Engine e reads FENCED (R2, R258). -/
def Dev.engineFenced (d : Dev) (e : Nat) : Bool := d.get (Obj.engineState e) == 3

/-- The object belongs to a fenced or absent unit (R2, R133, R174, R260, R446). -/
def Dev.objFenced (d : Dev) (o : Nat) : Bool :=
  let i := o / 256
  let lo := i % 256
  match i / 256 with
  | 0x20 => if lo = 1 ∨ lo = 2 then tileAbsent d.part (o % 256 - 1) else decide (0x10 ≤ lo) && wharfAbsent d.part (lo - 0x10)
  | 0x21 | 0x32 | 0x33 | 0x35 | 0x41 | 0x91 | 0xC1 => quayAbsent d.part lo
  | 0x31 => if lo < 128 then quayAbsent d.part lo else decide (lo < 192) && d.sliceFenced ((lo - 128) / 4)
  | 0x40 => decide (0x10 ≤ lo) && d.sliceFenced (lo - 0x10)
  | 0xC2 => d.sliceFenced lo
  | 0x60 => decide (0x10 ≤ lo ∧ lo < 0x20) && d.engineFenced (lo - 0x10)
  | 0xC3 => d.engineFenced lo
  | 0xC5 => if lo < 16 then d.sliceFenced lo else if lo < 32 then d.engineFenced (lo - 16)
            else bitAt (d.get Obj.fencedCores) (lo - 32)
  | _ => false

/-- The group of an object (R307); 0 for an object of no group. -/
def groupOf (r : Row) (o : Nat) : Nat :=
  if o / 256 = 0x1050 ∨ o / 256 = 0x1051 ∨ o = Obj.eventMask ∨ o = Obj.mySession ∨ r.acc = .rw1c ∨ 0xF00000 ≤ o then 0
  else o / 256 / 4096

/-- The conditional objects (Table 10.13). -/
def conditional (o : Nat) : Bool :=
  let i := o / 256
  let sub := o % 256
  o == Obj.fabricId || (decide (0x2010 ≤ i ∧ i ≤ 0x202F) && sub == 1) || (i / 256 == 0x21 && sub == 2) ||
  i == 0x3400 || (i / 256 == 0x42 && (sub == 3 || sub == 4 || sub == 5)) || (i / 256 == 0x51 && sub == 2)

/-- The session-scoped objects (R293). -/
def sessionScoped (o : Nat) : Bool := o == Obj.eventMask || o == Obj.mySession

/-- The role of a session now: the lower of its credential's and its transport's cap (R297, R316). -/
def Dev.sessionRole (d : Dev) (s : Session) : Nat :=
  min s.credRole (d.get (Obj.transportRoleCap (s.binding.transport + 1)))

/-- The role of a caller; none for a session that is not open. -/
def Dev.callerRole (d : Dev) : Caller → Option Nat
  | .session slot => (d.session slot).map d.sessionRole
  | .fmApi => some (d.get Obj.fmapiRole)
  | .device => some 4

/-- The credential number of a caller (R297, R314). -/
def Dev.callerCred (d : Dev) : Caller → Nat
  | .session slot => ((d.session slot).map (·.cred)).getD 0xFF
  | .fmApi => 0xFE
  | .device => 0xFF

/-- The object exists for ZMP now (R6, R7). -/
def Dev.exists' (d : Dev) (o : Nat) : Bool := (findRow o).isSome && (decide (o < 0xF00000) || d.mode == 4)

/-- A group has a master of record that is not the caller's credential (R307). -/
def Dev.mastered (d : Dev) (c : Caller) (g : Nat) : Bool :=
  g != 0 && d.get (Obj.groupMaster g) != 0xFF && d.get (Obj.groupMaster g) != d.callerCred c && c != .device

/-- The session slot of a caller; 0 for the FM API. -/
def callerSlot : Caller → Nat
  | .session slot => slot
  | _ => 0

/-- The length a write carries is the one of its type (R287, R468). -/
def lengthOk (r : Row) (len : Nat) : Bool := if r.ty = .string then decide (len ≤ r.size) else len == r.size

/-- The first status up to BAD_VALUE that applies to a write by the general rules. -/
def Dev.generalStatus (d : Dev) (c : Call) (o v : Nat) : Nat :=
  match findRow o with
  | none => Status.noSuchObject
  | some (r, i, j) =>
    if !d.exists' o then Status.noSuchObject
    else if r.acc = .r then Status.accessMode
    else if (d.callerRole c.caller).getD 0 < r.role then Status.role
    else if d.mastered c.caller (groupOf r o) then Status.notMaster
    else if d.objFenced o then Status.fencedUnit
    else if !lengthOk r c.len then Status.badLength
    else if conditional o && c.expect.isNone then Status.conditionRequired
    else if c.expect.isSome && c.expect != some (d.lastSeqOf o) then Status.seqMismatch
    else if !(r.rng d.part i j).ok v then Status.badValue
    else Status.success

/-- The lower of two statuses that is not SUCCESS. -/
def firstStatus (a b : Nat) : Nat := if a = 0 then b else if b = 0 then a else min a b

/-- The command objects whose commit journals a value (R269, R291, R305, R307, R360, R363, R395). -/
def journalCmds : List Nat :=
  [Obj.store, Obj.restoreDefaults, Obj.groupClaim, Obj.groupRelease, Obj.regionSet, Obj.regionClearMaster, Obj.privilegeSet,
   Obj.fenceUnit, Obj.fenceClear, Obj.lifecycleConfirm, Obj.debugAuthorise]

/-- The journal cannot store a persistent value (Table 10.12, code 16): of the object itself, or of what its command changes. -/
def journalStatus (c : Call) (o : Nat) : Nat :=
  if c.env.journalFails && (journalCmds.contains o || ((findRow o).map fun r => r.1.pers == .per).getD false) then
    Status.deviceError
  else Status.success

/-- The first status of Table 10.12 that applies to a write, in increasing code (R300). -/
def Dev.judge (d : Dev) (a : Act) (c : Call) (o v : Nat) : Nat :=
  let g := d.generalStatus c o v
  if g = Status.noSuchObject ∨ g = Status.accessMode then g
  else firstStatus g (firstStatus (a.check c v d) (journalStatus c o))

/-- What an accepted write stores, by the object's access code (Table 10.2) and its reserved fields (R5). -/
def Dev.storedOf (d : Dev) (o v : Nat) : Nat :=
  match findRow o with
  | none => v
  | some (r, i, j) =>
    if r.acc = .rw1c then
      if r.ty = .bits32 ∨ r.ty = .octets then d.get o - Nat.land (d.get o) v else if v = 0 then d.get o else 0
    else (r.rng d.part i j).stored v

/-- The plain effect of a write: the object takes the value. -/
def storeAct (o : Nat) : Act := { effect := fun _ v _ d => d.put o (d.storedOf o v) }

/-- The answer sent for an operation. -/
def answerOf (status o seq : Nat) (lastSeq : Nat) (r : Reply) : OpAnswer :=
  { status := status, index := o / 256, sub := o % 256, deferred := r == .deferred, seq := seq
    value := match r with
      | .now v _ => v
      | _ => if status = Status.seqMismatch then lastSeq else 0
    len := match r with
      | .now _ n => n
      | _ => if status = Status.seqMismatch then 8 else 0 }

/-- The commit of an accepted write but for its effect: it has its number, LAST_SEQ of the object is set (R305), the
session's last accepted write is noted (Table 10.18), and a deferred answer is due (R306). -/
def Dev.commitWrite (c : Call) (o : Nat) (r : Reply) (d : Dev) : Dev :=
  let n := d.nextSeq
  (d.takeSeq.mark o n).setMgmt fun m => { m with
    sessions := m.sessions.map fun s => if s.slot = callerSlot c.caller then { s with lastSeq := n } else s
    due := if r = .deferred then m.due ++ [(callerSlot c.caller, n)] else m.due }

/-- An accepted write: its commit and its effect. -/
def Dev.accept (a : Act) (c : Call) (o v : Nat) (d : Dev) : Dev :=
  a.effect c v d.nextSeq (d.commitWrite c o (a.reply c v d.nextSeq d))

/-- One WRITE or WRITE_CAS at the serialiser (R302): judged, given a number whether accepted or refused, committed if
accepted, and its answer. The value is what LENGTH bytes hold. -/
def Dev.manifestOp (a : Act) (c : Call) (o w : Nat) (d : Dev) : Dev × OpAnswer :=
  let v := w % 2 ^ (8 * c.len)
  let st := d.judge a c o v
  if st = Status.success then
    (d.accept a c o v, answerOf st o d.nextSeq (d.lastSeqOf o) (a.reply c v d.nextSeq d))
  else (d.takeSeq, answerOf st o d.nextSeq (d.lastSeqOf o) .none)

/-- The caller can send: its session is open, or the FM API is enabled (R314). The device itself sends nothing. -/
def Dev.callerOpen (d : Dev) : Caller → Bool
  | .session slot => (d.session slot).isSome
  | .fmApi => d.get Obj.fmapiEnable == 1
  | .device => false

/-- A write as a message of its own: carried out and answered. From a session that is not open nothing happens
(Table 10.7, FRAME_ERROR 3 is a frame's affair). -/
def Dev.manifestWrite (a : Act) (c : Call) (o v : Nat) (d : Dev) : Dev :=
  if d.callerOpen c.caller then
    (d.manifestOp a c o v).1.send (.answer c.caller (d.manifestOp a c o v).2)
  else d

/-- The meaning of a row that is a write to one object. -/
def writeRow (a : Act) (c : Call) (o v : Nat) (s : State) : Host.Outcome State Fault Refusal :=
  liveLift (Dev.manifestWrite a c o v) s

end Sys2Proof.Machine
end

