-- ==== Sys2Proof/Machine/Watch.lean ====
section
/-!
DEFINITION. What Watch observes inside other effects: programmable counters' filters, bandwidth, initiator statistics and
trace (R430 to R439).
-/

namespace Sys2Proof.Machine

open Sys2Proof

/-! Who an event is charged to (R431). -/

/-- What the filters see of a pooled access. -/
def accWho (a : Access) : Who := { master := a.master, priv := a.priv, addr := a.hpa, cls := a.level }

/-- An event of a slice for an access. The slice's own monitors count entries and hits for telemetry (R437). -/
def Dev.sliceEvent (s code : Nat) (a : Access) (d : Dev) : Dev :=
  let d := d.event (0xC200 + s) code 1 (accWho a)
  if code = 0x20 ∨ code = 0x21 then
    d.setObs fun o => { o with period := Tab.set 0 o.period (2 * s + (code - 0x20)) (Tab.get 0 o.period (2 * s + (code - 0x20)) + 1) }
  else d

/-! Bandwidth (R434). -/

/-- Payload received at a quay. -/
def Dev.payloadIn (q n : Nat) (w : Who) (d : Dev) : Dev :=
  if n = 0 then d
  else (d.setObs fun o => { o with rx := Tab.set 0 o.rx q (Tab.get 0 o.rx q + n) }).event (0xC100 + q) 0x06 n w

/-- Payload transmitted at a quay. -/
def Dev.payloadOut (q n cls : Nat) (d : Dev) : Dev :=
  if n = 0 then d
  else (d.setObs fun o => { o with tx := Tab.set 0 o.tx q (Tab.get 0 o.tx q + n) }).event (0xC100 + q) 0x07 n { cls := cls }

/-! Initiator statistics (R436). -/

/-- The bucket of a latency in LAT_HIST. -/
def latBucket (ns : Nat) : Nat := if ns < 64 then 0 else min 15 (Nat.log2 ns - 5)

/-- LAT_HIST with one more latency. -/
def histAdd (h ns : Nat) : Nat :=
  setBits h (32 * latBucket ns) 32 (satAdd 32 (bits h (32 * latBucket ns) 32) 1)

/-- A request of an initiator has completed: bytes and latency, at 4 ns resolution. -/
def Dev.initDone (i bytes since : Nat) (d : Dev) : Dev :=
  let ns := min ((d.time - since) / 4 * 4) 0xFFFFFFFC
  d.putAll [(Obj.initCompleted i, (d.get (Obj.initCompleted i) + 1) % 2 ^ 64),
            (Obj.initBytes i, (d.get (Obj.initBytes i) + bytes) % 2 ^ 64),
            (Obj.latSum i, (d.get (Obj.latSum i) + ns) % 2 ^ 64),
            (Obj.latMin i, min (d.get (Obj.latMin i)) ns), (Obj.latMax i, max (d.get (Obj.latMax i)) ns),
            (Obj.latHist i, histAdd (d.get (Obj.latHist i)) ns)]

/-- A request of an initiator has ended by its timer. -/
def Dev.initTimeout (i : Nat) (d : Dev) : Dev := d.count (Obj.initTimeouts i) 1

/-- The initiator whose statistics a request of the device's own counts in; none for a request that is forwarded. -/
def Dev.statOf (d : Dev) : Initiator → Option Nat
  | .mem id => (d.pool.accesses.find? (·.id == id)).bind fun a => if a.slice < 16 then some a.slice else none
  | .walk s _ => some s
  | .harbour op => some (32 + op % 8)

/-- The response of a request of the device's own has come: one line. -/
def Dev.noteDone (o : Orig) (d : Dev) : Dev :=
  match d.statOf o.ini with
  | some i => d.initDone i 64 o.issued
  | none => d

/-- The timer of a request of the device's own has run out (R90). -/
def Dev.noteTimeout (o : Orig) (d : Dev) : Dev :=
  match d.statOf o.ini with
  | some i => d.initTimeout i
  | none => d

/-! The test access port (R441). -/

/-- EXTEST, CLAMP, HIGHZ, EXTEST_PULSE, EXTEST_TRAIN (Table 16.7). -/
def tapTest (code : Nat) : Bool := [0x00, 0x03, 0x04, 0x05, 0x06].contains code

/-- The states in which those take effect: Slipway, Drydock, the recovery loader, Scrapped. -/
def Dev.testAllowed (d : Dev) : Bool := d.mode == 0 || d.mode == 4 || d.boot == .loader || d.get Obj.lifecycle == 3

/-- One of them is in effect. -/
def Dev.scanned (d : Dev) : Bool := tapTest d.obs.tap && d.testAllowed

/-- A datagram reaches ZMP on an Ethernet port: the port is enabled, and the datagram is for its address and ZMP_UDP_PORT, its
fragments no more than 8 KiB (Table 10.8, R316). The address that DHCP gives is the network's (log entry 117). -/
def Dev.hearsEth (d : Dev) (p : Nat) (v : Carriage) : Bool :=
  d.get (Obj.ethEnable p) == 1 && v.port == d.get Obj.zmpUdpPort && decide (v.fragments ≤ 8192) &&
    (d.get (Obj.ethDhcp p) == 1 || v.address == d.get (Obj.ethIpv4Address p))

/-- A requester's message arrives: no test instruction cuts the device off (R450), SMBus addresses the device, and PCIe VDM comes
from a Host quay (Table 3.4). -/
def Dev.hears (d : Dev) (b : Binding) : Bool :=
  !d.scanned && (match b.transport with
    | 1 => d.hearsEth 0 b.via
    | 2 => d.hearsEth 1 b.via
    | 4 => b.via.address == d.get Obj.smbusAddress
    | 5 => d.get (Obj.role b.port) == 1
    | _ => true)

/-- A ZMP frame arrives: on MCTP in a message of type 0x7E with VENDOR_ID and the byte 0x5A (Table 10.8). -/
def Dev.hearsFrame (d : Dev) (b : Binding) : Bool :=
  d.hears b && (decide (b.transport < 3) ||
    (b.via.mctpType == 0x7E && b.via.vendor == d.get Obj.vendorId && b.via.lead == 0x5A))

/-- PRBS runs on a quay (R444). -/
def Dev.prbsOn (d : Dev) (q : Nat) : Bool := Tab.get 0 d.man Obj.prbsPattern != 0 && Tab.get 0 d.man Obj.prbsQuay == q

/-! Trace (R438, R439). -/

/-- KIND of Table 16.6. -/
def traceKind (m : Msg) : Nat :=
  match m.chan with
  | .posted | .nonPosted => match m.sort with
    | .memRead => 1 | .memWrite => 2 | .atomic => 3 | .config | .mctp | .other => 6
  | .completion | .s2mNdr | .s2mDrs | .biRsp => 4
  | .m2sReq => match m.op with
    | .sharedRd | .ownRd | .uncachedRd => 1
    | _ => 6
  | .m2sRwD => 2
  | .biSnp => 5

/-- A trace record (Table 16.6). `flags` are [0] passed Customs and [1] refused; POISONED is added. -/
def traceRecord (time inp cls master flags : Nat) (m : Msg) : Nat :=
  let rsp := traceKind m == 4
  time + (if rsp then 0xFFFF else master) * 2 ^ 64 + inp * 2 ^ 80 + cls * 2 ^ 88 + traceKind m * 2 ^ 96 +
    (flags + 4 * b2n m.poison) * 2 ^ 104 + min 4096 (max m.len m.size) * 2 ^ 112 + (if rsp then 0 else m.addr % 2 ^ 64) * 2 ^ 128 +
    m.tag % 2 ^ 16 * 2 ^ 192

/-- TRACE_CONTROL's filters in the places of CTR_CONFIG. -/
def traceConfig (control : Nat) : Nat := bits control 27 4 * 2 ^ 24 + bits control 0 8 * 2 ^ 16

/-- Records that the buffer holds. -/
abbrev traceDepth : Nat := 65536

/-- A record goes into the buffer: with WRAP it may push the oldest out; without it the last free place makes it FULL. -/
def Dev.traceKeep (r : Nat) (d : Dev) : Dev :=
  let wrap := bitAt (d.get Obj.traceControl) 31
  let l := if traceDepth ≤ d.obs.trace.length then d.obs.trace.drop 1 ++ [r] else d.obs.trace ++ [r]
  (d.setObs fun o => { o with trace := l }).putIf (!wrap && decide (traceDepth ≤ l.length)) Obj.traceState 2

/-- A message enters a crossbar input: recorded when trace runs, the port is selected, and the filters pass; one within 2 ns
of the last on its port is dropped. -/
def Dev.traceMsg (inp cls master : Nat) (priv : Bool) (flags : Nat) (m : Msg) (d : Dev) : Dev :=
  let control := d.get Obj.traceControl
  let a := bits control 8 8 == inp
  let last := if a then d.obs.lastA else d.obs.lastB
  let w : Who := { master := master, priv := priv, addr := m.addr, cls := cls }
  if !(a || bits control 16 8 == inp) ∨ !w.passes (traceConfig control) (d.get Obj.traceFilter) then d
  else if (last.map fun t => decide (d.time < t + 2)).getD false then d.count Obj.traceDrops 1
  else (d.setObs fun o => if a then { o with lastA := some d.time } else { o with lastB := some d.time }).traceKeep
    (traceRecord d.time inp cls master flags m)

/-- A message of an item enters a crossbar input. -/
def Dev.traceItem (inp cls : Nat) (i : Item) (d : Dev) : Dev :=
  if Tab.get 0 d.man Obj.traceState = 1 then d.traceMsg inp cls i.master i.priv 1 i.msg else d

end Sys2Proof.Machine
end

