-- ==== Sys2Proof/Machine/Quays.lean ====
section
/-!
DEFINITION. Lanes, wharves and quays (R46 to R78, R472): bifurcation, training, lane failure, width and reference clocks.
-/

namespace Sys2Proof.Machine

open Sys2Proof

/-! The cut of a wharf (R49, R50, Table 3.2). -/

/-- The x4 positions of the quay that starts at position p under a bifurcation code; 0 when none does. -/
def cutPositions (code p : Nat) : Nat :=
  match code, p with
  | 0, 0 => 4
  | 1, 0 => 2
  | 1, 2 => 2
  | 2, _ => if p < 4 then 1 else 0
  | 3, 0 => 2
  | 3, 2 => 1
  | 3, 3 => 1
  | 4, 0 => 1
  | 4, 1 => 1
  | 4, 2 => 2
  | _, _ => 0

/-- The x4 positions that quay q occupies; 0 for a number that no quay takes. -/
def Dev.positions (d : Dev) (q : Nat) : Nat := cutPositions (d.get (Obj.bifurcation (q / 4))) (q % 4)

/-- The configured width, in lanes, of a quay of n positions under its NARROW setting. -/
def widthOf (n narrow : Nat) : Nat := if n = 1 then (match narrow with | 1 => 2 | 2 => 1 | _ => 4) else 4 * n

/-- The configured width of quay q. -/
def Dev.cfgWidth (d : Dev) (q : Nat) : Nat := widthOf (d.positions q) (d.get (Obj.narrow q))

/-- The quay that uses quay channel c (R19). -/
def Dev.quayOfPort (d : Dev) (c : Nat) : Nat :=
  ((List.range (c % 4 + 1)).reverse.map (fun p => c / 4 * 4 + p)).find? (fun q => decide (c < q + d.positions q))
    |>.getD (c / 4 * 4)

/-- The quay channels of a quay (R19). -/
def Dev.portsOf (d : Dev) (q : Nat) : List Nat := (List.range (d.positions q)).map (q + ·)

/-- The device lane of quay lane i (R50): from the first position, or under reversal from the highest device lane. -/
def Dev.deviceLane (d : Dev) (q i : Nat) (rev : Bool) : Nat :=
  if rev then 4 * q + d.cfgWidth q - 1 - i else 4 * q + i

/-! Reading and changing a quay. -/

def Dev.quay (d : Dev) (q : Nat) : Quay := Tab.get {} d.net.quays q

def Dev.setQuay (q : Nat) (f : Quay → Quay) (d : Dev) : Dev :=
  { d with net := { d.net with quays := Tab.set {} d.net.quays q (f (d.quay q)) } }

/-- QUAY_STATE: 0 ABSENT, 1 DOWN, 2 TRAINING, 3 UP, 4 HELD, 5 FENCED. -/
def Dev.qstate (d : Dev) (q : Nat) : Nat := d.get (Obj.quayState q)

def Dev.isUp (d : Dev) (q : Nat) : Bool := d.qstate q == 3

/-- ROLE: 0 Unused, 1 Host, 2 Downstream, 3 Fabric. -/
def Dev.role (d : Dev) (q : Nat) : Nat := d.get (Obj.role q)

/-- WHARF_STATE is ACTIVE: the wharf's PLL runs. -/
def Dev.wharfRuns (d : Dev) (w : Nat) : Bool := d.get (Obj.wharfState w) == 1

/-- The quays that the present cut of a wharf makes. -/
def Dev.quaysOfWharf (d : Dev) (w : Nat) : List Nat :=
  ((List.range 4).map (4 * w + ·)).filter (fun q => decide (d.positions q ≠ 0))

/-- Every quay of the device. -/
def Dev.allQuays (d : Dev) : List Nat :=
  ((List.range 128).filter (fun q => decide (d.positions q ≠ 0))).filter (fun q => !quayAbsent d.part q)

/-- Run a change for each of a list of units. -/
def Dev.forEach (l : List Nat) (f : Nat → Dev → Dev) (d : Dev) : Dev := l.foldl (fun d i => f i d) d

/-- Fabric time is disciplined by PTM on a quay. -/
def Dev.ptmOn (d : Dev) (q : Nat) : Bool := d.get Obj.timeSource == 4 && d.get Obj.timePtmQuay == q && d.role q == 1

/-- HOLDOVER (R312): the time base runs on its own, and Type 49 is raised once. -/
def Dev.holdover (d : Dev) : Dev :=
  if d.get Obj.timeSource ≠ 0 ∧ d.get Obj.timeState ≠ 3 then
    ((d.put Obj.timeState 3).setMgmt fun m => { m with goodOffsets := 0, slew := 0, slewRun := 0 }).err { typ := 49, inst := 0 }
  else d

/-- QUAY_STATE takes a value other than UP; the objects that show the link read as they do while a quay is not UP
(R77). -/
def Dev.leaveUp (q st : Nat) (d : Dev) : Dev :=
  let d := if d.isUp q ∧ d.ptmOn q then d.holdover else d
  d.putAll [(Obj.quayState q, st), (Obj.currentRate q, 7), (Obj.currentWidth q, 0), (Obj.protocol q, 0),
            (Obj.laneReversed q, 0)]

/-- A quay becomes UP: its objects take the values of the link (R77); after a declaration of DOWN every tag slot moves on
by one generation (R95). -/
def Dev.enterUp (q : Nat) (d : Dev) : Dev :=
  let k := d.quay q
  (d.putAll [(Obj.quayState q, 3), (Obj.currentRate q, k.rate), (Obj.currentWidth q, k.width),
             (Obj.protocol q, k.protocol), (Obj.laneReversed q, b2n k.rev)]).setQuay q
    fun k => { k with beenUp := true, stepGens := false, genBase := if k.stepGens then k.genBase + 1 else k.genBase }

/-- The conditions on which a DOWN quay trains (R89, R374, R472): a role, a running wharf, core rails up, the condition
of its declaration met, for a Host quay PERST deasserted, and neither PRBS (R444) nor a boundary scan (R441). -/
def Dev.canTrain (d : Dev) (q : Nat) : Bool :=
  d.coreOn && d.role q != 0 && decide (d.positions q ≠ 0) && d.wharfRuns (q / 4) && !d.prbsOn q && !d.scanned &&
  ((d.quay q).downBy == .none || (d.quay q).downBy == .recut || (d.quay q).downBy == .reset) &&
  (d.role q != 1 || !(d.quay q).perst)

/-- The effective rate cap of a quay (R47). -/
def Dev.rateCap (d : Dev) (q : Nat) : Nat :=
  if d.profiled then min (d.get (Obj.maxRate q)) d.settings.rateCap else d.get (Obj.maxRate q)

/-- TIDE_FORE_LANE_N, active low, warns the VLANE_A regulator of a step of lanes at the rate that they will reach, when it exceeds
FORE_LANE_THRESHOLD (R324): the lead of 1 µs, then the ramp at DIDT_LIMIT. What a lane draws, and the pace of the ramp, the spec does not
give (log entry 52). -/
def Dev.warnLanes (lanes rate : Nat) (d : Dev) : Dev :=
  let step := lanes * Config.laneCurrent rate
  let warns := decide (d.get Obj.foreLaneThreshold * 65536 < step)
  let until' := max (d.tide.laneRamp.getD 0) (d.time + 1000 + step * 1000 / (65536 * d.get Obj.didtLimit))
  { d with
    sent := d.sent ++ (if warns && d.tide.laneRamp.isNone then [.pin Pin.laneFore 0] else [])
    tide := { d.tide with laneRamp := if warns then some until' else d.tide.laneRamp } }

/-- A DOWN quay that can train enters Detect and reads TRAINING; its lane step is forewarned. -/
def Dev.tryTrain (q : Nat) (d : Dev) : Dev :=
  if d.qstate q = 1 ∧ d.canTrain q then ((d.warnLanes (d.get (Obj.configWidth q)) (d.rateCap q)).leaveUp q 2).setQuay q (fun k => { k with downBy := .none }) else d

/-- A test instruction that was in effect is no longer: the quays train again (R441). -/
def Dev.scanEnds (was : Bool) (d : Dev) : Dev :=
  if was && !d.scanned then d.forEach ((List.range 128).filter fun q => d.qstate q == 1) Dev.tryTrain else d

/-! Widths (R67). -/

/-- Lanes lo to lo + w − 1 are all working. -/
def lanesWork (failed lo w : Nat) : Bool := (List.range w).all (fun i => !bitAt failed (lo + i))

/-- The widest working width, with whether it needs lane reversal; none when no width works. -/
def widestWorking (cfg partnerMax failed : Nat) : Option (Nat × Bool) :=
  ([16, 8, 4, 2, 1].filter (fun w => decide (w ≤ cfg) && decide (w ≤ partnerMax))).findSome? fun w =>
    if lanesWork failed 0 w then some (w, false) else if lanesWork failed (cfg - w) w then some (w, true) else none

/-- A mask of n lanes counted from the other end. -/
def mirrorMask (n m : Nat) : Nat := ((List.range n).map fun i => if bitAt m (n - 1 - i) then 2 ^ i else 0).sum

/-- A table of n lanes counted from the other end. -/
def mirrorTab (n : Nat) (t : Tab Nat) : Tab Nat :=
  (List.range n).foldl (fun u i => Tab.set 0 u i (Tab.get 0 t (n - 1 - i))) []

/-- The failed lanes of a quay counted from its first position: FAILED_LANES names quay lanes, which count from the other end
while lane reversal is in effect (R50). -/
def Dev.failedFromFirst (d : Dev) (q : Nat) : Nat :=
  if (d.quay q).rev then mirrorMask (d.cfgWidth q) (d.get (Obj.failedLanes q)) else d.get (Obj.failedLanes q)

/-- A width that the quay's role allows: a Fabric quay trains at x4 or wider (R53), so for it no narrower width works (DESIGN
CHOICE, log entry 99: R67 then applies as where no lane works). -/
def roleWidth (role w : Nat) : Bool := role != 3 || decide (4 ≤ w)

/-- The widest working width of a quay. -/
def Dev.widest (d : Dev) (q : Nat) : Option (Nat × Bool) :=
  (widestWorking (d.cfgWidth q) (d.quay q).partnerMax (d.failedFromFirst q)).filter fun p => roleWidth (d.role q) p.1

/-- A width settled for the quay: the wanted width if the partner has it and its lanes work, otherwise the widest working
one. An ALTERNATIVE of function 5 below x4 on a Fabric quay, which R69 accepts and R53 forbids, settles so too (DESIGN CHOICE, log
entry 112). -/
def Dev.settled (d : Dev) (q want : Nat) : Option (Nat × Bool) :=
  let cfg := d.cfgWidth q
  let failed := d.failedFromFirst q
  let fits := decide (want ≤ cfg) && decide (want ≤ (d.quay q).partnerMax) && roleWidth (d.role q) want
  if fits && lanesWork failed 0 want then some (want, false)
  else if fits && lanesWork failed (cfg - want) want then some (want, true)
  else d.widest q

/-- Lane reversal comes into effect or ends: what is known by quay lane is counted from the other end (R50). -/
def Dev.turnLanes (q : Nat) (d : Dev) : Dev :=
  let n := d.cfgWidth q
  let d := d.putAll ((Obj.failedLanes q, mirrorMask n (d.get (Obj.failedLanes q))) ::
    (List.range n).map fun i => (Obj.laneFom q i, d.get (Obj.laneFom q (n - 1 - i))))
  d.setQuay q fun k => { k with
    rev := !k.rev, warned := mirrorMask n k.warned, warnRun := mirrorTab n k.warnRun, failRun := mirrorTab n k.failRun }

/-- The quay takes a width, with or without lane reversal. -/
def Dev.takeWidth (q w : Nat) (rev : Bool) (d : Dev) : Dev :=
  (if (d.quay q).rev = rev then d else d.turnLanes q).setQuay q fun k => { k with width := w }

/-- Type 3, when the width reached is below MIN_WIDTH (R71). -/
def Dev.checkMinWidth (q w : Nat) (d : Dev) : Dev :=
  d.errIf (decide (w < d.get (Obj.minWidth q))) { typ := 3, inst := q, unit := q }

/-- Entry to Recovery ends every outstanding L0p request on the quay; the request is abandoned (R76). -/
def WidthReq.abandon (r : WidthReq) : WidthReq := { r with sent := false }

/-- The quay leaves L0 on its way to a retrain or because the link is lost: it reads HELD (R85). -/
def Dev.holdLink (q : Nat) (d : Dev) : Dev :=
  (if d.isUp q then d.leaveUp q 4 else d).setQuay q
    fun k => { k with l0 := false, l1 := false, lockLost := 0, wreq := k.wreq.map WidthReq.abandon }

/-- The width a retrain sets out to reach. -/
def Retrain.want (g : Retrain) (cfg old : Nat) : Nat :=
  match g with
  | .width w => w
  | .all => cfg
  | .rate => old

/-- R61: the training burst has the larger of EI_EXIT_BURST, as the last training took it (R78), and the partner's count. -/
def Dev.burstOf (d : Dev) (q : Nat) : Nat := max (d.quay q).ownBurst (d.quay q).burst

/-- Lanes leave electrical idle on a link: the lane step is forewarned (R324), and an EIEOS and the burst are sent (R61). -/
def Dev.exitIdle (q lanes : Nat) (d : Dev) : Dev :=
  (d.warnLanes lanes (min (d.rateCap q) (d.quay q).topRate)).send (.link q (.exitBurst (d.burstOf q)))

/-- Lanes of a width, with or without reversal, are not among those in force: they are in electrical idle. -/
def Quay.wakes (k : Quay) (cfg w : Nat) (rev : Bool) : Bool := decide (k.width < w) || (rev != k.rev && decide (w < cfg))

/-- A retrain for a width trains lanes that are in electrical idle: the lanes that it settles on, or all when none works (R61). -/
def Dev.trainsIdle (d : Dev) (q want : Nat) : Bool :=
  match d.settled q want with
  | some (w, rev) => (d.quay q).wakes (d.cfgWidth q) w rev
  | none => decide ((d.quay q).width < d.cfgWidth q)

/-- A retrain through Recovery begins (R68, R72); a hold for a verdict ends. One that trains lanes of a link which are in
electrical idle sends the burst of R61. -/
def Dev.startRetrain (q : Nat) (g : Retrain) (d : Dev) : Dev :=
  let k := d.quay q
  let d := if k.l1 || d.trainsIdle q (g.want (d.cfgWidth q) k.width) then
    d.exitIdle q (if k.l1 then d.cfgWidth q else d.cfgWidth q - k.width) else d
  (d.holdLink q).setQuay q fun k => { k with retrain := some g, widthHold := false }

/-- After a width settles outside L0p, an abandoned WIDTH_REQUEST that is still needed is re-issued, and one that the
width now meets is done (R75, R76). -/
def Dev.reviewRequest (q w : Nat) (d : Dev) : Dev :=
  match (d.quay q).wreq with
  | none => d
  | some r =>
    if r.width = w then (d.setQuay q fun k => { k with wreq := none }).put (Obj.widthRequestStatus q) 3
    else if r.sent then d
    else (d.setQuay q fun k => { k with wreq := some { r with reissue := true } }).put (Obj.widthRequestStatus q) 2

/-! Function 5: link width management (R66 to R69). -/

/-- A lane's failure is handled with the quay's new FAILED_LANES: no working width sends the quay on training with every
lane (R67); hardware mode retrains at once; host-assisted mode holds the quay for a verdict, or retrains at once when
64 operations are pending (R42). -/
def Dev.degrade (q : Nat) (d : Dev) : Dev :=
  match d.widest q with
  | none => (d.put (Obj.failedLanes q) 0).startRetrain q .all
  | some (w, _) =>
    if (d.quay q).widthHold then d
    else if !d.assisted 5 then d.startRetrain q (.width w)
    else if d.canHold 5 then
      (d.hold [] (sourceId 2 q) 5 q w).setQuay q fun k => { k with widthHold := true }
    else (d.overflow (sourceId 2 q) 5 q).startRetrain q (.width w)

/-- The lanes of a list that are not failed yet. -/
def Dev.freshLanes (d : Dev) (q : Nat) (lanes : List Nat) : List Nat :=
  lanes.filter (fun i => decide (i < d.cfgWidth q) && !bitAt (d.get (Obj.failedLanes q)) i)

/-- Lanes of a quay are declared failed: their bits are set, and each raises Type 2 (R66). -/
def Dev.markLanes (q : Nat) (lanes : List Nat) (d : Dev) : Dev :=
  let fresh := d.freshLanes q lanes
  let d := d.put (Obj.failedLanes q) (fresh.foldl (fun m i => m + 2 ^ i) (d.get (Obj.failedLanes q)))
  fresh.foldl (fun d i => d.err { typ := 2, inst := d.deviceLane q i (d.quay q).rev, unit := q, detail := 2 ^ i }) d

/-- Lanes of a quay are declared failed (R66), and function 5 acts. -/
def Dev.lanesFail (q : Nat) (lanes : List Nat) (d : Dev) : Dev :=
  if d.freshLanes q lanes = [] then d else (d.markLanes q lanes).degrade q

/-- The lanes of a mask that failed to train in Recovery while others of the quay succeeded (R66). -/
def Dev.failedTraining (d : Dev) (q failed : Nat) : List Nat :=
  let l := maskBits failed (d.cfgWidth q)
  let tried := (List.range (d.cfgWidth q)).filter fun i => !bitAt (d.get (Obj.failedLanes q)) i
  if tried.all l.contains then [] else l

/-- The lanes after a retrain or a return to L0 through Recovery: those that failed are marked, with their events (R66). -/
def Dev.retrainLanes (q failed : Nat) (d : Dev) : Dev :=
  (d.markLanes q (d.failedTraining q failed)).put (Obj.failedLanes q)
    (Nat.lor (d.get (Obj.failedLanes q)) (failed % 2 ^ d.cfgWidth q))

/-- The retrain settles on a width: lanes that failed again are marked, and the quay is UP at the width reached, or goes
on training with every lane when none works (R67, R68, R72). -/
def Dev.finishRetrain (q want failed : Nat) (d : Dev) : Dev :=
  let d := d.retrainLanes q failed
  match d.settled q want with
  | none => (d.put (Obj.failedLanes q) 0).setQuay q fun k => { k with retrain := some .all }
  | some (w, rev) =>
    let old := (d.quay q).width
    let d := (d.takeWidth q w rev).setQuay q fun k => { k with l0 := true, retrain := none }
    let d := if w < old then d.count (Obj.degradeCount q) 1 else d
    ((d.enterUp q).checkMinWidth q w).reviewRequest q w

/-! Commands of the physical layer. -/

/-- R17: a wharf's clock stops. Its quays that are UP become HELD, and Type 9 reports the PLL. Its PLL then relocks. -/
def effWharfClockStop (w : Nat) (d : Dev) : Dev :=
  if d.wharfRuns w then
    let d := d.put (Obj.wharfState w) 2
    let d := d.forEach (d.quaysOfWharf w) Dev.holdLink
    (d.err { typ := 9, inst := w }).setNet fun n => { n with relock := Nat.lor n.relock (2 ^ w) }
  else d

def execWharfClockStop (w : Fin 32) (s : State) : Host.Outcome State Fault Refusal :=
  liveLift (effWharfClockStop w) s

/-- The four wharves of a lane tile (R8). -/
def wharvesOf (t : Nat) : List Nat := [4 * t, 4 * t + 1, 4 * t + 2, 4 * t + 3]

/-- The tile has a quay of a role other than Unused. -/
def Dev.wharfUsed (d : Dev) (w : Nat) : Bool := (d.quaysOfWharf w).any (fun q => d.role q != 0)

/-- SOFT_ERROR (Table 12.11), with Type 46 of the enclave, or of the IDE engines of a wharf (Table 14.1). -/
def Dev.softError (inst cause : Nat) (d : Dev) : Dev :=
  (d.putAll [(Obj.bwState, if d.get Obj.bwState = 3 then 3 else 2), (Obj.errorCause, cause)]).err { typ := 46, inst := inst }

/-- The known-answer test of a wharf's IDE engine at its start (Table 12.10): one that fails refuses keys. -/
def Dev.engineTest (w : Nat) (d : Dev) : Dev :=
  if bitAt d.bw.engineFaults w then
    ((d.setBw fun b => { b with badWharves := setBit b.badWharves w true }).count Obj.selfTestFailures 1).softError (0x100 + w) (0x300 + w)
  else d

/-- The wharves of a tile start: each with a used quay locks its PLL, and its quays train (Table 13.1 step 8, R374). -/
def Dev.startWharf (w : Nat) (d : Dev) : Dev :=
  if d.wharfUsed w then ((d.engineTest w).put (Obj.wharfState w) 1).forEach (d.quaysOfWharf w) Dev.tryTrain else d

/-- A tile's wharves start on a valid reference. -/
def Dev.startTile (t : Nat) (d : Dev) : Dev := (d.put (Obj.refclkStatus t) 1).forEach (wharvesOf t) Dev.startWharf

/-- R59, R472: at a wharf start the tile's reference is judged PRESENT or NOT_STARTED. -/
def effWharfStart (t : Nat) (valid : Bool) (d : Dev) : Dev :=
  if !d.coreOn || tileAbsent d.part t || bitAt d.net.started t then d
  else
    let d := d.setNet fun n => { n with
      started := Nat.lor n.started (2 ^ t), absentDue := if valid then n.absentDue else Nat.lor n.absentDue (2 ^ t) }
    if valid then d.startTile t else d

def execWharfStart (t : Fin 8) (refValid : Bool) (s : State) : Host.Outcome State Fault Refusal :=
  liveLift (effWharfStart t refValid) s

/-- R59: 10 µs after a start without a valid reference, Type 10 is raised if any quay of the tile is used. -/
def effRefclkAbsentCheck (t : Nat) (d : Dev) : Dev :=
  if bitAt d.net.absentDue t then
    (d.errIf (d.get (Obj.refclkStatus t) == 0 && (wharvesOf t).any d.wharfUsed) { typ := 10, inst := t }).setNet fun n =>
      { n with absentDue := setBit n.absentDue t false }
  else d

def execRefclkAbsentCheck (t : Fin 8) (s : State) : Host.Outcome State Fault Refusal :=
  liveLift (effRefclkAbsentCheck t) s

/-- The PLLs of a tile without a reference relock no more: they wait for its return. -/
def stopRelock (t relock : Nat) : Nat := (wharvesOf t).foldl (fun m w => setBit m w false) relock

/-- R59: a reference that has read PRESENT is lost. -/
def effRefclkLoss (t : Nat) (d : Dev) : Dev :=
  if d.get (Obj.refclkStatus t) = 1 then
    let d := ((d.put (Obj.refclkStatus t) 2).count (Obj.refclkLossCount t) 1).setNet fun n =>
      { n with relock := stopRelock t n.relock }
    let d := d.forEach (wharvesOf t) fun w d => (d.put (Obj.wharfState w) 2).forEach (d.quaysOfWharf w) Dev.holdLink
    d.err { typ := 10, inst := t }
  else d

def execRefclkLoss (t : Fin 8) (s : State) : Host.Outcome State Fault Refusal := liveLift (effRefclkLoss t) s

/-- R59: a lost reference returns, and the four PLLs relock; the time bases of the tile resume (R430). -/
def effRefclkReturn (t : Nat) (d : Dev) : Dev :=
  if d.get (Obj.refclkStatus t) = 2 ∧ bits d.net.relock (4 * t) 4 = 0 then
    (d.forEach (List.range 16) fun i d => d.count (Obj.tbLossCount (16 * t + i)) 1).setNet fun n =>
      { n with relock := Nat.lor n.relock (15 * 2 ^ (4 * t)) }
  else d

def execRefclkReturn (t : Fin 8) (s : State) : Host.Outcome State Fault Refusal := liveLift (effRefclkReturn t) s

/-- R59: a PLL locks again; REFCLK_STATUS returns to PRESENT when the first one locks, and the quays train again. -/
def effPllRelock (w : Nat) (d : Dev) : Dev :=
  if bitAt d.net.relock w then
    let d := d.setNet fun n => { n with relock := setBit n.relock w false }
    let d := (d.putIf (d.get (Obj.refclkStatus (w / 4)) == 2) (Obj.refclkStatus (w / 4)) 1).put (Obj.wharfState w) 1
    (d.count (Obj.pllRelockCount w) 1).forEach (d.quaysOfWharf w) Dev.tryTrain
  else d

def execPllRelock (w : Fin 32) (s : State) : Host.Outcome State Fault Refusal := liveLift (effPllRelock w) s

/-- R59: a valid reference first arrives at a tile that reads NOT_STARTED, and its wharves start. -/
def effRefclkFirstArrival (t : Nat) (d : Dev) : Dev :=
  if d.coreOn && bitAt d.net.started t && d.get (Obj.refclkStatus t) == 0 then d.startTile t else d

def execRefclkFirstArrival (t : Fin 8) (s : State) : Host.Outcome State Fault Refusal :=
  liveLift (effRefclkFirstArrival t) s

/-- R63: the figure of merit of a raw bit error ratio that a lane estimates, given in units of 10⁻²⁴, at a rate code: the largest f of 0
to 255 with 16 × log10(E_ref / E_est) ≥ f − 128. -/
def fomOf (rate est : Nat) : Nat :=
  let top := if 5 ≤ rate then 416 else 320
  ((List.range 255).filter fun i => decide (10 ^ (i + 1) * est ^ 16 ≤ 10 ^ top)).length

/-- The lowest figure of merit of a quay's lanes under a preset. -/
def presetFom (rate : Nat) (ests : List Nat) : Nat := (ests.map (fomOf rate)).foldl min 255

/-- R64: the preset that gives the highest lowest-lane FOM, the first of those evaluated when several do (DESIGN CHOICE, log entry
99). -/
def bestPreset (rate : Nat) (l : List (Nat × List Nat)) : Option Nat :=
  let top := listMax 0 (l.map fun p => presetFom rate p.2)
  (l.find? fun p => presetFom rate p.2 == top).map (·.1)

/-- R64, R65: one sample of one lane: its FOM is stored, and its runs below the two levels are counted. -/
def Dev.sampleLane (q i est : Nat) (d : Dev) : Dev :=
  let fom := fomOf (d.quay q).rate est
  let d := d.put (Obj.laneFom q i) fom
  let low := decide (fom < d.get (Obj.fomWarnLevel q))
  let bad := decide (fom < d.get (Obj.fomFailLevel q))
  let run := Tab.get 0 (d.quay q).warnRun i
  let warn := low && decide (9 ≤ run) && !bitAt (d.quay q).warned i
  (d.setQuay q fun k => { k with
    warnRun := Tab.set 0 k.warnRun i (if low then min (run + 1) 10 else 0)
    failRun := Tab.set 0 k.failRun i (if bad then min (Tab.get 0 k.failRun i + 1) 8 else 0)
    warned := if warn then setBit k.warned i true else if low then k.warned else setBit k.warned i false }).errIf warn
    { typ := 1, inst := d.deviceLane q i (d.quay q).rev, unit := q, detail := 2 ^ i }

/-- R64 to R66: every lane of a quay in L0 samples its FOM, from the error ratio it estimates; a lane below FOM_FAIL_LEVEL for 8
samples is declared failed. -/
def effLaneFomSample (q : Nat) (ests : List Nat) (d : Dev) : Dev :=
  if d.isUp q && !(d.quay q).l1 then
    let d := (ests.zipIdx.take (d.cfgWidth q)).foldl (fun d p => d.sampleLane q p.2 p.1) d
    d.lanesFail q ((List.range (d.cfgWidth q)).filter fun i => Tab.get 0 (d.quay q).failRun i == 8)
  else d

def execLaneFomSample (q : Fin 128) (ests : List Nat) (s : State) : Host.Outcome State Fault Refusal :=
  liveLift (effLaneFomSample q ests) s

/-- R66: one lane of the width in force, on a quay in L0, loses lock while others hold theirs. -/
def effLaneLockLoss (q i : Nat) (d : Dev) : Dev :=
  if d.isUp q && decide (i < (d.quay q).width) then
    let m := Nat.lor (d.quay q).lockLost (2 ^ i)
    if m = 2 ^ (d.quay q).width - 1 then d else d.setQuay q fun k => { k with lockLost := m }
  else d

def execLaneLockLoss (q : Fin 128) (lane : Fin 16) (s : State) : Host.Outcome State Fault Refusal :=
  liveLift (effLaneLockLoss q lane) s

/-- R66: the lane has regained lock in time. -/
def effLaneLockRegain (q i : Nat) (d : Dev) : Dev := d.setQuay q fun k => { k with lockLost := setBit k.lockLost i false }

def execLaneLockRegain (q : Fin 128) (lane : Fin 16) (s : State) : Host.Outcome State Fault Refusal :=
  liveLift (effLaneLockRegain q lane) s

/-- R66: a lane that lost lock has not regained it after 10 µs and is declared failed. -/
def effLaneLockLossTimeout (q i : Nat) (d : Dev) : Dev :=
  if d.isUp q && bitAt (d.quay q).lockLost i then
    (d.setQuay q fun k => { k with lockLost := setBit k.lockLost i false }).lanesFail q [i]
  else d

def execLaneLockLossTimeout (q : Fin 128) (lane : Fin 16) (s : State) : Host.Outcome State Fault Refusal :=
  liveLift (effLaneLockLossTimeout q lane) s

/-- The highest rate of Table 3.1 at which a protocol runs (R46, R54, R57): PCIe without flits and CXL with 68 B flits up to 32
GT/s; CXL at 128 GT/s only with a partner whose revision defines it. -/
def protocolTop (p : Nat) (cxl128 : Bool) : Nat :=
  match p with
  | 1 | 3 => 4
  | 4 | 5 => if cxl128 then 6 else 5
  | _ => 6

/-- The offer bit that a protocol needs (Table 3.8): PCIe in either mode needs none. -/
def protocolOffered (offer role p : Nat) : Bool :=
  if role = 3 then (p == 4 || (p == 5 && bitAt offer 3)) && bitAt offer 0
  else match p with
    | 1 | 2 => true
    | 3 => bitAt offer 0 && bitAt offer 1
    | 4 => bitAt offer 0 && bitAt offer 2
    | 5 => bitAt offer 0 && bitAt offer 2 && bitAt offer 3
    | _ => false

/-- The CXL protocols that a quay and its partner have in common. -/
def commonCxl (offer role : Nat) (r : TrainResult) : List Nat :=
  r.cxl.filter fun p => decide (3 ≤ p) && protocolOffered offer role p

/-- The highest rate that a protocol may reach on a link: what Table 3.1 and R57 allow it, and PCIe never 128 GT/s where both ends
have CXL in common. -/
def linkTop (offer role p : Nat) (r : TrainResult) : Nat :=
  let top := min r.rate (protocolTop p r.cxl128)
  if p ≤ 2 ∧ commonCxl offer role r ≠ [] then min top 5 else top

/-- The rate of a rate change: the one trained, within the effective cap and what the protocol allows (R47). -/
def Quay.newRate (top cap : Nat) (k : Quay) : Quay := { k with rate := min top cap, topRate := top }

/-- A preset is asked for in transmitter equalisation (R64). -/
def Dev.askPreset (q : Nat) (r : TrainResult) (d : Dev) : Dev :=
  match bestPreset (d.quay q).rate r.presets with
  | some x => d.send (.link q (.preset x))
  | none => d

/-- R68, R72: the retrain completes through Recovery. The rate is kept (R68), or for a rate change of R469 becomes the
one trained, within the effective cap, with its equalisation (R64). -/
def effWidthRetrain (q : Nat) (r : TrainResult) (d : Dev) : Dev :=
  match (d.quay q).retrain with
  | none => d
  | some g =>
    if d.qstate q = 4 ∧ d.wharfRuns (q / 4) then
      let top := linkTop (d.get (Obj.cxlOffer q)) (d.role q) (d.quay q).protocol r
      let d := if g = .rate then (d.setQuay q (Quay.newRate top (d.rateCap q))).askPreset q r else d
      d.finishRetrain q (g.want (d.cfgWidth q) (d.quay q).width) r.failed
    else d

def execWidthRetrain (q : Fin 128) (r : TrainResult) (s : State) : Host.Outcome State Fault Refusal :=
  liveLift (effWidthRetrain q r) s

/-- R72: RESTORE_WIDTH retrains the quay with every configured lane. -/
def actRestoreWidth (q : Nat) : Act :=
  { effect := fun _ _ _ d =>
      if d.qstate q = 3 ∨ d.qstate q = 4 then (d.put (Obj.failedLanes q) 0).startRetrain q .all
      else d.put (Obj.failedLanes q) 0 }

def execRestoreWidth (c : Call) (q : Fin 128) (v : Nat) (s : State) : Host.Outcome State Fault Refusal :=
  writeRow (actRestoreWidth q) c (Obj.restoreWidth q) v s

/-- The status of a WIDTH_REQUEST (R73), in the order of Table 10.12. -/
def checkWidthRequest (q v : Nat) (d : Dev) : Nat :=
  if ((d.widest q).map (fun p => decide (p.1 < v))).getD true || !roleWidth (d.role q) v then Status.badValue
  else if (d.quay q).wreq.isSome then Status.busy
  else if !(d.isUp q && (d.quay q).l0p) || d.get (Obj.l0pEnable q) == 0 then Status.unsupported
  else Status.success

/-- Lanes wake for a widening of the link: VLANE_A is forewarned (R324), and they leave electrical idle (R61). -/
def Dev.wakeLanes (q w : Nat) (d : Dev) : Dev :=
  if d.get (Obj.currentWidth q) < w then d.exitIdle q (w - d.get (Obj.currentWidth q)) else d

/-- The device accepts the partner's L0p request. -/
def Dev.acceptWidth (q w : Nat) (d : Dev) : Dev := (d.wakeLanes q w).send (.link q (.widthAccept w))

/-- R73, R75: an accepted request reads PENDING and is sent; one for the width in force is done at once. A widening wakes
lanes. -/
def actWidthRequest (q : Nat) : Act :=
  { check := fun _ v d => checkWidthRequest q v d
    effect := fun _ v _ d =>
      if v = d.get (Obj.currentWidth q) then d.put (Obj.widthRequestStatus q) 3
      else
        let d := (d.setQuay q fun k => { k with wreq := some { width := v, sent := true, reissue := false } }).put
          (Obj.widthRequestStatus q) 1
        (d.wakeLanes q v).send (.link q (.widthRequest v)) }

def execWidthRequest (c : Call) (q : Fin 128) (v : Nat) (s : State) : Host.Outcome State Fault Refusal :=
  writeRow (actWidthRequest q) c (Obj.widthRequest q) v s

/-- Table 3.6: the device's own request prevails over the partner's. -/
def Dev.ownPrevails (d : Dev) (q : Nat) : Bool :=
  match d.role q with
  | 2 => true
  | 3 => match (d.quay q).partner with
    | .w512 id => decide (id < d.get Obj.fabricId)
    | _ => false
  | _ => false

/-- R74, R75: the partner's L0p request arrives. Without one of its own that has been sent, or when its own does not
prevail, the device accepts it; a collision is counted; after four consecutive lost collisions the request has FAILED and
an error is raised whose type the spec does not list (type 0). L0P_ENABLE bars only the device's own requests (DESIGN CHOICE, log
entry 99: R73 speaks of those alone). A width below x4 is not accepted on a Fabric quay (R53). -/
def effPartnerWidthRequest (q width : Nat) (d : Dev) : Dev :=
  if d.isUp q && (d.quay q).l0p && roleWidth (d.role q) width then
    match (d.quay q).wreq with
    | none => d.acceptWidth q width
    | some r =>
      if !r.sent then d.acceptWidth q width
      else
        let d := d.count (Obj.widthCollisions q) 1
        if d.ownPrevails q then d
        else if 3 ≤ r.lost then
          (((d.setQuay q fun k => { k with wreq := none }).put (Obj.widthRequestStatus q) 4).err
            { typ := 0, inst := q, unit := q }).acceptWidth q width
        else (d.setQuay q fun k => { k with wreq := some { r with sent := false, lost := r.lost + 1 } }).acceptWidth q width
  else d

def execPartnerWidthRequest (q : Fin 128) (width : Nat) (s : State) : Host.Outcome State Fault Refusal :=
  liveLift (effPartnerWidthRequest q width) s

/-- R73, R75: an L0p change completes; CURRENT_WIDTH takes the width, and the device's own request is DONE, or waits to
be re-issued. -/
def effL0pChangeDone (q width : Nat) (d : Dev) : Dev :=
  if d.isUp q && (d.quay q).l0p && [1, 2, 4, 8, 16].contains width && decide (width ≤ d.cfgWidth q) &&
      roleWidth (d.role q) width then
    ((d.setQuay q fun k => { k with width := width }).put (Obj.currentWidth q) width).reviewRequest q width
  else d

def execL0pChangeDone (q : Fin 128) (width : Nat) (s : State) : Host.Outcome State Fault Refusal :=
  liveLift (effL0pChangeDone q width) s

/-- R75: the device re-issues its request. -/
def effWidthReissue (q : Nat) (d : Dev) : Dev :=
  match (d.quay q).wreq with
  | none => d
  | some r =>
    if d.isUp q && r.reissue then
      ((d.setQuay q fun k => { k with wreq := some { r with sent := true, reissue := false } }).wakeLanes q r.width).send
        (.link q (.widthRequest r.width))
    else d

def execWidthReissue (q : Fin 128) (s : State) : Host.Outcome State Fault Refusal := liveLift (effWidthReissue q) s

/-- L1 is in effect on a quay: L1_ENABLE is true, and never on a Fabric quay (Table 3.4, R62). -/
def Dev.l1Allowed (d : Dev) (q : Nat) : Bool := d.get (Obj.l1Enable q) == 1 && d.role q != 3

/-- R62: the quay enters L1. -/
def effL1Entry (q : Nat) (d : Dev) : Dev :=
  if d.isUp q && d.l1Allowed q then d.setQuay q fun k => { k with l1 := true } else d

def execL1Entry (q : Fin 128) (s : State) : Host.Outcome State Fault Refusal := liveLift (effL1Entry q) s

/-- R61, R62, R324: the quay returns to L0; VLANE_A is forewarned, and an EIEOS and the burst are sent. -/
def effL1Exit (q : Nat) (d : Dev) : Dev :=
  if (d.quay q).l1 then
    (d.setQuay q fun k => { k with l1 := false }).exitIdle q (d.quay q).width
  else d

def execL1Exit (q : Fin 128) (s : State) : Host.Outcome State Fault Refusal := liveLift (effL1Exit q) s

/-- A DL_Down is remembered, and an identity check under way begins again at the next DL_Up (R97). -/
def Quay.lose (dlDown : Bool) (k : Quay) : Quay :=
  { k with l0 := false, dlDown := k.dlDown || dlDown, awaitId := k.awaitId && !dlDown }

/-- R85, R66, R76: the LTSSM leaves L0, L0p and L1. A quay that is UP becomes HELD, and lanes that fail to train are declared
failed; one that was still in its identity check goes on training. -/
def effLinkLoss (q failed : Nat) (dlDown : Bool) (d : Dev) : Dev :=
  if d.qstate q = 3 ∨ d.qstate q = 4 then
    let d := (d.holdLink q).setQuay q (Quay.lose dlDown)
    d.lanesFail q (d.failedTraining q failed)
  else if d.qstate q = 2 then d.setQuay q (Quay.lose dlDown)
  else d

def execLinkLoss (q : Fin 128) (failed : Nat) (dlDown : Bool) (s : State) : Host.Outcome State Fault Refusal :=
  liveLift (effLinkLoss q failed dlDown) s

/-- MIN_WIDTH_WRITE (R71, Table 3.7): at most CONFIG_WIDTH; above the width of an UP quay it raises Type 3. -/
def actMinWidth (q : Nat) : Act :=
  { check := fun _ v d => if d.get (Obj.configWidth q) < v then Status.badValue else Status.success
    effect := fun _ v _ d =>
      let raised := decide (d.get (Obj.minWidth q) < v)
      let d := d.put (Obj.minWidth q) v
      if raised && d.isUp q then d.checkMinWidth q (d.get (Obj.currentWidth q)) else d }

def execMinWidthWrite (c : Call) (q : Fin 128) (v : Nat) (s : State) : Host.Outcome State Fault Refusal :=
  writeRow (actMinWidth q) c (Obj.minWidth q) v s

/-- A CXL_OFFER that the quay's role allows (R78, Table 3.5): PBR only on Fabric, no 68 B flit on Fabric, and on Fabric
CXL, FLIT256 and PBR stay set. -/
def offerOk (role v : Nat) : Bool :=
  if role = 3 then bitAt v 0 && !bitAt v 1 && bitAt v 2 && bitAt v 5 else !bitAt v 5

/-- CXL_OFFER_WRITE (R78): it takes effect at the next training. -/
def actCxlOffer (q : Nat) : Act :=
  { check := fun _ v d => if offerOk (d.role q) v then Status.success else Status.badValue
    effect := fun _ v _ d => d.put (Obj.cxlOffer q) (d.storedOf (Obj.cxlOffer q) v) }

def execCxlOfferWrite (c : Call) (q : Fin 128) (v : Nat) (s : State) : Host.Outcome State Fault Refusal :=
  writeRow (actCxlOffer q) c (Obj.cxlOffer q) v s

end Sys2Proof.Machine
end

