-- ==== Sys2Proof/Machine/Link.lean ====
section
/-!
DEFINITION. The link layer (R79 to R87, R90 to R95): credits, flits and replay, and the requests the device originates.
-/

namespace Sys2Proof.Machine

open Sys2Proof

/-! Channels (Table 4.1). -/

/-- The number of a channel, in the order of Table 4.1. -/
def chanNo : Chan → Nat
  | .posted => 0 | .nonPosted => 1 | .completion => 2 | .m2sReq => 3 | .m2sRwD => 4
  | .s2mNdr => 5 | .s2mDrs => 6 | .biSnp => 7 | .biRsp => 8

/-- The response channels of R84. -/
def isResponse : Chan → Bool
  | .completion | .s2mNdr | .s2mDrs | .biRsp => true
  | _ => false

/-- A PCIe or CXL.io channel. -/
def isIo : Chan → Bool
  | .posted | .nonPosted | .completion => true
  | _ => false

/-- Header credits and bytes of data space per x4 position (Table 4.1). -/
def creditOf : Chan → Nat × Nat
  | .posted => (128, 32768) | .nonPosted => (256, 4096) | .completion => (256, 32768) | .m2sReq => (256, 0)
  | .m2sRwD => (128, 8192) | .s2mNdr => (256, 0) | .s2mDrs => (256, 16384) | .biSnp => (64, 0) | .biRsp => (64, 0)

/-- The channels received on a role (Table 4.1). -/
def received (role : Nat) : Chan → Bool
  | .posted | .nonPosted | .completion => true
  | .m2sReq | .m2sRwD | .biRsp => role == 1 || role == 3
  | .s2mNdr | .s2mDrs | .biSnp => role == 2 || role == 3

/-- Messages of a channel arrive on a quay: its role receives them (Table 4.1), and a CXL.mem channel needs a CXL protocol (R56). -/
def Dev.receives (d : Dev) (q : Nat) (c : Chan) : Bool := received (d.role q) c && (isIo c || decide (3 ≤ (d.quay q).protocol))

/-- Every channel. -/
def allChans : List Chan :=
  [.posted, .nonPosted, .completion, .m2sReq, .m2sRwD, .s2mNdr, .s2mDrs, .biSnp, .biRsp]

/-- R79: the credits a quay advertises at link-up, once for every x4 position it occupies. -/
def Dev.advertise (q : Nat) (d : Dev) : Dev :=
  d.sendAll ((allChans.filter (received (d.role q))).map fun c =>
    .link q (.advertise (chanNo c) ((creditOf c).1 * d.positions q) ((creditOf c).2 * d.positions q)))

/-- Credits of the partner for one message on its channel (R79, R115). -/
def Dev.creditFor (d : Dev) (q : Nat) (m : Msg) : Bool :=
  decide (1 ≤ Tab.get 0 (d.quay q).credits (2 * chanNo m.chan)) &&
  decide (m.len ≤ Tab.get 0 (d.quay q).credits (2 * chanNo m.chan + 1))

/-- Change the credits of a channel. -/
def addCredit (c : Chan) (h b : Nat) (t : Tab Nat) : Tab Nat :=
  Tab.set 0 (Tab.set 0 t (2 * chanNo c) (Tab.get 0 t (2 * chanNo c) + h)) (2 * chanNo c + 1)
    (Tab.get 0 t (2 * chanNo c + 1) + b)

/-- Take credits of a channel. -/
def takeCredit (c : Chan) (h b : Nat) (t : Tab Nat) : Tab Nat :=
  Tab.set 0 (Tab.set 0 t (2 * chanNo c) (Tab.get 0 t (2 * chanNo c) - h)) (2 * chanNo c + 1)
    (Tab.get 0 t (2 * chanNo c + 1) - b)

/-- R80: freed space of a channel waits to be returned in the next flit. -/
def Dev.returnCredit (q : Nat) (c : Chan) (h b : Nat) (d : Dev) : Dev :=
  d.setQuay q fun k => { k with returns := addCredit c h b k.returns }

/-- The space of a message that does not go on into the core is free at once. -/
def Dev.freeMsg (q : Nat) (m : Msg) (d : Dev) : Dev := d.returnCredit q m.chan 1 m.len

/-! Replay (R81 to R83). -/

/-- Flits of a quay that may be unacknowledged (R82, Table 4.2). -/
def Dev.replayLimit (d : Dev) (q : Nat) : Nat := min (256 * d.positions q) 1023

/-- Sequence numbers are those of the base specification's 10-bit space. -/
def seqAfter (n : Nat) : Nat := (n + 1) % 1024

/-- Send the flits of a list again, each with the present acknowledgement, the first with the credits to be returned (R80). -/
def Dev.resend (q : Nat) (l : List LinkFlit) (d : Dev) : Dev :=
  let k := d.quay q
  ((d.event (0xC100 + q) 0x02 l.length {}).sendAll (l.zipIdx.map fun p =>
    .flit q p.1.seq k.rxSeq (p.1.items.map (·.msg)) (if p.2 = 0 then k.returns else []))).setQuay q fun k =>
      { k with returns := if l = [] then k.returns else [] }

/-- An acknowledgement frees every flit of the buffer up to the one it names (R82). -/
def acked (l : List LinkFlit) (seq : Nat) : List LinkFlit :=
  if l.any (fun f => f.seq == seq) then (l.dropWhile (fun f => f.seq != seq)).drop 1 else l

/-- The flits an acknowledgement frees. -/
def freed (l : List LinkFlit) (seq : Nat) : List LinkFlit :=
  if l.any (fun f => f.seq == seq) then l.takeWhile (fun f => f.seq != seq) ++ l.filter (fun f => f.seq == seq) else []

/-- The link carries flits: the LTSSM is in L0, a DL_Up has followed any DL_Down, and the quay is UP or awaits its identity
check. -/
def Dev.linkOn (d : Dev) (q : Nat) : Bool := (d.quay q).l0 && !(d.quay q).dlDown && (d.isUp q || (d.quay q).awaitId)

/-- The replay buffer may go out again: not before the identity check of a Fabric quay (R87, R97). -/
def Dev.replayOn (d : Dev) (q : Nat) : Bool := d.linkOn q && !(d.quay q).awaitId

/-- Close the check of an access that has completed (Table 9.7). -/
def Dev.closeCheck (id : Nat) (d : Dev) : Dev :=
  { d with customs := { d.customs with opened := d.customs.opened.filter (·.id != id)
                                       forwarded := d.customs.forwarded.filter (·.check != id) } }

/-- The checks of the device's own work that has ended are closed (Table 9.7). -/
def Dev.endOwn (p : OwnWork → Bool) (d : Dev) : Dev :=
  { d with customs := { d.customs with opened := d.customs.opened.filter fun o => !(o.own.map p).getD false } }

/-- Close several. -/
def Dev.closeChecks (l : List Item) (d : Dev) : Dev := l.foldl (fun d i => if i.chk = 0 then d else d.closeCheck i.chk) d

/-- A posted write that the egress link has acknowledged has completed (Table 9.7). -/
def postedItems (l : List LinkFlit) : List Item := (l.flatMap (·.items)).filter (fun i => i.msg.chan == .posted)

/-- The good part of a received flit (R81, R82): the acknowledgement and the credits it carries. -/
def Dev.takeAck (q : Nat) (f : RxFlit) (d : Dev) : Dev :=
  let gone := freed (d.quay q).replay f.ack
  (d.setQuay q fun k => { k with
    replay := acked k.replay f.ack
    replays := if gone = [] then k.replays else 0
    credits := (f.credits.zip allChans).foldl (fun t p => addCredit p.2 p.1.1 p.1.2 t) k.credits }).closeChecks
      (postedItems gone)

/-- R81: a flit is received. One that fails its check is asked for again by a standard replay; the next in order is
taken; any other flit with a sequence number asks for the one expected. -/
def Dev.receiveFlit (q : Nat) (f : RxFlit) (d : Dev) : Dev :=
  let want := seqAfter (d.quay q).rxSeq
  let d := d.event (0xC100 + q) 0x01 1 {}
  if !f.crcOk then (d.event (0xC100 + q) 0x03 1 {}).send (.link q (.replayRequest want))
  else
    let d := d.takeAck q f
    if f.idle then d
    else if f.seq = want then d.setQuay q fun k => { k with rxSeq := want }
    else if f.seq = (d.quay q).rxSeq then d
    else (d.event (0xC100 + q) 0x03 1 {}).send (.link q (.replayRequest want))

/-- The next core flits of a quay's egress buffers that may leave: in order of arrival, each stream in its sequence
(R110). -/
def Dev.releasable (d : Dev) (f : CoreFlit) : Bool :=
  match f.stream with
  | none => true
  | some t => t.seq == (Tab.get ({} : Stream) d.net.streams t.key).release

/-- Change a stream. -/
def Dev.setStream (key : Nat) (f : Stream → Stream) (d : Dev) : Dev :=
  { d with net := { d.net with streams := Tab.set {} d.net.streams key (f (Tab.get {} d.net.streams key)) } }

/-- A core flit belongs to a stream. -/
def ofStream (key : Nat) (f : CoreFlit) : Bool := (f.stream.map (·.key)) == some key

/-- Streams from a DOWN quay are cleared once none of their units is left (R110). -/
def Dev.trimStreams (d : Dev) : Dev :=
  d.setNet fun n => { n with streams := n.streams.filter fun p =>
    !p.2.ends || (n.voq ++ n.egress ++ n.backlog).any (ofStream p.1) }

/-- Move a stream on past a released core flit. -/
def Dev.releaseStream (f : CoreFlit) (d : Dev) : Dev :=
  match f.stream with
  | none => d
  | some t => (d.setStream t.key fun x => { x with release := (t.seq + 1) % 4096 }).trimStreams

/-- A core flit is in progress (R107): some of its units have been granted and some not. -/
def inProgress (f : CoreFlit) : Bool := decide (f.left < f.units) && decide (0 < f.left)

/-- The first releasable core flit of a quay's egress buffers. -/
def Dev.nextEgress (d : Dev) (q : Nat) : Option CoreFlit :=
  d.net.egress.find? fun f => (d.portsOf q).contains f.out && f.cutTo.isNone && d.releasable f

/-- Replace the first core flit of a list that equals one. -/
def replaceFlit (f g : CoreFlit) (l : List CoreFlit) : List CoreFlit :=
  match l with
  | [] => []
  | x :: rest => if x = f then g :: rest else x :: replaceFlit f g rest

/-- Put the messages of a core flit on the link: mark the device's own requests sent, note completions that leave the
device (Table 9.7), and number the flit. -/
def Dev.putOnLink (q : Nat) (f : CoreFlit) (d : Dev) : Dev :=
  let seq := seqAfter (d.quay q).txSeq
  let k := d.quay q
  let d := d.setNet fun n => { n with
    egress := n.egress.erase f
    orig := n.orig.map fun o =>
      if o.quay = q ∧ f.items.any (fun i => i.own == some (o.slot, o.gen)) then { o with sent := true } else o }
  let d := (d.releaseStream f).setQuay q fun k =>
    { k with txSeq := seq, replay := k.replay ++ [{ seq := seq, items := f.items }], returns := [] }
  let done := (f.items.filter (fun i => i.msg.chan == .completion)).filterMap fun i =>
    (d.customs.forwarded.find? (fun w => w.quay == q && w.tag == i.msg.tag)).map (·.check)
  let d := (d.event (0xC100 + q) 0x02 1 {}).payloadOut q ((f.items.map (·.msg.len)).sum) f.cls
  (done.foldl (fun d c => d.closeCheck c) d).send (.flit q seq k.rxSeq (f.items.map (·.msg)) k.returns)

/-- A core flit whose messages have all been removed leaves its egress buffer: nothing of it is sent (R91). -/
def Dev.passEmpty (f : CoreFlit) (d : Dev) : Dev :=
  (d.setNet fun n => { n with egress := n.egress.erase f }).releaseStream f

/-- A core flit in progress toward a quay whose turn it is and that has units in the egress buffer. -/
def Dev.partial' (d : Dev) (q : Nat) : Option CoreFlit :=
  d.net.voq.find? fun f => (d.portsOf q).contains f.out && inProgress f && f.cutTo.isNone && d.releasable f &&
    decide (f.gone < f.units - f.left)

/-- The units of a core flit in progress leave the egress buffer in a flit; its messages go with its last units (DESIGN CHOICE,
log entry 101). -/
def Dev.putPart (q : Nat) (f : CoreFlit) (d : Dev) : Dev :=
  let k := d.quay q
  let seq := seqAfter k.txSeq
  (((d.setNet fun n => { n with voq := replaceFlit f { f with gone := f.units - f.left } n.voq }).setQuay q fun k =>
    { k with txSeq := seq, replay := k.replay ++ [{ seq := seq, items := [] }], returns := [] }).event (0xC100 + q) 0x02 1 {}).send
      (.flit q seq k.rxSeq [] k.returns)

/-- R81, R82: transmit. Traffic waits while the quay is held for a verdict (R68), in L1, before its identity check, or
while the replay buffer is full; an idle flit carries the acknowledgement and the freed credits. -/
def Dev.transmit (q : Nat) (n : Nat) (d : Dev) : Dev :=
  match n with
  | 0 => d
  | n + 1 =>
    if (d.quay q).widthHold || (d.quay q).l1 || (d.quay q).awaitId ||
        decide (d.replayLimit q ≤ (d.quay q).replay.length) then d
    else match d.nextEgress q, d.partial' q with
      | some f, _ => (if f.items = [] then d.passEmpty f else d.putOnLink q f).transmit q n
      | none, some f => (d.putPart q f).transmit q n
      | none, none => d

/-- FLIT_TRANSMIT: up to n flits of traffic, or one idle flit when none can leave. -/
def effFlitTransmit (q n : Nat) (d : Dev) : Dev :=
  if d.linkOn q then
    let e := d.transmit q n
    if (e.quay q).txSeq = (d.quay q).txSeq then
      ((d.setQuay q fun k => { k with returns := [] }).event (0xC100 + q) 0x02 1 {}).send (.flit q (d.quay q).txSeq (d.quay q).rxSeq [] (d.quay q).returns)
    else e
  else d

def execFlitTransmit (q : Fin 128) (n : Nat) (s : State) : Host.Outcome State Fault Refusal :=
  liveLift (effFlitTransmit q n) s

/-- R81: the partner asks for a replay; a standard one sends every flit from the one named, a selective one that flit. -/
def effPartnerReplayRequest (q : Nat) (selective : Bool) (seq : Nat) (d : Dev) : Dev :=
  if d.replayOn q then
    (d.event (0xC100 + q) 0x04 1 {}).resend q (if selective then (d.quay q).replay.filter (fun f => f.seq == seq)
                else (d.quay q).replay.dropWhile (fun f => f.seq != seq))
  else d

def execPartnerReplayRequest (q : Fin 128) (selective : Bool) (seq : Nat) (s : State) :
    Host.Outcome State Fault Refusal := liveLift (effPartnerReplayRequest q selective seq) s

/-- The consecutive replays without any advance after which a link goes to Recovery (R83): four in flit mode; in non-flit mode the
base specification's replay number rolls over at the fourth timeout, after three (PRESUMED, log entry 113). -/
def maxReplays (protocol : Nat) : Nat := if protocol = 1 ∨ protocol = 3 then 3 else 4

/-- R83: no acknowledgement has advanced within the replay timeout: every unacknowledged flit is replayed; after as many
consecutive replays without any advance as the mode allows the link goes to Recovery, and the quay is HELD (R85). -/
def effReplayTimeout (q : Nat) (d : Dev) : Dev :=
  if d.replayOn q && decide ((d.quay q).replay ≠ []) then
    if maxReplays (d.quay q).protocol ≤ (d.quay q).replays then
      ((d.holdLink q).setQuay q fun k => { k with replays := 0 }).send (.link q .recovery)
    else (d.resend q (d.quay q).replay).setQuay q fun k => { k with replays := k.replays + 1 }
  else d

def execReplayTimeout (q : Fin 128) (s : State) : Host.Outcome State Fault Refusal := liveLift (effReplayTimeout q) s

/-! Queueing (R10, R107 to R112). -/

/-- The class of a message of a channel at a level (R108). -/
def classOf (c : Chan) (level : Nat) : Nat := if isResponse c then 4 + level else level

/-- Units of a message with n data bytes (R107). -/
def unitsOf (n : Nat) : Nat := max 1 ((n + 63) / 64)

/-- A waiting core flit can take one more header-only message (R10): it holds no data and fewer than four messages, and has not
been started. -/
def packable (f : CoreFlit) : Bool := !f.data && decide (f.items.length < 4) && f.left == f.units

/-- The same VOQ FIFO (R109). -/
def sameFifo (inp out cls : Nat) (c : Chan) (f : CoreFlit) : Bool :=
  f.inp == inp && f.out == out && f.cls == cls && f.ch == c

/-- A later non-posted core flit may pass an earlier posted one (R109): every message of it carries data and has relaxed ordering,
or has ID-based ordering and another requester. -/
def mayPass (f g : CoreFlit) : Bool :=
  f.items.all fun i => (i.msg.relaxed && decide (i.msg.len ≠ 0)) ||
    (i.msg.ido && g.items.all fun j => j.msg.requester != i.msg.requester)

/-- An earlier core flit that a later one of its VOQ does not pass (R109): of its FIFO, or posted before a non-posted one that may not
pass it. -/
def holdsBack (g f : CoreFlit) : Bool :=
  g.inp == f.inp && g.out == f.out && g.cls == f.cls &&
    (g.ch == f.ch || (g.ch == .posted && f.ch == .nonPosted && !mayPass f g))

/-- A waiting core flit after which a message of a stream, or of a FIFO without streams, comes next: nothing may come between
them (R110). -/
def Dev.precedes (d : Dev) (inp out cls : Nat) (c : Chan) (key : Option Nat) (f : CoreFlit) : Bool :=
  match key with
  | some k => f.cutTo.isNone && ((f.stream.map fun t =>
      t.key == k && (t.seq + 1) % 4096 == (Tab.get ({} : Stream) d.net.streams k).next).getD false)
  | none => sameFifo inp out cls c f && f.stream.isNone && f.cutTo.isNone

/-- Reserved cells of an input (Table 5.2). -/
def reservationOf (inp : Nat) : Nat := if inp < 128 then 2048 else 1024

/-- Cells charged to the reservation of an input. -/
def Dev.reservedBy (d : Dev) (inp : Nat) : Nat := ((d.net.voq.filter (·.inp == inp)).map (·.reserved)).sum

/-- The reservation of its input has cells for a core flit (R111). A request leaves those of one core flit of 64 units free, so that no
response ever waits on requests (R84; DESIGN CHOICE, log entry 101). -/
def Dev.hasCells (d : Dev) (f : CoreFlit) : Bool :=
  f.reserved == 0 || decide (d.reservedBy f.inp + f.reserved + (if isResponse f.ch then 0 else 64) ≤ reservationOf f.inp)

/-- A core flit lands in its VOQ, charged to its input's reservation (R111, R112); it waits at the input while the reservation
has no room for it, or one that it may not pass waits (R109). -/
def Dev.land (f : CoreFlit) (d : Dev) : Dev :=
  if d.net.backlog.any (holdsBack · f) || !d.hasCells f then d.setNet fun n => { n with backlog := n.backlog ++ [f] }
  else d.setNet fun n => { n with voq := n.voq ++ [{ f with admitted := d.time }] }

/-- Of the core flits that wait at an input, in order of arrival, those land for which there are cells and that pass none of those
that stay. -/
def Dev.landEach : List CoreFlit → List CoreFlit → Dev → Dev
  | _, [], d => d
  | stay, f :: rest, d =>
    if stay.any (holdsBack · f) || !d.hasCells f then Dev.landEach (stay ++ [f]) rest d
    else Dev.landEach stay rest (d.setNet fun n => { n with
      backlog := n.backlog.erase f, voq := n.voq ++ [{ f with admitted := d.time }] })

/-- Cells of an input's reservation are free: what waited for them lands. -/
def Dev.landWaiting (inp : Nat) (d : Dev) : Dev := Dev.landEach [] (d.net.backlog.filter (·.inp == inp)) d

/-- The space that unit i of a core flit frees at its quay: the headers with unit 0, and its part of the data. -/
def unitCredit (f : CoreFlit) (i : Nat) : Nat × Nat :=
  let l := f.items.filter (!·.made)
  if f.data then (if i = 0 then l.length else 0, min 64 ((l.map (·.msg.len)).sum - 64 * i)) else (l.length, 0)

/-- Return the credit for unit i of a core flit that came from a quay (R80, R112). -/
def Dev.creditUnit (f : CoreFlit) (i : Nat) (d : Dev) : Dev :=
  if f.inp < 128 then d.returnCredit (d.quayOfPort f.inp) f.ch (unitCredit f i).1 (unitCredit f i).2 else d

/-- Return the credit for one message of a core flit that leaves the core early: for its units that are still charged to the
reservation. -/
def Dev.creditItem (f : CoreFlit) (i : Item) (d : Dev) : Dev :=
  if f.inp < 128 && !i.made && decide (1 ≤ f.reserved) then
    d.returnCredit (d.quayOfPort f.inp) f.ch (if f.data && decide (f.reserved < f.units) then 0 else 1)
      (i.msg.len - 64 * (f.units - f.reserved))
  else d

/-- Admit a message to its VOQ: packed into a waiting unit that it comes next after when it can be (R10), else as a new core
flit, stamped with its stream's next sequence number (R110). Of its units `sh` hold shared cells. -/
def Dev.enqueueWith (sh inp out cls : Nat) (key : Option Nat) (i : Item) (d : Dev) : Dev :=
  let d := d.traceItem inp cls i
  let last := if i.msg.len = 0 then ((d.net.voq ++ d.net.backlog).filter (d.precedes inp out cls i.msg.chan key)).getLast? else none
  match last.filter packable with
  | some f =>
    let g : CoreFlit := { f with items := f.items ++ [i] }
    let d := d.setNet fun n => if n.voq.contains f then { n with voq := replaceFlit f g n.voq }
      else { n with backlog := replaceFlit f g n.backlog }
    if f.shared = 0 ∨ i.made ∨ 128 ≤ f.inp then d else d.returnCredit (d.quayOfPort f.inp) f.ch 1 0
  | none =>
    let f : CoreFlit := { inp := inp, out := out, cls := cls, ch := i.msg.chan, units := unitsOf i.msg.len
                          left := unitsOf i.msg.len, admitted := d.time, reserved := unitsOf i.msg.len - sh, shared := sh
                          data := decide (i.msg.len ≠ 0), items := [i]
                          stream := key.map fun k => { key := k, seq := (Tab.get ({} : Stream) d.net.streams k).next } }
    (match key with
      | none => d
      | some k => d.setStream k fun x => { x with next := (x.next + 1) % 4096 }).land f

/-- Admit a message whose units are all charged to the reservation. -/
def Dev.enqueue (inp out cls : Nat) (key : Option Nat) (i : Item) (d : Dev) : Dev := d.enqueueWith 0 inp out cls key i

/-- The key of a stream (R110): source quay, destination quay or port, class, channel. -/
def streamKey (src dst cls : Nat) (c : Chan) : Nat := ((src * 256 + dst) * 8 + cls) * 16 + chanNo c

/-- The management units behind crossbar ports 192 to 195 (R18). -/
inductive MgmtUnit where
  | core (k : Nat)
  | breakwater | watch | tide
  deriving DecidableEq, Repr

/-- The management port of a unit (R18). -/
def MgmtUnit.port : MgmtUnit → Nat
  | .core k => 192 + k / 4
  | .breakwater => 194
  | .watch | .tide => 195

/-- The crossbar input and output, and the stream, on which a unit's message reaches a quay (R19, R20, R110). Units 0 to 15 are
the slices; unit 16 + p is crossbar port p, of a quay (the stream is dealt to its channels in turn) or a management unit. -/
def Dev.toQuay (d : Dev) (unit q cls : Nat) (c : Chan) : Nat × Nat × Option Nat :=
  let n := max 1 (d.positions q)
  if unit < 16 then (128 + 4 * unit + (q + unit % n) % 4, q + unit % n, none)
  else if unit < 144 then
    let key := streamKey (unit - 16) q cls c
    let k := (Tab.get ({} : Stream) d.net.streams key).next % max 1 (d.positions (unit - 16))
    (unit - 16 + k, q + (unit - 16 + k) % n, some key)
  else (unit - 16, q + (unit - 16) % n, none)

/-- The crossbar input and output, and the stream, on which a quay's message reaches a management port: it is dealt to the quay's
channels in turn (R110). -/
def Dev.toMgmt (d : Dev) (q port cls : Nat) (c : Chan) : Nat × Nat × Option Nat :=
  let key := streamKey q port cls c
  (q + (Tab.get ({} : Stream) d.net.streams key).next % max 1 (d.positions q), port, some key)

/-- The crossbar input and output on which a unit's message reaches a slice (R20, R110): the quay's channel of the slice, or the
management channel, on the slice channel of the same number; and its stream, for a management port none. -/
def Dev.toSlice (d : Dev) (unit s : Nat) : Nat × Nat :=
  let inp := if unit < 144 then unit - 16 + s % max 1 (d.positions (unit - 16)) else unit - 16
  (inp, 128 + 4 * s + inp % 4)

/-! Requests the device originates (R90 to R95). -/

/-- The tags of a channel (Table 4.5): its slots' first number (each tag size has slots of its own), how many, and the
generations of each. -/
def tagLayout (c : Chan) (bits : Nat) : Nat × Nat × Nat :=
  if !isIo c then (0, 4096, 16) else if 14 ≤ bits then (4096, 1024, 16)
  else if 10 ≤ bits then (5120, 256, 4) else (5376, 64, 4)

def Dev.tagSlot (d : Dev) (q slot : Nat) : TagSlot := Tab.get {} d.net.tags (8192 * q + slot)

def Dev.setTagSlot (q slot : Nat) (t : TagSlot) (d : Dev) : Dev :=
  { d with net := { d.net with tags := Tab.set {} d.net.tags (8192 * q + slot) t } }

/-- The slot has an open request. -/
def Dev.slotOpen (d : Dev) (q slot : Nat) : Bool := d.net.orig.any (fun o => o.quay == q && o.slot == slot)

/-- The generation a slot takes next: in increasing order from its last, wrapping, skipping stale ones; none when every
generation is stale (R93). `gens` is how many it has; `base` the steps of R95. -/
def nextGen (t : TagSlot) (gens base : Nat) : Option Nat :=
  ((List.range gens).map (fun i => (t.next + base + i) % gens)).find? (fun g => !t.stale.contains g)

/-- The lowest slot with no open request and a generation to take (DESIGN CHOICE, log entry 114: R93 names the generation, not the
slot, and a slot with an open request is not issued again). -/
def Dev.freeSlot (d : Dev) (q gens : Nat) : Nat → Nat → Option (Nat × Nat)
  | 0, _ => none
  | n + 1, slot =>
    match (if d.slotOpen q slot then none else nextGen (d.tagSlot q slot) gens (d.quay q).genBase) with
    | some g => some (slot, g)
    | none => d.freeSlot q gens n (slot + 1)

/-- A window of the collector runs on the memory device that a request is for (Table 14.3). -/
def Dev.deviceWindow (d : Dev) (w : OrigWait) : Bool :=
  !isIo w.msg.chan && [1, 2].any fun c => d.get (Obj.classState c) == 1 &&
    (let m := d.get (Obj.firstSource c) % 1024
     d.get (Obj.firstSource c) / 1024 == 16 && decide (m < 64) && d.get (Obj.memdevQuay m) == w.quay &&
       d.get (Obj.memdevLd m) == w.msg.source)

/-- A request the device originates takes a slot and generation, its timer starts (R90), and it is queued toward the
quay; with no slot free it waits (R93), and so does one for a memory device in a window (R391). -/
def Dev.issue (w : OrigWait) (d : Dev) : Dev :=
  let lay := tagLayout w.msg.chan (d.quay w.quay).tagBits
  match if d.deviceWindow w then none else d.freeSlot w.quay lay.2.2 lay.2.1 lay.1 with
  | none => { d with net := { d.net with waiting := d.net.waiting ++ [w] } }
  | some (slot, g) =>
    let m := { w.msg with tag := g * lay.2.1 + (slot - lay.1) }
    let p := d.toQuay w.unit w.quay w.level m.chan
    let d := d.setTagSlot w.quay slot { (d.tagSlot w.quay slot) with
      next := (g + 1 + lay.2.2 - (d.quay w.quay).genBase % lay.2.2) % lay.2.2 }
    (d.setNet fun n => { n with
      orig := n.orig ++ [{ quay := w.quay, slot := slot, gen := g, ini := w.ini, atomic := m.sort == .atomic
                           issued := d.time, limit := d.get Obj.extCompletionTimeout, level := w.level }] }).enqueue p.1 p.2.1 w.level
        p.2.2 { msg := m, own := some (slot, g), made := w.made }

/-- Requests that waited for a slot of a quay are issued when one is free. -/
def Dev.issueWaiting (q : Nat) (d : Dev) : Dev :=
  match d.net.waiting.find? (fun w => w.quay == q && !d.deviceWindow w) with
  | none => d
  | some w => ({ d with net := { d.net with waiting := d.net.waiting.erase w } }).issue w

/-- The oldest waiting request that can go now: no window stops it, and its quay has a slot free for it. -/
def Dev.issuable (d : Dev) : Option OrigWait :=
  d.net.waiting.find? fun w =>
    let lay := tagLayout w.msg.chan (d.quay w.quay).tagBits
    !d.deviceWindow w && (d.freeSlot w.quay lay.2.2 lay.2.1 lay.1).isSome

/-- After a window, every waiting request that can go is issued, oldest first. -/
def Dev.issueAll : Nat → Dev → Dev
  | 0, d => d
  | n + 1, d => match d.issuable with
    | none => d
    | some w => (({ d with net := { d.net with waiting := d.net.waiting.erase w } }).issue w).issueAll n

/-- Remove an open request. -/
def Dev.dropOrig (o : Orig) (d : Dev) : Dev := { d with net := { d.net with orig := d.net.orig.erase o } }

/-- A core flit toward a quay carries a request of the device's own, by slot and generation. -/
def carries (q : Nat) (id : Nat × Nat) (d : Dev) (f : CoreFlit) : Bool :=
  (d.portsOf q).contains f.out && f.items.any (fun i => i.own == some id)

/-- Partner's credits that a started core flit no longer needs for a message are free again (R115). -/
def Dev.giveBack (q : Nat) (m : Msg) (d : Dev) : Dev :=
  d.setQuay q fun k => { k with credits := addCredit m.chan 1 m.len k.credits }

/-- A request of the device's own that is still inside it is removed and never sent (R91). A core flit in progress completes
(R107), and one of a stream keeps its turn. -/
def Dev.recall (q : Nat) (id : Nat × Nat) (d : Dev) : Dev :=
  let cut (f : CoreFlit) : CoreFlit :=
    if carries q id d f then { f with items := f.items.filter (fun i => i.own != some id) } else f
  let mine := (d.net.voq ++ d.net.backlog ++ d.net.egress).filter (carries q id d)
  let d := d.setNet fun n => { n with
    voq := (n.voq.map cut).filter fun f => f.items ≠ [] || inProgress f || f.stream.isSome
    backlog := (n.backlog.map cut).filter fun f => f.items ≠ [] || f.stream.isSome
    egress := (n.egress.map cut).filter fun f => f.items ≠ [] || f.stream.isSome }
  mine.foldl (fun d f => (f.items.filter (fun i => i.own == some id)).foldl (fun d i =>
    let d := d.creditItem f i
    if f.left < f.units then d.giveBack q i.msg else d) (d.landWaiting f.inp)) d

/-- R91: the request ends by its timer. One still inside the device is removed and never sent; one already sent leaves
its generation stale. -/
def Dev.expireOrig (o : Orig) (d : Dev) : Dev :=
  let d := d.dropOrig o
  if o.sent then
    d.setTagSlot o.quay o.slot { (d.tagSlot o.quay o.slot) with stale := (d.tagSlot o.quay o.slot).stale ++ [o.gen] }
  else d.recall o.quay (o.slot, o.gen)

/-- The open request of a quay, slot and generation. -/
def Dev.origAt (d : Dev) (q slot gen : Nat) : Option Orig :=
  d.net.orig.find? (fun o => o.quay == q && o.slot == slot && o.gen == gen)

/-- R94: a response to a stale generation is discarded and counted, and its mark is cleared; one that matches nothing is
an unexpected completion, Type 7. -/
def Dev.lateOrUnexpected (q slot gen : Nat) (d : Dev) : Dev :=
  let t := d.tagSlot q slot
  if t.stale.contains gen then
    ((d.setTagSlot q slot { t with stale := t.stale.filter (· != gen) }).count Obj.lateDiscardCount 1).issueWaiting q
  else d.err { typ := 7, inst := q, unit := q }

/-! Resending after a DL_Down (R87). -/

/-- What happens to one message of the replay buffer after a DL_Down: sent again, or not. A BISnp, which R87 names neither as a
request nor as a response, is sent again, one forwarded for another device too (DESIGN CHOICE, log entry 100). -/
def keepAfterLoss (i : Item) : Bool :=
  isResponse i.msg.chan || i.msg.chan == .biSnp || (i.own.isSome && i.msg.sort != .atomic)

/-- A forwarded request, which R87 discards and counts. -/
def lostForward (i : Item) : Bool := !keepAfterLoss i && i.own.isNone

/-- Number a list of flits anew from the next sequence number. -/
def renumber (seq : Nat) : List LinkFlit → List LinkFlit
  | [] => []
  | f :: rest => { f with seq := seqAfter seq } :: renumber (seqAfter seq) rest

/-- R87: after DL_Up the messages to be kept go out again as new flits, in order; forwarded requests are discarded and
counted, and have completed for Customs barriers (Table 9.7). -/
def Dev.resendReplay (q : Nat) (d : Dev) : Dev :=
  let items := (d.quay q).replay.flatMap (·.items)
  let keep := ((d.quay q).replay.map fun f => { f with items := f.items.filter keepAfterLoss }).filter (fun f => f.items ≠ [])
  let fresh := renumber (d.quay q).txSeq keep
  let d := (d.count Obj.flushRequestDrops (items.filter lostForward).length).closeChecks (items.filter lostForward)
  (d.setQuay q fun k => { k with replay := fresh, replays := 0, txSeq := (fresh.getLast?.map (·.seq)).getD k.txSeq }).resend
    q fresh

/-- The atomic requests of the device's own that were in the buffer, by slot and generation: they end as timed out (R87). -/
def Dev.lostAtomics (d : Dev) (q : Nat) : List Orig :=
  let ids := ((d.quay q).replay.flatMap (·.items)).filterMap fun i => if i.msg.sort = .atomic then i.own else none
  d.net.orig.filter (fun o => o.quay == q && ids.contains (o.slot, o.gen))

/-! The route table and the fabric ID (R96 to R100). -/

/-- FABRIC_ID_WRITE (R96): only in Slipway. -/
def actFabricId : Act :=
  { check := fun _ _ d => if d.mode = 0 then Status.success else Status.wrongMode
    effect := fun _ v _ d => d.put Obj.fabricId v }

def execFabricIdWrite (c : Call) (v : Nat) (s : State) : Host.Outcome State Fault Refusal :=
  writeRow actFabricId c Obj.fabricId v s

/-- ROUTE_BLOCK_WRITE (R99): all 64 entries in one commit. -/
def actRouteBlock (k : Nat) : Act := storeAct (Obj.routeBlock k)

def execRouteBlockWrite (c : Call) (k : Fin 64) (v : Nat) (s : State) : Host.Outcome State Fault Refusal :=
  writeRow (actRouteBlock k) c (Obj.routeBlock k) v s

/-- The route entry of a PBR ID (R98). -/
def Dev.routeEntry (d : Dev) (id : Nat) : Nat := bits (d.get (Obj.routeBlock (id / 64))) (32 * (id % 64)) 32

/-- A quay is UP or HELD. -/
def Dev.alive (d : Dev) (q : Nat) : Bool := d.qstate q == 3 || d.qstate q == 4

/-- R98 to R100: the quay a PBR flit is forwarded to; none when it is not forwarded. The entry must be valid and the quay it
selects must have role Fabric and not be the one of arrival; the entry of the device's own ID is ignored. -/
def Dev.route (d : Dev) (arrival : Option Nat) (id : Nat) : Option Nat :=
  let e := d.routeEntry id
  let prim := bits e 0 7
  let alt := bits e 16 7
  let pick := if d.alive prim then some prim
    else if bitAt e 30 && d.qstate prim == 1 && d.alive alt then some alt else none
  match pick with
  | none => none
  | some q => if bitAt e 31 && d.role q == 3 && some q != arrival && id != d.get Obj.fabricId then some q else none

end Sys2Proof.Machine
end

