-- ==== Sys2Proof/Machine/Switch.lean ====
section
/-!
DEFINITION. The switch core (R106 to R134): VOQs, the buffer pool, arbiters, gates, shapers, samples and the flush of a
quay that is declared DOWN.
-/

namespace Sys2Proof.Machine

open Sys2Proof

/-! Ports and levels. -/

/-- The slice of a slice port (R18). -/
def sliceOfPort (p : Nat) : Option Nat := if 128 ≤ p ∧ p < 192 then some ((p - 128) / 4) else none

/-- Level of a message that arrives on a quay (Table 5.1). -/
def Dev.levelOf (d : Dev) (q : Nat) (m : Msg) : Nat :=
  if isIo m.chan then bits (d.get (Obj.tcMap q)) (2 * m.tc) 2
  else if m.chan = .biSnp ∨ m.chan = .biRsp then 3
  else d.get (Obj.memLevel q)

/-! Queueing between ports (R20, R110). -/

/-- A message of the device's own making whose route selects a DOWN quay is discarded and counted (R130). -/
def Dev.dropToward (c : Chan) (d : Dev) : Dev :=
  if isResponse c then d.count Obj.flushResponseDrops 1
  else if c = .posted then d.count Obj.flushRequestDrops 1
  else d

/-- Queue a message from a unit toward a quay, `sh` of its units in shared cells. -/
def Dev.unitToQuayWith (sh unit q level : Nat) (i : Item) (d : Dev) : Dev :=
  if d.qstate q = 1 then d.dropToward i.msg.chan else
  let p := d.toQuay unit q (classOf i.msg.chan level) i.msg.chan
  d.enqueueWith sh p.1 p.2.1 (classOf i.msg.chan level) p.2.2 i

/-- Queue a message from a unit toward a quay. -/
def Dev.unitToQuay (unit q level : Nat) (i : Item) (d : Dev) : Dev := d.unitToQuayWith 0 unit q level i

/-- Queue a message from a quay toward another quay. -/
def Dev.quayToQuayWith (sh q dst level : Nat) (i : Item) (d : Dev) : Dev := d.unitToQuayWith sh (16 + q) dst level i
def Dev.quayToQuay (q dst level : Nat) (i : Item) (d : Dev) : Dev := d.quayToQuayWith 0 q dst level i

/-- Queue a message from a quay toward a slice. -/
def Dev.quayToSlice (q s level : Nat) (i : Item) (d : Dev) : Dev :=
  let p := d.toSlice (16 + q) s
  d.enqueue p.1 p.2 (classOf i.msg.chan level) none i

/-! The buffer pool (R111 to R114). -/

/-- Cells of the shared part (Table 5.2). -/
def sharedTotal (p : Part) : Nat := if p = .w512 then 454656 else 536576

/-- Shared cells held by the core flits that satisfy a test. -/
def Dev.sharedBy (d : Dev) (p : CoreFlit → Bool) : Nat := ((d.net.voq.filter p).map (·.shared)).sum

/-- SHARED_FREE: free cells of the shared part. -/
def Dev.sharedFree (d : Dev) : Nat := sharedTotal d.part - d.sharedBy (fun _ => true)

/-- Table 5.3 limits of a depth: per VOQ, per input. -/
def depthLimits (code : Nat) : Nat × Nat :=
  match code with
  | 0 => (512, 4096)
  | 1 => (4096, 16384)
  | _ => (16384, 65536)

/-- R113: a unit of a VOQ may be recharged. -/
def Dev.mayRecharge (d : Dev) (inp out cls : Nat) : Bool :=
  let lim := depthLimits (d.get Obj.voqDepthInForce)
  decide (d.sharedBy (fun f => f.inp == inp && f.out == out && f.cls == cls) < lim.1) &&
  decide (d.sharedBy (fun f => f.inp == inp) < lim.2) &&
  decide (d.sharedBy (fun f => f.out == out) < d.get Obj.outputSharedCap) &&
  decide (1 ≤ d.sharedFree) &&
  (decide (4 ≤ cls) || decide (d.get Obj.responseFloor + 1 < d.sharedFree))

/-- Recharge one unit of the first core flit of a list that satisfies a test. -/
def rechargeFirst (p : CoreFlit → Bool) : List CoreFlit → List CoreFlit
  | [] => []
  | f :: rest => if p f then { f with reserved := f.reserved - 1, shared := f.shared + 1 } :: rest
                 else f :: rechargeFirst p rest

/-- CELL_RECHARGE (R112 to R114): the first unit of a VOQ charged to the reservation is recharged to the shared part when
every limit allows, and its credit is returned. -/
def effCellRecharge (inp out cls : Nat) (d : Dev) : Dev :=
  let p := fun f : CoreFlit => f.inp == inp && f.out == out && f.cls == cls && decide (1 ≤ f.reserved)
  match d.net.voq.find? p with
  | none => d
  | some f =>
    if d.mayRecharge inp out cls then
      ((d.setNet fun n => { n with voq := rechargeFirst p n.voq }).creditUnit f (f.units - f.left + f.shared)).landWaiting inp
    else d

def execCellRecharge (inp : Fin 196) (out : Fin 196) (cls : Fin 8) (s : State) : Host.Outcome State Fault Refusal :=
  liveLift (effCellRecharge inp out cls) s

/-! Gates (R121 to R125). -/

/-- Position in the cycle of a gate list at an instant. -/
def GateList.pos (g : GateList) (t : Nat) : Nat :=
  if g.cycle = 0 then 0
  else if g.base ≤ t then (t - g.base) % g.cycle else (g.cycle - (g.base - t) % g.cycle) % g.cycle

/-- DURATION and GATE_OPEN of an entry (Table 5.4). -/
def gateDuration (e : Nat) : Nat := bits e 0 24
def gateOpen (e c : Nat) : Bool := bitAt e (24 + c)

/-- The entry at a position of the cycle and the time left in it. -/
def entryAt : List Nat → Nat → Nat → Nat × Nat
  | [], i, _ => (i, 0)
  | e :: rest, i, pos => if pos < gateDuration e then (i, gateDuration e - pos) else entryAt rest (i + 1) (pos - gateDuration e)

/-- Time for which a class stays open through a list of entries; `none` while none of them closes it. -/
def openThrough (c : Nat) : List Nat → Option Nat
  | [] => none
  | e :: rest => if gateOpen e c then (openThrough c rest).map (gateDuration e + ·) else some 0

/-- For how long from an instant a class's gate stays open under a list; `none` without end. -/
def GateList.openFor (g : GateList) (c t : Nat) : Option Nat :=
  let p := entryAt g.entries 0 (g.pos t)
  if !gateOpen (g.entries.getD p.1 0) c then some 0
  else (openThrough c (g.entries.drop (p.1 + 1) ++ g.entries.take (p.1 + 1))).map (p.2 + ·)

def Dev.gate (d : Dev) (q : Nat) : Gate := Tab.get {} d.net.gates q

def Dev.setGate (q : Nat) (f : Gate → Gate) (d : Dev) : Dev :=
  d.setNet fun n => { n with gates := Tab.set {} n.gates q (f (d.gate q)) }

/-- For how long a class's gate of a quay stays open from now (R121, R124): the start instant of a pending list is a gate
change. -/
def Dev.openNs (d : Dev) (q c : Nat) : Option Nat :=
  if d.get (Obj.gateEnable q) = 0 then none
  else match (d.gate q).running, (d.gate q).pending with
    | none, none => none
    | none, some (g, at') => (g.openFor c at').map (at' - d.time + ·)
    | some g, none => g.openFor c d.time
    | some g, some (h, at') =>
      match g.openFor c d.time with
      | some n => if d.time + n < at' then some n else (h.openFor c at').map (at' - d.time + ·)
      | none => (h.openFor c at').map (at' - d.time + ·)

/-- Payload per lane in MB/s for a rate code (Table 3.1). -/
def laneRate : Nat → Nat
  | 0 => 250 | 1 => 500 | 2 => 985 | 3 => 1969 | 4 => 3938 | 5 => 8000 | 6 => 16000 | _ => 0

/-- Bytes in the egress buffers of a quay, with the units granted of core flits in progress. -/
def Dev.egressBytes (d : Dev) (q : Nat) : Nat :=
  ((d.net.egress.filter fun f => (d.portsOf q).contains f.out).map fun f => 64 * (f.units - f.gone)).sum +
  ((d.net.voq.filter fun f => (d.portsOf q).contains f.out).map fun f => 64 * (f.units - f.left - f.gone)).sum

/-- R124: a core flit of n units in a class may start, with P = 0.9 × the quay's rate. All terms are multiplied by ten
times the rate. -/
def Dev.gateAllows (d : Dev) (q c n : Nat) : Bool :=
  match d.openNs q c with
  | none => true
  | some ns =>
    let raw := laneRate (d.get (Obj.currentRate q)) * d.get (Obj.currentWidth q)
    decide ((d.get (Obj.gateGuard q) + 80) * 9 * raw + (d.egressBytes q + 64 * n) * 10000 + 2304000 ≤ ns * 9 * raw)

/-- GATE_COMMIT's shadow list. -/
def Dev.shadow (d : Dev) (q : Nat) : GateList :=
  { base := d.get (Obj.gateBaseTime q), cycle := d.get (Obj.gateCycle q)
    entries := (List.range (d.get (Obj.gateCount q))).map fun e => d.get (Obj.gateEntry q e) }

/-- R122: the shadow passes the checks. -/
def GateList.ok (g : GateList) : Bool :=
  decide (1000 ≤ g.cycle ∧ g.cycle ≤ 10000000) &&
  g.entries.all (fun e => decide (100 ≤ gateDuration e ∧ gateDuration e ≤ 10000000)) &&
  (g.entries.map gateDuration).sum == g.cycle &&
  [4, 5, 6, 7].all fun c => g.entries.any (gateOpen · c)

/-- R123: the first base + k × cycle at or after an instant. -/
def GateList.startAt (g : GateList) (t : Nat) : Nat :=
  if t ≤ g.base ∨ g.cycle = 0 then g.base else g.base + (t - g.base + g.cycle - 1) / g.cycle * g.cycle

/-- The shadow becomes the pending list of a quay (R123). -/
def Dev.gatePend (q : Nat) (d : Dev) : Dev :=
  let g := d.shadow q
  let at' := g.startAt (d.time + 10000)
  ((d.setGate q fun x => { x with pending := some (g, at') }).put (Obj.gateStatus q) 2).put (Obj.gateStartTime q) at'

/-- GATE_COMMIT (R122, R123). -/
def actGateCommit (q : Nat) : Act :=
  { check := fun _ _ d => if !(d.shadow q).ok then Status.badValue
      else if d.get (Obj.gateStatus q) = 2 then Status.busy else Status.success
    effect := fun _ _ _ d => d.gatePend q }

def execGateCommit (c : Call) (q : Fin 128) (v : Nat) (s : State) : Host.Outcome State Fault Refusal :=
  writeRow (actGateCommit q) c (Obj.gateCommit q) v s

/-- The objects of the running list: its entries and the entry in force now. A GATE_ACTIVE_ENTRY beyond the list's count keeps its
old value (DESIGN CHOICE, log entry 101). -/
def Dev.showList (q : Nat) (g : GateList) (d : Dev) : Dev :=
  (d.putAll (g.entries.zipIdx.map fun p => (Obj.gateActiveEntry q p.2, p.1))).put (Obj.gateCurrentEntry q)
    (entryAt g.entries 0 (g.pos d.time)).1

/-- GATE_LIST_START (R123): at the start instant the pending list replaces the running one, and GATE_STATUS reads RUNNING,
whatever GATE_ENABLE is. -/
def effGateListStart (q : Nat) (d : Dev) : Dev :=
  match (d.gate q).pending with
  | none => d
  | some (g, at') =>
    if at' ≤ d.time then
      ((d.setGate q fun _ => { running := some g, pending := none }).put (Obj.gateStatus q) 1).showList q g
    else d

def execGateListStart (q : Fin 128) (s : State) : Host.Outcome State Fault Refusal := liveLift (effGateListStart q) s

/-- GATE_ENTRY_CHANGE (R121): the entry of the present position is in force. -/
def effGateEntryChange (q : Nat) (d : Dev) : Dev :=
  match (d.gate q).running with
  | none => d
  | some g => d.put (Obj.gateCurrentEntry q) (entryAt g.entries 0 (g.pos d.time)).1

def execGateEntryChange (q : Fin 128) (s : State) : Host.Outcome State Fault Refusal := liveLift (effGateEntryChange q) s

/-- GATE_ENABLE_WRITE (R121, R123): it takes effect at its commit; with 0 every gate is open. The lists and GATE_STATUS go on
as they are (DESIGN CHOICE, log entry 101). -/
def actGateEnable (q : Nat) : Act :=
  { effect := fun _ v _ d => d.put (Obj.gateEnable q) v }

def execGateEnableWrite (c : Call) (q : Fin 128) (v : Nat) (s : State) : Host.Outcome State Fault Refusal :=
  writeRow (actGateEnable q) c (Obj.gateEnable q) v s

/-- R123: on entry to a service mode, every quay with GATE_ENABLE starts its stored list as though committed then. -/
def Dev.startGates (d : Dev) : Dev :=
  d.forEach ((List.range 128).filter fun q => d.get (Obj.gateEnable q) == 1) fun q d =>
    if (d.shadow q).ok && !(d.gate q).pending.isSome then d.gatePend q else d

/-- R125: a step of fabric time moves the start instants of pending lists by the same amount and repositions the running
ones. -/
def Dev.stepGates (delta : Int) (d : Dev) : Dev :=
  d.forEach (Tab.keys d.net.gates) fun q d =>
    let d := match (d.gate q).pending with
      | none => d
      | some (g, at') =>
        let moved := ((at' : Int) + delta).toNat
        (d.setGate q fun x => { x with pending := some (g, moved) }).put (Obj.gateStartTime q) moved
    effGateEntryChange q d

/-! Shapers (R126 to R128). -/

/-- The balance of a bucket. -/
def Dev.tokens (d : Dev) (q c : Nat) : Int := toSigned 32 (d.get (Obj.shapeTokens q c))

/-- SHAPE_RATE in force since the last refill. -/
def Dev.rateInForce (d : Dev) (q c : Nat) : Nat := Tab.get 0xFFFFFFFF d.net.rates (8 * q + c)

/-- R126, R127: the class's shaper allows a core flit to start. -/
def Dev.shaperAllows (d : Dev) (q c : Nat) : Bool :=
  d.rateInForce q c == 0xFFFFFFFF || (d.rateInForce q c != 0 && decide (0 ≤ d.tokens q c))

/-- Bytes debited for a core flit (R127). -/
def debitOf (f : CoreFlit) : Nat := if f.data then 64 * f.units else 16 * f.items.length

/-- Debit a bucket. An unshaped class is not metered. -/
def Dev.debit (q c n : Nat) (d : Dev) : Dev :=
  if d.rateInForce q c = 0xFFFFFFFF then d else d.put (Obj.shapeTokens q c) (ofSigned 32 (d.tokens q c - n))

/-- One bucket at a refill instant: it gains SHAPE_RATE × SHAPER_REFILL and is clamped to SHAPE_BURST; the rate now in
force is the object's (R126, R128). -/
def Dev.refillBucket (q c : Nat) (d : Dev) : Dev :=
  let rate := d.get (Obj.shapeRate q c)
  let d := d.setNet fun n => { n with rates := Tab.set 0xFFFFFFFF n.rates (8 * q + c) rate }
  d.put (Obj.shapeTokens q c)
    (ofSigned 32 (min (d.tokens q c + (rate * d.get Obj.shaperRefill / 1000 : Nat)) (d.get (Obj.shapeBurst q c))))

/-- SHAPER_REFILL: every bucket of every quay. -/
def effShaperRefill (d : Dev) : Dev :=
  d.forEach (List.range 1024) fun i d => d.refillBucket (i / 8) (i % 8)

def execShaperRefill (s : State) : Host.Outcome State Fault Refusal := liveLift effShaperRefill s

/-- The object of a SHAPER_WRITE. -/
def shaperObj (q c : Nat) : ShaperObj → Nat
  | .rate => Obj.shapeRate q c
  | .burst => Obj.shapeBurst q c
  | .refill => Obj.shaperRefill

/-- SHAPER_WRITE (R126, R128): stored now, in force at the next refill; a rate of 0 is refused for response classes. -/
def actShaper (q c : Nat) (w : ShaperObj) : Act :=
  { check := fun _ v _ => if w = .rate ∧ v = 0 ∧ 4 ≤ c then Status.badValue else Status.success
    effect := fun _ v _ d => d.put (shaperObj q c w) v }

def execShaperWrite (c : Call) (q : Fin 128) (cls : Fin 8) (what : ShaperObj) (v : Nat) (s : State) :
    Host.Outcome State Fault Refusal := writeRow (actShaper q cls what) c (shaperObj q cls what) v s

/-! Sampling (R129). -/

/-- The units across the crossbar on their way out of a quay channel, by class, in the order in which they leave. -/
def Dev.outUnits (d : Dev) (o : Nat) : List (Nat × Nat) :=
  ((d.net.egress.filter fun f => f.out == o && f.cutTo.isNone && d.releasable f).map fun f => (f.cls, f.units - f.gone)) ++
  ((d.net.voq.filter fun f => f.out == o && f.cutTo.isNone && d.releasable f).map fun f => (f.cls, f.units - f.left - f.gone))

/-- A list of units by class without its first n. -/
def dropUnits : Nat → List (Nat × Nat) → List (Nat × Nat)
  | _, [] => []
  | n, (c, k) :: rest => (c, k - n) :: dropUnits (n - k) rest

/-- Cells of a class toward a quay: in VOQs, and in its egress buffers, with core flits ahead of their turn (R110). The 8 units that
leave a quay channel next are in its synchroniser (R16, R115; DESIGN CHOICE, log entry 101) and not counted. -/
def Dev.depthOf (d : Dev) (q c : Nat) : Nat :=
  let toward (l : List CoreFlit) : List CoreFlit := l.filter fun f => (d.portsOf q).contains f.out && f.cls == c
  ((toward d.net.voq).map fun f => if f.cutTo.isNone && d.releasable f then f.left else f.units - f.gone).sum +
  (((toward d.net.egress).filter (!d.releasable ·)).map fun f => f.units - f.gone).sum +
  ((d.portsOf q).map fun o => (((dropUnits 8 (d.outUnits o)).filter (·.1 == c)).map (·.2)).sum).sum

/-- The greatest age of a head unit of a class toward a quay. -/
def Dev.delayOf (d : Dev) (q c : Nat) : Nat :=
  listMax 0 ((d.net.voq.filter fun f => (d.portsOf q).contains f.out && f.cls == c).map fun f => d.time - f.admitted)

/-- One pair of egress quay and class is sampled. -/
def Dev.samplePair (q c : Nat) (d : Dev) : Dev :=
  let dep := d.depthOf q c
  let del := min (d.delayOf q c) 0xFFFFFFFF
  d.putAll [(Obj.depthSample q c, dep), (Obj.delaySample q c, del), (Obj.depthMax q c, max dep (d.get (Obj.depthMax q c))),
            (Obj.delayMax q c, max del (d.get (Obj.delayMax q c)))]

/-- QUEUE_SAMPLE: every pair. -/
def effQueueSample (d : Dev) : Dev := d.forEach (List.range 1024) fun i d => d.samplePair (i / 8) (i % 8)

def execQueueSample (s : State) : Host.Outcome State Fault Refusal := liveLift effQueueSample s

/-! The flush of a DOWN quay (R130 to R132, Table 5.5). -/

/-- Insert a core flit in the order of a measure, after those of the same. -/
def insertFlit (n : CoreFlit → Nat) (f : CoreFlit) : List CoreFlit → List CoreFlit
  | [] => [f]
  | x :: rest => if n f < n x then f :: x :: rest else x :: insertFlit n f rest

/-- Core flits in the order of a measure. -/
def sortFlits (n : CoreFlit → Nat) (l : List CoreFlit) : List CoreFlit := l.foldl (fun l f => insertFlit n f l) []

/-- Its number in its stream. -/
def CoreFlit.seqNo (f : CoreFlit) : Nat := (f.stream.map (·.seq)).getD 0

/-- Type 8: a PBR flit is not forwarded; the event names its destination ID (R99), in DETAIL, which Table 14.10 gives no other use
(DESIGN CHOICE, log entry 114). -/
def Dev.notForwarded (arrival id : Nat) (d : Dev) : Dev :=
  d.err { typ := 8, inst := arrival, unit := arrival, detail := id }

/-- The access reads: it takes data for its answer. -/
def isRead : MemOp → Bool
  | .sharedRd | .ownRd | .uncachedRd => true
  | _ => false

/-- The answer the device synthesises for a request message, toward its requester: a CXL.mem read takes poison, and any other
CXL.mem request its plain completion (R99, R207, R376); a completion carries `status`, 1 Completer Abort, 2 Unsupported
Request. -/
def answerMsg (m : Msg) (status : Nat) : Msg :=
  match m.chan with
  | .m2sReq =>
    if isRead m.op then { chan := .s2mDrs, tag := m.tag, dest := m.source, source := m.dest, len := 64, poison := true, data := 0 }
    else { chan := .s2mNdr, tag := m.tag, dest := m.source, source := m.dest }
  | .m2sRwD => { chan := .s2mNdr, tag := m.tag, dest := m.source, source := m.dest }
  | _ => { chan := .completion, tag := m.tag, dest := m.source, source := m.dest, size := status }

/-- The message asks for an answer. -/
def wantsAnswer (m : Msg) : Bool :=
  match m.chan with
  | .nonPosted | .m2sReq | .m2sRwD => true
  | _ => false

/-- The crossbar inputs of a unit. -/
def Dev.inputsOf (d : Dev) (unit : Nat) : List Nat :=
  if unit < 16 then (List.range 4).map (128 + 4 * unit + ·) else if unit < 144 then d.portsOf (unit - 16) else [unit - 16]

/-- The last core flit of a unit's PBR flits to an ID, on a channel, that waits for one in progress toward a DOWN quay (R107): what comes
after it to that ID takes no other way before it (R101). -/
def Dev.cutAhead (d : Dev) (unit id cls : Nat) (c : Chan) : Option CoreFlit :=
  (sortFlits CoreFlit.seqNo ((d.net.egress ++ d.net.voq ++ d.net.backlog).filter fun f => f.cutTo.isSome &&
    (d.inputsOf unit).contains f.inp && f.ch == c && f.cls == cls && f.items.any fun i => i.pbr && i.msg.dest == id)).getLast?

/-- A PBR message waits behind a core flit that waits so, `sh` of its units in shared cells. -/
def Dev.follow (sh : Nat) (f : CoreFlit) (i : Item) (d : Dev) : Dev :=
  let n := unitsOf i.msg.len
  d.land { f with units := n, left := n, gone := 0, admitted := d.time, reserved := n - sh, shared := sh, data := decide (i.msg.len ≠ 0)
                  items := [i], stream := f.stream.map fun t => { t with seq := t.seq + 1 } }

/-- Queue a PBR message of a unit toward the quay that its route selects. -/
def Dev.pbrToQuay (sh unit q level : Nat) (i : Item) (d : Dev) : Dev :=
  match d.cutAhead unit i.msg.dest (classOf i.msg.chan level) i.msg.chan with
  | some f => d.follow sh f i
  | none => d.unitToQuayWith sh unit q level i

/-- R98 to R100: a PBR message of a unit goes to the quay that its destination's route selects; one without a route is not
forwarded, and is discarded with Type 8. -/
def Dev.sendPbr (unit level : Nat) (m : Msg) (d : Dev) : Dev :=
  match d.route none m.dest with
  | some q => d.pbrToQuay 0 unit q level { msg := m, pbr := true, made := true }
  | none => d.notForwarded (bits (d.routeEntry m.dest) 0 7) m.dest

/-- An answer of the device's own goes back to a request's source: by its PBR ID when it came over the fabric (R98), otherwise to
its quay. -/
def Dev.answerBack (q level status : Nat) (m : Msg) (d : Dev) : Dev :=
  if !wantsAnswer m then d
  else if d.role q = 3 then d.sendPbr (16 + q) level { answerMsg m status with dest := m.source, source := d.get Obj.fabricId }
  else d.quayToQuay q q level { msg := answerMsg m status, made := true }

/-- R99: a PBR flit in transit that is not forwarded: a request gets an error completion, or poison for a CXL.mem read; any
other flit is discarded; Type 8 names its destination. -/
def Dev.refusePbr (f : CoreFlit) (i : Item) (d : Dev) : Dev :=
  let q := d.quayOfPort f.inp
  ((d.notForwarded q i.msg.dest).creditItem f i).answerBack q (f.cls % 4) 1 i.msg

/-- R98 to R100: route one message of a core flit of PBR flits in transit. The space it holds is not credited twice (R112). -/
def Dev.routePbr (f : CoreFlit) (i : Item) (d : Dev) : Dev :=
  let q := d.quayOfPort f.inp
  let paid := i.made || f.reserved == 0
  match d.route (some q) i.msg.dest with
  | some dst => d.pbrToQuay (if f.data && !paid then f.shared else 0) (16 + q) dst (f.cls % 4) { i with made := paid }
  | none => d.refusePbr f i

/-- One message toward a DOWN quay is treated by Table 5.5. -/
def Dev.flushItem (q : Nat) (f : CoreFlit) (i : Item) (d : Dev) : Dev :=
  if i.own.isSome then d.creditItem f i
  else if i.pbr then d.routePbr f i
  else
    let d := d.creditItem f i
    match i.msg.chan with
    | .nonPosted =>
      (d.count Obj.flushSynthCount 1 |>.closeChecks [i]).quayToQuay q (d.quayOfPort f.inp) (f.cls % 4)
        { msg := answerMsg i.msg 2, made := true }
    | .posted => (d.count Obj.flushRequestDrops 1).closeChecks [i]
    | .completion | .s2mNdr | .s2mDrs | .biRsp => d.count Obj.flushResponseDrops 1
    | _ => d

/-- Every message of core flits toward a DOWN quay. -/
def Dev.flushToward (q : Nat) (l : List CoreFlit) (d : Dev) : Dev :=
  l.foldl (fun d f => f.items.foldl (fun d i => d.flushItem q f i) d) d

/-- How far a core flit is ahead of the release of its stream. -/
def Dev.turnOf (d : Dev) (f : CoreFlit) : Nat :=
  match f.stream with
  | none => 0
  | some t => (t.seq + 4096 - (Tab.get ({} : Stream) d.net.streams t.key).release) % 4096

/-- A core flit in progress toward or from a DOWN quay completes, and the others of its stream, or of its FIFO without streams, wait
for it (R107, R110). -/
def waitsCut (l : List CoreFlit) (f : CoreFlit) : Bool :=
  inProgress f || l.any fun g => inProgress g && (match g.stream with
    | some t => ofStream t.key f
    | none => f.stream.isNone && sameFifo g.inp g.out g.cls g.ch f)

/-- The core flits that waited for one to complete toward a DOWN quay are treated. -/
def Dev.flushRest (q : Nat) (d : Dev) : Dev :=
  let cut (f : CoreFlit) : Bool := f.cutTo == some q
  let l := (d.net.egress ++ d.net.voq ++ d.net.backlog).filter cut
  let now := l.filter fun f => !waitsCut l f
  (d.setNet fun n => { n with
    voq := n.voq.filter fun f => !now.contains f
    egress := n.egress.filter fun f => !now.contains f
    backlog := n.backlog.filter fun f => !now.contains f }).flushToward q (sortFlits CoreFlit.seqNo now)

/-- The core flits that are left of a stream from a DOWN quay follow each other without gaps (R110, R131). -/
def Dev.closeGaps (key : Nat) (d : Dev) : Dev :=
  let at' := (Tab.get ({} : Stream) d.net.streams key).release
  let l := sortFlits d.turnOf ((d.net.egress ++ d.net.voq ++ d.net.backlog).filter (ofStream key))
  let move (f : CoreFlit) : CoreFlit :=
    if ofStream key f then { f with stream := some { key := key, seq := (at' + l.idxOf f) % 4096 } } else f
  (d.setNet fun n => { n with voq := n.voq.map move, backlog := n.backlog.map move, egress := n.egress.map move }).setStream key
    fun x => { x with next := (at' + l.length) % 4096 }

/-- R89, R130 to R132: the quay's queues are flushed. Units toward it are treated in their order, in egress buffers and VOQs;
a core flit in progress completes first. Requests from it are discarded and counted, its responses go on; its streams are
cleared. Nothing received on it before is credited to its next link. -/
def Dev.flushQuay (q : Nat) (d : Dev) : Dev :=
  let ports := d.portsOf q
  let toward (f : CoreFlit) : Bool := ports.contains f.out && f.cutTo.isNone
  let drops (f : CoreFlit) : Bool := ports.contains f.inp && !isResponse f.ch && !ports.contains f.out
  let late (f : CoreFlit) : CoreFlit := { f with
    cutTo := some q, stream := f.stream.map fun t => { t with seq := d.turnOf f } }
  let spent (f : CoreFlit) : CoreFlit :=
    if ports.contains f.inp then { f with items := f.items.map ({ · with made := true }) } else f
  let all := (d.net.egress ++ d.net.voq ++ d.net.backlog).filter toward
  let mark (f : CoreFlit) : CoreFlit := spent (if toward f then late f else if drops f then { f with cutFrom := true } else f)
  let keep (f : CoreFlit) : Bool := if toward f then waitsCut all f else !drops f || inProgress f
  let gone := ((d.net.voq ++ d.net.backlog).filter fun f => drops f && !inProgress f).flatMap (·.items)
  let now := sortFlits d.turnOf (all.filter fun f => !waitsCut all f)
  let d := d.setNet fun n => { n with
    voq := (n.voq.filter keep).map mark
    backlog := (n.backlog.filter keep).map mark
    egress := (n.egress.filter fun f => !toward f || waitsCut all f).map mark
    streams := (n.streams.filter fun p => p.1 / 128 % 256 != q).map fun p =>
      if p.1 / 32768 = q then (p.1, { p.2 with ends := true }) else p }
  let d := d.forEach ((d.net.streams.filter (·.1 / 32768 == q)).map (·.1)) Dev.closeGaps
  let d := (((d.count Obj.flushRequestDrops gone.length).closeChecks gone).flushToward q now).trimStreams
  d.forEach (d.net.backlog.map (·.inp)).eraseDups Dev.landWaiting

/-! Arbiters (R115 to R120). -/

def Dev.arb (d : Dev) (o : Nat) : Arb := Tab.get {} d.net.arbs o

def Dev.setArb (o : Nat) (f : Arb → Arb) (d : Dev) : Dev :=
  d.setNet fun n => { n with arbs := Tab.set {} n.arbs o (f (d.arb o)) }

/-- A write takes the place of the whole old value (R118). -/
def Arb.take (a : Arb) : PrioWrite → Arb
  | .priority v => { a with priority := v }
  | .weight i v => { a with weights := Tab.set 1 a.weights i v }
  | .policy v => { a with policy := v }

/-- A committed write starts on its way to the arbiters that it governs (R118): CLASS_PRIORITY of port p to output p,
INPUT_WEIGHT of port p as the weight of input p (DESIGN CHOICE, log entry 101) and the policy to every output. -/
def Dev.sendPrio (outs : List Nat) (w : PrioWrite) (d : Dev) : Dev :=
  d.forEach outs fun o d => d.setArb o fun a => { a with coming := a.coming ++ [w] }

/-- The arbiters of a core that starts: with no write on its way, each holds the values of the objects (R116, R290). -/
def Dev.loadArbs (d : Dev) : Dev :=
  let weights := (List.range 196).foldl (fun t p => Tab.set 1 t p (d.get (Obj.inputWeight p))) ([] : Tab Nat)
  d.setNet fun n => { n with arbs := (List.range 196).foldl (fun t o => Tab.set {} t o
    { priority := d.get (Obj.classPriority o), weights := weights, policy := d.get Obj.arbPolicyInForce }) [] }

/-- PRIORITY_WRITE (R118). INPUT_WEIGHT of port p is input p's weight at every output (DESIGN CHOICE, log entry 101). -/
def actPriority (p : Nat) (weight : Bool) : Act :=
  { effect := fun _ v _ d =>
      if weight then (d.put (Obj.inputWeight p) v).sendPrio (List.range 196) (.weight p v)
      else
        let v := d.storedOf (Obj.classPriority p) v
        (d.put (Obj.classPriority p) v).sendPrio [p] (.priority v) }

def execPriorityWrite (c : Call) (p : Fin 196) (weight : Bool) (v : Nat) (s : State) : Host.Outcome State Fault Refusal :=
  writeRow (actPriority p weight) c (if weight then Obj.inputWeight p else Obj.classPriority p) v s

/-- PRIORITY_REACHES_ARBITER (R118, R119): the oldest write on its way reaches the arbiter and waits for its next
decision. -/
def effPriorityReachesArbiter (o : Nat) (d : Dev) : Dev :=
  match (d.arb o).coming with
  | [] => d
  | w :: rest => d.setArb o fun a => { a with coming := rest, waiting := a.waiting ++ [w] }

def execPriorityReachesArbiter (out : Fin 196) (s : State) : Host.Outcome State Fault Refusal :=
  liveLift (effPriorityReachesArbiter out) s

/-- VOQ_DEPTH_IN_FORCE and ARB_POLICY_IN_FORCE are refused in a service mode (R134). -/
def actInForce (o : Nat) : Act :=
  { check := fun _ _ d => if d.service then Status.wrongMode else Status.success
    effect := fun _ v _ d =>
      if o = Obj.arbPolicyInForce then (d.put o v).sendPrio (List.range 196) (.policy v) else d.put o v }

/-- Units in the egress buffer and the handshake synchroniser of a quay channel (R16, R115), with those granted of a core flit in
progress. Core flits ahead of their turn are in the hold of their stream (R110), not there. -/
def Dev.egressUnits (d : Dev) (o : Nat) : Nat := ((d.outUnits o).map (·.2)).sum

/-- Units that a quay channel takes: 32 in its egress buffer and 8 in its synchroniser (R16, R115). -/
abbrev egressRoom : Nat := 40

/-- The home tracker of a slice has a free entry (Table 6.1). -/
def Slice.hasRoom (x : Slice) : Bool := decide (x.txs.length < 4096)

/-- Neither its home tracker, its line-conflict queue nor its allocation wait queue is full (R147). -/
def Slice.opens (x : Slice) : Bool := x.hasRoom && decide (x.conflict.length < 1024) && decide (x.alloc.length < 512)

/-- A slice takes request units from its slice channels (R147). -/
def Slice.takesRequests (x : Slice) : Bool := x.opens && x.door.isEmpty

def Dev.slice (d : Dev) (s : Nat) : Slice := Tab.get {} d.coh.slices s

/-- A window of the collector runs on source (typ of Table 14.4's groups, instance) and stops its new requests (R391). -/
def Dev.sliceWindow (d : Dev) (s : Nat) : Bool :=
  [1, 2].any fun c => d.get (Obj.classState c) == 1 &&
    (d.get (Obj.firstSource c) == sourceId 10 s ||
     (d.get (Obj.firstSource c) / 1024 == 8 && sliceOfPort (d.get (Obj.firstSource c) % 1024) == some s))

/-- The output has room for a unit of a core flit (R115): a free entry of a quay channel, or a slice that takes it; a slice that
parks or has its slots moved takes no request (R139). A core flit ahead of its turn goes to the hold of its stream, and one in
progress toward a DOWN quay completes. A management port takes every unit at once. -/
def Dev.roomFor (d : Dev) (f : CoreFlit) : Bool :=
  if f.out < 128 then f.cutTo.isSome || !d.releasable f || decide (d.egressUnits f.out < egressRoom)
  else match sliceOfPort f.out with
    | some s => isResponse f.ch ||
        (d.get (Obj.sliceState s) == 0 && (d.slice s).takesRequests && !d.sliceWindow s)
    | none => true

/-- The quay holds credits for every message of the core flit (R115). -/
def Dev.creditsFor (d : Dev) (q : Nat) (f : CoreFlit) : Bool :=
  decide (f.items.length ≤ Tab.get 0 (d.quay q).credits (2 * chanNo f.ch)) &&
  decide ((f.items.map (·.msg.len)).sum ≤ Tab.get 0 (d.quay q).credits (2 * chanNo f.ch + 1))

/-- R110: at most 64 core flits of a stream are ahead of the destination's release. -/
def Dev.streamAllows (d : Dev) (f : CoreFlit) : Bool :=
  match f.stream with
  | none => true
  | some t => decide ((t.seq + 4096 - (Tab.get ({} : Stream) d.net.streams t.key).release) % 4096 < 64)

/-- A core flit may start (R115): never toward a quay that is not UP, and no request of a quay in Lull, where it waits at ingress
(R36). -/
def Dev.mayStart (d : Dev) (f : CoreFlit) : Bool :=
  (d.power != 1 || decide (128 ≤ f.inp) || isResponse f.ch) && d.roomFor f && f.cutTo.isNone &&
  ((decide (128 ≤ f.out) && d.releasable f) ||
    (decide (f.out < 128) && d.isUp (d.quayOfPort f.out) && d.gateAllows (d.quayOfPort f.out) f.cls f.units && d.shaperAllows (d.quayOfPort f.out) f.cls &&
     d.creditsFor (d.quayOfPort f.out) f && d.streamAllows f))

/-- The heads of the VOQs toward an output: the first core flit of each FIFO (R109). A non-posted request passes a posted one of
its VOQ only by relaxed or ID-based ordering. -/
def heads (o : Nat) : List CoreFlit → List CoreFlit → List CoreFlit
  | _, [] => []
  | seen, f :: rest =>
    if f.out = o ∧ !seen.any (holdsBack · f) then f :: heads o (f :: seen) rest
    else heads o (if f.out = o then f :: seen else seen) rest

/-- The age of a head at 4 ns resolution, saturating (R116). -/
def Dev.age (d : Dev) (f : CoreFlit) : Nat := min ((d.time - f.admitted) / 4 * 4) 16380

/-- CLASS_PRIORITY of a class (Table 5.6). -/
def prioOf (v c : Nat) : Nat := bits v (4 * c) 3

/-- The first of a list of numbers in cyclic order after one of them. -/
def nextAfter (l : List Nat) (n m : Nat) : Option Nat :=
  ((List.range m).map (fun i => (n + 1 + i) % m)).find? (l.contains ·)

/-- R116 step 1 under Weighted: the class, rotating by class number among those of the highest priority. -/
def pickClass (a : Arb) (cs : List Nat) : Option Nat :=
  let top := listMax 0 (cs.map (prioOf a.priority))
  nextAfter (cs.filter fun c => prioOf a.priority c == top) a.lastClass 8

/-- R116 step 2 under Weighted: the input, in round-robin order with INPUT_WEIGHT core flits per turn. -/
def pickInput (a : Arb) (c : Nat) (ins : List Nat) : Option Nat :=
  let l := Tab.get 0 a.lastInput c
  if l ≠ 0 ∧ ins.contains (l - 1) ∧ Tab.get 0 a.served c < Tab.get 1 a.weights (l - 1) then some (l - 1)
  else nextAfter ins (if l = 0 then 195 else l - 1) 196

/-- The oldest of the eligible heads; equal ages go by round robin on the input after the last input granted. -/
def Dev.pickOldest (d : Dev) (a : Arb) (l : List CoreFlit) : Option CoreFlit :=
  let top := listMax 0 (l.map d.age)
  let old := l.filter fun f => d.age f == top
  (nextAfter (old.map (·.inp)) a.lastGrant 196).bind fun i => old.find? (fun f => f.inp == i)

/-- R116: the core flit that a decision grants, of the eligible ones. Of several channels' heads in the VOQ chosen it takes the one
admitted first (DESIGN CHOICE, log entry 101). -/
def Dev.decide' (d : Dev) (a : Arb) (l : List CoreFlit) : Option CoreFlit :=
  if a.policy = 0 then
    (pickClass a (l.map (·.cls))).bind fun c =>
      (pickInput a c ((l.filter (·.cls == c)).map (·.inp))).bind fun i => l.find? (fun f => f.cls == c && f.inp == i)
  else
    let top := listMax 0 (l.map fun f => prioOf a.priority f.cls)
    d.pickOldest a (l.filter fun f => prioOf a.priority f.cls == top)

/-- The arbiter's positions after a grant that starts a core flit. -/
def Arb.granted (a : Arb) (f : CoreFlit) : Arb :=
  let same := Tab.get 0 a.lastInput f.cls == f.inp + 1 && decide (Tab.get 0 a.served f.cls < Tab.get 1 a.weights f.inp)
  { a with lastClass := f.cls, lastInput := Tab.set 0 a.lastInput f.cls (f.inp + 1)
           served := Tab.set 0 a.served f.cls (if same then Tab.get 0 a.served f.cls + 1 else 1), lastGrant := f.inp }

/-- A core flit that was in progress when a quay was declared DOWN has completed, and is treated like what was queued (R107):
toward the quay by Table 5.5, in its turn among those that waited with it, and a request from it is discarded (R131). -/
def Dev.endCut (g : CoreFlit) (d : Dev) : Dev :=
  match g.cutTo with
  | some q => (d.setNet fun n => { n with egress := n.egress ++ [g] }).flushRest q
  | none =>
    let d := (d.count Obj.flushRequestDrops g.items.length).closeChecks g.items
    (if g.out < 128 then g.items.foldl (fun d i => d.giveBack (d.quayOfPort g.out) i.msg) d else d).releaseStream g

/-- One unit of a core flit is granted: its cell is freed, and when it was the last the core flit leaves its VOQ for the
egress buffer, or is delivered. The delivered messages are the second result. -/
def Dev.grantUnit (f : CoreFlit) (d : Dev) : Dev × List Item :=
  let d := if f.shared = 0 then d.creditUnit f (f.units - f.left) else d
  let g := { f with left := f.left - 1, shared := f.shared - 1, reserved := if f.shared = 0 then f.reserved - 1 else f.reserved }
  if g.left = 0 then
    let d := (d.setNet fun n => { n with voq := n.voq.erase f }).landWaiting f.inp
    if g.cutTo.isSome || g.cutFrom then (d.endCut g, [])
    else if f.out < 128 then (d.setNet fun n => { n with egress := n.egress ++ [g] }, [])
    else (d.releaseStream f, f.items)
  else ((d.setNet fun n => { n with voq := replaceFlit f g n.voq }).landWaiting f.inp, [])

/-- The starting grant of a core flit: credits are reserved and the shaper is debited (R115, R127). -/
def Dev.startFlit (f : CoreFlit) (d : Dev) : Dev :=
  let d := d.setArb f.out fun a => a.granted f
  if f.out < 128 then
    let q := d.quayOfPort f.out
    (d.setQuay q fun k => { k with
      credits := takeCredit f.ch f.items.length ((f.items.map (·.msg.len)).sum) k.credits }).debit q f.cls (debitOf f)
  else d

/-- HANDSHAKE_EVALUATION of an output (R117): the next unit of the core flit in progress, or at a break point a decision
under the writes that have reached the arbiter. An output of a HELD quay grants nothing and makes no decision. -/
def Dev.evaluate (o : Nat) (d : Dev) : Dev × List Item :=
  if o < 128 ∧ d.qstate (d.quayOfPort o) = 4 then (d, []) else
  match d.net.voq.find? (fun f => f.out == o && inProgress f) with
  | some f => if d.roomFor f then d.grantUnit f else (d, [])
  | none =>
    let d := if (d.arb o).waiting = [] then d
      else d.setArb o fun a => { (a.waiting.foldl Arb.take a) with waiting := [] }
    match d.decide' (d.arb o) ((heads o [] d.net.voq).filter d.mayStart) with
    | none => (d, [])
    | some f => (d.startFlit f).grantUnit f

end Sys2Proof.Machine
end

