-- ==== Sys2Proof/Machine/Memory.lean ====
section
/-!
DEFINITION. The path from a pooled request to a memory device (R176 to R187, R190, R204 to R207): berth decode, translation,
the Ledger and the page-state map, memory accesses, and the answers to hosts.
-/

namespace Sys2Proof.Machine

open Sys2Proof

/-! Host slots and berths (R176 to R180). -/

/-- The slot bound to a Host quay (kind 1) or a fabric source (kind 2). -/
def Dev.slotOf (d : Dev) (kind source : Nat) : Option Nat :=
  (List.range 64).find? fun h => d.get (Obj.slotKind h) == kind && d.get (Obj.slotSource h) == source

/-- The quay on which a host slot is reached: its Host quay, or the route to its fabric source. -/
def Dev.hostQuay (d : Dev) (h : Nat) : Option Nat :=
  match d.get (Obj.slotKind h) with
  | 1 => some (d.get (Obj.slotSource h))
  | 2 => d.route none (d.get (Obj.slotSource h))
  | _ => none

/-- The enabled berth of a slot in whose window an HPA lies. -/
def Dev.berthAt (d : Dev) (h hpa : Nat) : Option Nat :=
  ((List.range 16).map (16 * h + ·)).find? fun n =>
    d.get (Obj.berthEnable n) == 1 && decide (d.get (Obj.berthBase n) ≤ hpa ∧ hpa ≤ d.get (Obj.berthLimit n))

/-- Home keys (R136). -/
def privateKey (berth line : Nat) : Nat := berth * 2 ^ 38 + line
def basinKey (b line : Nat) : Nat := 2 ^ 63 + b * 2 ^ 48 + line
def isBasinKey (k : Nat) : Bool := bitAt k 63
def basinOfKey (k : Nat) : Nat := bits k 48 6
def berthOfKey (k : Nat) : Nat := bits k 38 10
def lineOfKey (k : Nat) : Nat := if isBasinKey k then bits k 0 42 else bits k 0 38

/-- The Ledger index of a home key (R178). -/
def Dev.indexOf (d : Dev) (k : Nat) : Nat :=
  (if isBasinKey k then d.get (Obj.spanLedgerFirst (basinOfKey k)) else d.get (Obj.ledgerFirst (berthOfKey k))) +
    lineOfKey k / 32768

/-- Outcomes of decode (Table 7.2) or a decoded request: a home key with its berth, or a remote device. -/
inductive Decoded where
  | fault (code berth : Nat)
  | key (k berth : Nat)
  | remote (id berth : Nat)
  deriving DecidableEq, Repr

/-- R178, R180: decode a CXL.mem request of a slot. -/
def Dev.decodeHpa (d : Dev) (h hpa : Nat) : Decoded :=
  match d.berthAt h hpa with
  | none => .fault 1 0xFFFF
  | some n =>
    let o := hpa - d.get (Obj.berthBase n)
    match d.get (Obj.berthKind n) with
    | 0 => .key (privateKey n (o / 64)) n
    | 1 =>
      let b := d.get (Obj.berthBasin n)
      let a := d.get (Obj.berthOffset n) + o
      if !bitAt (d.get (Obj.members b)) h then .fault 3 n
      else if d.get (Obj.spanPages b) * 2097152 ≤ a then .fault 4 n
      else .key (basinKey b (a / 64)) n
    | _ => .remote (d.get (Obj.berthHomeId n)) n

/-! Homes (R136 to R139). -/

/-- The fold of a home key. -/
def foldKey (k : Nat) : Nat := Nat.xor (Nat.xor (bits k 0 16) (bits k 16 16)) (Nat.xor (bits k 32 16) (bits k 48 16))

def Dev.basin (d : Dev) (b : Nat) : Basin := Tab.get {} d.coh.basins b

/-- The home slice of a line (R137). -/
def Dev.homeOf (d : Dev) (k : Nat) : Nat :=
  if isBasinKey k then
    (d.basin (basinOfKey k)).setBase + foldKey k % (d.basin (basinOfKey k)).setSize
  else byteAt (d.get Obj.homeMap) (foldKey k % 256)

/-! Answers to hosts. -/

/-- A line access of a Crane piece fails with a status of Table 8.4; the first one counts. -/
def Dev.pieceFails (st sub : Nat) (a : Access) (d : Dev) : Dev :=
  let f (x : PieceAcc) : PieceAcc := if some x.id = a.piece ∧ x.status = 0 then { x with status := st, sub := sub } else x
  d.setCrane fun c => { c with accs := c.accs.map f }

/-- A line access of a Crane piece has ended by the timer of a fenced slice (R395, R436). -/
def Dev.pieceLate (a : Access) (d : Dev) : Dev :=
  let f (x : PieceAcc) : PieceAcc := if some x.id = a.piece then { x with late := true } else x
  d.setCrane fun c => { c with accs := c.accs.map f }

/-- A line access of a Crane piece has ended at its home. -/
def Dev.pieceAnswered (a : Access) (data : Nat) (poison : Bool) (d : Dev) : Dev :=
  let f (x : PieceAcc) : PieceAcc := if some x.id = a.piece then { x with ended := true, data := data, poison := poison } else x
  if a.piece.isNone then d else d.setCrane fun c => { c with accs := c.accs.map f }

/-- Answer a host's request from a unit of the device (a slice, or a management port): a read with data, anything else
with a completion. An answer to another device goes by its PBR ID (R98). The access has completed (Table 9.7). -/
def Dev.answerFrom (unit : Nat) (a : Access) (data : Nat) (poison : Bool) (d : Dev) : Dev :=
  let m : Msg := if isRead a.op then { chan := .s2mDrs, tag := a.tag, dest := a.host, len := 64, data := data, poison := poison }
    else { chan := .s2mNdr, tag := a.tag, dest := a.host }
  let d := if a.chk = 0 then d else d.closeCheck a.chk
  if a.internal then d.pieceAnswered a data poison
  else match a.pbr with
    | some id => d.sendPbr unit a.level { m with dest := id, source := d.get Obj.fabricId }
    | none => d.unitToQuay unit a.quay a.level { msg := m, made := true }

/-- The answer to a request that is not performed (Table 6.8, R179): poisoned data, or a completion. -/
def Dev.refuseAccess (unit : Nat) (a : Access) (d : Dev) : Dev := d.answerFrom unit a 0 true

/-! Decode and translation faults (R179). -/

/-- LAST_DECODE_FAULT (R179). -/
def faultRecord (code : Nat) (a : Access) : Nat := code + a.host * 2 ^ 8 + a.berth * 2 ^ 16 + a.hpa * 2 ^ 64

/-- R179: a request that cannot be decoded or translated. At most one event is raised per slot per millisecond. Types 33
and 34 carry the record as their report. -/
def Dev.decodeFault (unit code : Nat) (a : Access) (d : Dev) : Dev :=
  let d := ((d.count Obj.decodeFaults 1).put Obj.lastDecodeFault (faultRecord code a)).pieceFails 5 code a
  let last := Tab.get 0 d.pool.faultTime a.host
  let report := decide (last = 0 ∨ last - 1 + 1000000 ≤ d.time)
  let d := if report then d.setPool fun p => { p with faultTime := Tab.set 0 p.faultTime a.host (d.time + 1) } else d
  (d.errIf report { typ := if code ≤ 4 then 33 else 34, inst := if code ≤ 4 then a.host else 0
                    report := faultRecord code a, target := if code ≤ 4 then a.host else 0xFFFF }).refuseAccess unit a

/-! Memory devices (R183). -/

/-- MEMDEV_STATE: 0 ABSENT, 1 READY, 2 FAILED. -/
def Dev.devState (d : Dev) (m : Nat) : Nat :=
  if d.get (Obj.memdevEnable m) = 0 then 0
  else
    let q := d.get (Obj.memdevQuay m)
    if d.qstate q = 1 then 2 else if d.alive q && bitAt d.pool.enumerated m then 1 else 0

/-- LEDGER_STATE: 0 NOT_CONFIGURED, 1 ACTIVE, 2 FAILED while LEDGER_DEVICE is FAILED (R187). -/
def Dev.ledgerState (d : Dev) : Nat :=
  if d.get Obj.ledgerState = 1 ∧ d.devState (d.get Obj.ledgerDevice) = 2 then 2 else d.get Obj.ledgerState

/-! The page-state map (Table 7.3): 0 FREE, 1 USED, 2 ZEROING, 3 RESERVED. -/

def pageKey (m p : Nat) : Nat := m * 2 ^ 27 + p

def Dev.pageState (d : Dev) (m p : Nat) : Nat := Tab.get 2 d.pool.pages (pageKey m p)

def Dev.setPage (m p st : Nat) (d : Dev) : Dev :=
  d.setPool fun x => { x with pages := Tab.set 2 x.pages (pageKey m p) st }

/-- Pages of an enabled device in a state; none before the Ledger is set up (R188). -/
def Dev.pagesIn (d : Dev) (m st : Nat) : Nat :=
  if d.get (Obj.memdevEnable m) = 0 ∨ d.get Obj.ledgerState = 0 then 0
  else
    let n := d.get (Obj.memdevPages m)
    let own := d.pool.pages.filter fun p => decide (p.1 / 2 ^ 27 = m ∧ p.1 % 2 ^ 27 < n)
    (own.filter fun p => p.2 == st).length + (if st = 2 then n - own.length else 0)

/-! The Ledger (R184 to R187, Table 7.4). -/

def Dev.ledgerAt (d : Dev) (i : Nat) : Nat := Tab.get 0 d.pool.ledger i

def entryValid (e : Nat) : Bool := bitAt e 63
def entryMigrating (e : Nat) : Bool := bitAt e 62
def entryNoPrefetch (e : Nat) : Bool := bitAt e 61
def entryAccess (e : Nat) : Nat := bits e 48 8
def entryDev (e : Nat) : Nat := bits e 32 6
def entryPage (e : Nat) : Nat := bits e 0 27

/-- An entry that maps a page. -/
def entryOf (m p : Nat) : Nat := 2 ^ 63 + m * 2 ^ 32 + p

/-- The DPA line (DPA / 64) of line i of a page (R185). -/
def Dev.dpaLine (d : Dev) (m p i : Nat) : Nat := d.get (Obj.memdevDpaBase m) / 64 + p * 32768 + i

/-- POOL_EPOCH. -/
def Dev.epoch (d : Dev) : Nat := d.get Obj.poolEpoch

/-- A new pool epoch (R190). -/
def Dev.newEpoch (d : Dev) : Dev := d.put Obj.poolEpoch ((d.epoch + 1) % 2 ^ 32)

/-- The translation cache of a slice. -/
def Dev.tlb (d : Dev) (s : Nat) : List TEntry := Tab.get [] d.pool.tlb s

def Dev.setTlb (s : Nat) (f : List TEntry → List TEntry) (d : Dev) : Dev :=
  d.setPool fun p => { p with tlb := Tab.set [] p.tlb s (f (Tab.get [] p.tlb s)) }

/-- R219: fold the accesses counted since the last fold into ACCESS. A fold changes only ACCESS; counts of a mapping that has been
replaced and whose page is being fenced are discarded (R189). -/
def Dev.foldCount (t : TEntry) (d : Dev) : Dev :=
  let e := d.ledgerAt t.index
  if entryValid e && !d.pool.fences.any (fun f => f.index == t.index && f.writeBack) then
    d.setPool fun p => { p with ledger := Tab.set 0 p.ledger t.index (setBits e 48 8 (min 255 (entryAccess e + t.count / 16))) }
  else d

/-- Fill a translation cache with an entry; the oldest of 65,536 is evicted, with its count folded (R186, R219). An entry of the same
mapping stays as it is, with its count and its epoch. -/
def Dev.fillTlb (s index : Nat) (d : Dev) : Dev :=
  let e := d.ledgerAt index
  if (d.tlb s).any (fun t => t.index == index && setBits t.entry 48 8 0 == setBits e 48 8 0) then d
  else
  let l := (d.tlb s).filter (·.index != index)
  let d := if 65536 ≤ l.length then (l.head?.map fun t => d.foldCount t).getD d else d
  d.setTlb s fun _ => (if 65536 ≤ l.length then l.drop 1 else l) ++ [{ index := index, entry := e, epoch := d.epoch }]

/-- Every translation cache entry of a page is invalidated; counts not yet folded are lost with it only when the entry's
mapping is replaced (R189), so `fold` says whether they are folded. -/
def Dev.dropTlb (index : Nat) (fold : Bool) (d : Dev) : Dev :=
  d.forEach (List.range 16) fun s d =>
    let d := if fold then ((d.tlb s).filter (·.index == index)).foldl (fun d t => d.foldCount t) d else d
    d.setTlb s fun l => l.filter (·.index != index)

/-- Count an access made through a cached entry (R219). -/
def Dev.countUse (s index : Nat) (d : Dev) : Dev :=
  d.setTlb s fun l => l.map fun t => if t.index = index then { t with count := t.count + 1 } else t

/-- Replace a Ledger entry in a commit and open an epoch (R190). -/
def Dev.setLedger (index e : Nat) (d : Dev) : Dev :=
  (d.setPool fun p => { p with ledger := Tab.set 0 p.ledger index e }).newEpoch

/-! Where a line is (R185, Table 7.9). -/

/-- The migration under way of a page (R213). -/
def Dev.activeMig (d : Dev) (index : Nat) : Option Mig := d.pool.migs.find? fun g => g.index == index && !g.finishing

/-- The migration slot that governs the accesses to a page through an entry: one with MIGRATING = 1, from the start of the
migration to its last entry, under which earlier accesses still end (R213, R216). -/
def Dev.migOf (d : Dev) (index entry : Nat) : Option Mig :=
  if !entryMigrating entry then none
  else match d.activeMig index with
    | some g => some g
    | none => d.pool.migs.find? (·.index == index)

/-- Where an access goes: a device and page, or held until the current bale is done. -/
inductive Place where
  | at (dev page : Nat)
  | held (slot : Nat)
  deriving DecidableEq, Repr

/-- The writes of the current bale are held: it is being copied, or is to be copied again with writes held already (R218). -/
def Mig.holding (g : Mig) : Bool := g.copying || !g.held.isEmpty

/-- Table 7.9: the location of line i (0 to 32,767) of a page. -/
def Dev.locate (d : Dev) (index entry i : Nat) (write : Bool) : Place :=
  match d.migOf index entry with
  | none => .at (entryDev entry) (entryPage entry)
  | some m =>
    if bitAt m.bitmap (i / 1024) && !(m.holding && m.current == i / 1024) then .at m.dstDev m.dstPage
    else if m.holding && m.current == i / 1024 then
      if write then .held m.slot
      else if bitAt m.bitmap (i / 1024) then .at m.dstDev m.dstPage else .at m.srcDev m.srcPage
    else .at m.srcDev m.srcPage

/-! Memory accesses (R90, R190, R204, R205). -/

/-- The key of a DPA line in the poison list. -/
def poisonKey (m line : Nat) : Nat := m * 2 ^ 58 + line

def Dev.poisoned (d : Dev) (m line : Nat) : Bool := d.pool.poison.contains (poisonKey m line)

/-- Record an access and send its request to the device's quay, at a level. -/
def Dev.sendMem (a : MemAcc) (level data be : Nat) (poison : Bool) (d : Dev) : Dev :=
  let a := { a with id := d.pool.nextAcc }
  let m : Msg := if a.write then { chan := .m2sRwD, op := .write, addr := 64 * a.line, len := 64, size := 64, data := data
                                   be := be, poison := poison, source := d.get (Obj.memdevLd a.dev) }
    else { chan := .m2sReq, op := .uncachedRd, addr := 64 * a.line, size := 64, source := d.get (Obj.memdevLd a.dev) }
  (d.setPool fun p => { p with nextAcc := p.nextAcc + 1, accesses := p.accesses ++ [a] }).issue
    { quay := a.quay, ini := .mem a.id, msg := m, unit := a.slice, level := level }

/-- The access record of a line at a device and page. -/
def Dev.accAt (d : Dev) (s k index dev page epoch : Nat) (write : Bool) (goal : MemFor) : MemAcc :=
  { id := 0, slice := s, key := k, dev := dev, line := d.dpaLine dev page (lineOfKey k % 32768), epoch := epoch, index := index
    quay := d.get (Obj.memdevQuay dev), write := write, goal := goal }

/-- The entry that the accesses of a slice to a page go by: the old one while the page is fenced, the cached one, or the
Ledger's (R186, R191). -/
def Dev.entryFor (d : Dev) (s index : Nat) : Nat :=
  match d.pool.fences.find? (·.index == index), (d.tlb s).find? (·.index == index) with
  | some f, _ => f.old
  | none, some t => t.entry
  | none, none => d.ledgerAt index

/-- The epoch of the cached entry of a page, or the one in force (R190). -/
def Dev.epochAt (d : Dev) (s index : Nat) : Nat :=
  (((d.tlb s).find? (·.index == index)).map (·.epoch)).getD d.epoch

/-- An access of a slice that is fenced: the slice takes no answer, and what was open to it ends later (R395, Table 14.6). -/
def Dev.unheard (d : Dev) (a : MemAcc) : Bool :=
  match a.goal with
  | .forward _ | .poison => false
  | _ => d.sliceFenced a.slice

/-- Remove an access record. -/
def Dev.dropAcc (id : Nat) (d : Dev) : Dev := d.setPool fun p => { p with accesses := p.accesses.filter (·.id != id) }

/-- The writer slot of an access that writes. -/
def writerOf (a : MemAcc) (host : Nat) : Nat :=
  match a.goal with
  | .clean w _ => w
  | .cross x | .flushWrite x | .forward x => x.host
  | _ => host

/-- KIND of Table 7.7: 1 write-back, 2 write-through or uncached, 3 Basin write, 4 forwarded. -/
def kindOf (a : MemAcc) : Nat :=
  match a.goal with
  | .clean _ _ => 1
  | .forward _ => 4
  | _ => if isBasinKey a.key then 3 else 2

/-- The berth and HPA of a line for a writer, by the berths' present bounds (Table 7.7). -/
def Dev.whereIs (d : Dev) (k writer : Nat) : Nat × Nat :=
  if isBasinKey k then
    match ((List.range 16).map (16 * writer + ·)).find? fun n =>
        d.get (Obj.berthEnable n) == 1 && d.get (Obj.berthKind n) == 1 && d.get (Obj.berthBasin n) == basinOfKey k &&
        decide (d.get (Obj.berthOffset n) ≤ 64 * lineOfKey k ∧
          64 * lineOfKey k + d.get (Obj.berthBase n) ≤ d.get (Obj.berthOffset n) + d.get (Obj.berthLimit n)) with
    | some n => (n, d.get (Obj.berthBase n) + 64 * lineOfKey k - d.get (Obj.berthOffset n))
    | none => (0xFFFF, 0)
  else (berthOfKey k, d.get (Obj.berthBase (berthOfKey k)) + 64 * lineOfKey k)

/-- Table 7.7: the report of a failed write. -/
def Dev.failReport (d : Dev) (kind cause writer dev berth hpa dpa : Nat) : Nat :=
  kind + cause * 2 ^ 8 + writer * 2 ^ 16 + dev * 2 ^ 24 + berth * 2 ^ 32 + hpa * 2 ^ 64 + d.time * 2 ^ 128 + dpa * 2 ^ 192

/-- R206: a failed write is counted and reported, to its writer slot when there is one. -/
def Dev.reportFail (kind cause writer dev berth hpa dpa : Nat) (d : Dev) : Dev :=
  (d.count Obj.writeFailures 1).err { typ := 35, inst := if kind = 4 then 0x3FF else dev
                                      target := if writer < 64 then writer else 0xFFFF
                                      report := d.failReport kind cause writer dev berth hpa dpa }

/-- Type 36: the poison list is full. -/
def Dev.poisonListFull (a : MemAcc) (d : Dev) : Dev := d.err { typ := 36, inst := a.dev, unit := d.get (Obj.memdevQuay a.dev) }

/-- R205: the line's DPA enters the poison list and a poisoned write is sent unless one is under way; with the list full,
Type 36 names the device. -/
def Dev.listPoison (a : MemAcc) (d : Dev) : Dev :=
  if !d.poisoned a.dev a.line && decide (1024 ≤ d.pool.poison.length) then d.poisonListFull a
  else
    let under := d.pool.accesses.any fun x => x.dev == a.dev && x.line == a.line && x.goal == MemFor.poison
    let d := if d.poisoned a.dev a.line then d else d.setPool fun p => { p with poison := p.poison ++ [poisonKey a.dev a.line] }
    if d.alive a.quay && !under then d.sendMem { a with goal := .poison, epoch := d.epoch } 0 0 (2 ^ 64 - 1) true else d

/-- A write of a line completes: its DPA leaves the poison list (R205). -/
def Dev.unlistPoison (a : MemAcc) (d : Dev) : Dev :=
  d.setPool fun p => { p with poison := p.poison.filter (· != poisonKey a.dev a.line) }

/-- The migrations whose target a line of a device lies in (R217). -/
def Dev.hitsTarget (d : Dev) (m line : Nat) (g : Mig) : Bool :=
  !g.finishing && !g.reversing && g.dstDev == m && decide (d.dpaLine m g.dstPage 0 ≤ line ∧ line < d.dpaLine m g.dstPage 32768)

/-- The accounting of a write that failed (R204 to R207): nothing is listed for a forwarded request, which names no DPA. A
migration whose target it was written to is to be aborted (R217). -/
def Dev.writeFailed (a : MemAcc) (cause host : Nat) (d : Dev) : Dev :=
  let w := writerOf a host
  match a.goal with
  | .forward x => d.reportFail 4 cause x.host 0xFF x.berth x.hpa 0
  | _ =>
    let p := d.whereIs a.key w
    let marked (g : Mig) : Mig := if d.hitsTarget a.dev a.line g then { g with failed := true } else g
    let d := d.setPool fun x => { x with migs := x.migs.map marked }
    (d.reportFail (kindOf a) cause w a.dev p.1 p.2 (64 * a.line)).listPoison a

/-! Reads and writes of lines (R90, R204, R213 to R215). -/

/-- The slot of the host whose data a transaction writes (R206): the one that returned them to a snoop, or the one it serves; 0xFF for
none. -/
def Tx.writer (t : Tx) : Nat :=
  match t.wb, t.serves with
  | some h, _ => h
  | none, .host r => r.acc.host
  | none, _ => 0xFF

/-- The writer of the transaction on a line. -/
def Dev.txHost (d : Dev) (s k : Nat) : Nat := (((d.slice s).txs.find? fun t => t.key == k).map Tx.writer).getD 0xFF

/-- A write of a line can be sent: its device's quay is not DOWN (R204), or the write is held. -/
def Dev.canWrite (d : Dev) (s k : Nat) : Bool :=
  match d.locate (d.indexOf k) (d.entryFor s (d.indexOf k)) (lineOfKey k % 32768) true with
  | .at dev _ => d.qstate (d.get (Obj.memdevQuay dev)) != 1
  | .held _ => true

/-- A write of a line to memory; one of the current bale of a migration is held (R213, R215), so that the line's copy read need
not wait for it, and one toward a quay that is DOWN fails at once (R204). -/
def Dev.memWrite (s k level data be : Nat) (poison : Bool) (goal : MemFor) (d : Dev) : Dev :=
  let index := d.indexOf k
  let i := lineOfKey k % 32768
  let d' := (match goal with
    | .clean _ _ => d.event (0xC200 + s) 0x28 1 {}
    | _ => d).countUse s index
  match d.locate index (d.entryFor s index) i true with
  | .at dev page =>
    let a := d.accAt s k index dev page (d.epochAt s index) true goal
    if d.canWrite s k then d'.sendMem a level data be poison else d'.writeFailed a 2 (d.txHost s k)
  | .held slot =>
    let a := { d.accAt s k index 0 0 (d.epochAt s index) true goal with id := d.pool.nextAcc }
    (d'.setPool fun p => { p with
      nextAcc := p.nextAcc + 1
      accesses := p.accesses ++ [a]
      migs := p.migs.map fun m => if m.slot = slot then { m with held := m.held ++ [⟨a, data, be, poison⟩], waits := m.waits.erase k }
                                 else m }).count
        Obj.writeStalls 1

/-- A read of a line from memory: sent to the device, unless its DPA is in the poison list, when the second result says
that it returns poison at once (R205); so does one toward a quay that is DOWN (R89, R130). -/
def Dev.memRead (s k level : Nat) (goal : MemFor) (d : Dev) : Dev × Bool :=
  let index := d.indexOf k
  let d' := d.countUse s index
  match d.locate index (d.entryFor s index) (lineOfKey k % 32768) false with
  | .at dev page =>
    let a := d.accAt s k index dev page (d.epochAt s index) false goal
    if d.poisoned dev a.line || d.qstate a.quay == 1 then (d', true) else (d'.sendMem a level 0 0 false, false)
  | .held _ => (d', true)

/-- The poisoned write of a line (R171, R205, R397). -/
def Dev.poisonWrite (s k level : Nat) (d : Dev) : Dev :=
  let index := d.indexOf k
  match d.locate index (d.entryFor s index) (lineOfKey k % 32768) true with
  | .at dev page =>
    let a := d.accAt s k index dev page d.epoch true .poison
    if d.canWrite s k then d.sendMem a level 0 (2 ^ 64 - 1) true else d.listPoison a
  | .held _ => d.memWrite s k level 0 (2 ^ 64 - 1) true .poison

/-! Walks (R186, R187). -/

/-- The page is being fenced (R191). -/
def Dev.fenced (d : Dev) (index : Nat) : Bool := d.pool.fences.any (·.index == index)

/-- Start a walk for an access, join the one that reads its Ledger line, or wait for one of 64. -/
def Dev.startWalk (s : Nat) (a : Access) (d : Dev) : Dev :=
  let line := a.index / 8
  if d.pool.walks.any (fun w => w.slice == s && w.line == line) then
    d.setPool fun p => { p with walks := p.walks.map fun w =>
      if w.slice = s ∧ w.line = line then { w with waiting := w.waiting ++ [a] } else w }
  else if 64 ≤ (d.pool.walks.filter (·.slice == s)).length then
    d.setPool fun p => { p with walkQueue := p.walkQueue ++ [(s, a)] }
  else
    let m := d.get Obj.ledgerDevice
    (d.setPool fun p => { p with walks := p.walks ++ [{ slice := s, line := line, epoch := d.epoch, waiting := [a] }] }).issue
      { quay := d.get (Obj.memdevQuay m), ini := .walk s line, unit := s, level := a.level
        msg := { chan := .m2sReq, op := .uncachedRd
                 addr := 64 * (d.dpaLine m (d.get Obj.ledgerDevicePage) line)
                 size := 64
                 source := d.get (Obj.memdevLd m) } }

/-- How a translation ends: the access goes on, waits, or has an outcome of Table 7.2. -/
inductive Translated where
  | ok
  | wait (d : Dev)
  | fault (code : Nat)

/-- R186, R191, Table 7.2: translate an access at its home slice. -/
def Dev.translate (d : Dev) (s : Nat) (a : Access) : Translated :=
  if d.fenced a.index then
    .wait (d.setPool fun p => { p with fences := p.fences.map fun f =>
      if f.index = a.index then { f with waiting := f.waiting ++ [a] } else f })
  else match (d.tlb s).find? (·.index == a.index) with
    | some t =>
      if d.devState (entryDev t.entry) = 1 ∧ entryPage t.entry < d.get (Obj.memdevPages (entryDev t.entry)) then .ok
      else .fault 5
    | none =>
      if d.devState (d.get Obj.ledgerDevice) = 2 then .fault 6 else .wait ((d.sliceEvent s 0x23 a).startWalk s a)

end Sys2Proof.Machine
end

