-- ==== Sys2Proof/Machine/Coherence.lean ====
section
/-!
DEFINITION. Home slices and coherence (R135 to R175): line states, the directory, home transactions, ring snoops,
back-invalidation, directory victims and Basins.
-/

namespace Sys2Proof.Machine

open Sys2Proof

/-! Reading and changing a slice. -/

def Dev.setSlice (s : Nat) (f : Slice → Slice) (d : Dev) : Dev :=
  d.setCoh fun c => { c with slices := Tab.set {} c.slices s (f (Tab.get {} c.slices s)) }

def Dev.setBasin (b : Nat) (f : Basin → Basin) (d : Dev) : Dev :=
  d.setCoh fun c => { c with basins := Tab.set {} c.basins b (f (Tab.get {} c.basins b)) }

def Dev.line (d : Dev) (s k : Nat) : Option SLine := (d.slice s).lines.find? (·.key == k)

/-- The victim buffer's copy of a line: the last one evicted. -/
def Dev.victim (d : Dev) (s k : Nat) : Option SLine := (d.slice s).victims.reverse.find? (·.key == k)

/-- The home's own copy in M, E or F, or in its victim buffer (R148). -/
def Dev.ownCopy (d : Dev) (s k : Nat) : Option SLine :=
  match d.line s k with
  | some l => if l.st = .s then none else some l
  | none => d.victim s k

def Dev.dropLine (s k : Nat) (d : Dev) : Dev :=
  d.setSlice s fun x => { x with lines := x.lines.filter (·.key != k) }

/-- A line becomes the most recently used of its slice. -/
def Dev.touchLine (s k : Nat) (d : Dev) : Dev :=
  d.setSlice s fun x => { x with lines := x.lines.filter (·.key != k) ++ x.lines.filter (·.key == k) }

def Dev.putLine (s : Nat) (l : SLine) (d : Dev) : Dev :=
  d.setSlice s fun x => { x with lines := x.lines.filter (·.key != l.key) ++ [l] }

def Dev.tx (d : Dev) (s k : Nat) : Option Tx := (d.slice s).txs.find? (·.key == k)

def Dev.setTx (s k : Nat) (f : Tx → Tx) (d : Dev) : Dev :=
  d.setSlice s fun x => { x with txs := x.txs.map fun t => if t.key = k then f t else t }

def Dev.dirEnt (d : Dev) (s k : Nat) : Option DirEnt := (d.slice s).dir.find? (·.key == k)

def Dev.setDir (s k : Nat) (f : DirEnt → DirEnt) (d : Dev) : Dev :=
  d.setSlice s fun x => { x with dir := x.dir.map fun e => if e.key = k then f e else e }

def Dev.dropDir (s k : Nat) (d : Dev) : Dev :=
  d.setSlice s fun x => { x with dir := x.dir.filter (·.key != k) }

/-- Sets of Table 6.1. -/
def cacheSet (k : Nat) : Nat := bits k 4 13
def dirSet (k : Nat) : Nat := bits k 4 16

/-- BASIN_STATE: 0 UNUSED, 1 UP, 2 DOWN, 3 RESETTING, 4 FLUSH_WINDOW. -/
def Dev.basinState (d : Dev) (b : Nat) : Nat := d.get (Obj.basinState b)

/-- The home set in force. -/
def Dev.homeSet (d : Dev) (b : Nat) : List Nat := (List.range (d.basin b).setSize).map ((d.basin b).setBase + ·)

/-- The home set that the objects name. -/
def Dev.nextSet (d : Dev) (b : Nat) : List Nat :=
  (List.range (d.get (Obj.homeSetSize b))).map (d.get (Obj.homeSetBase b) + ·)

/-- The members of a Basin. -/
def Dev.membersOf (d : Dev) (b : Nat) : List Nat := maskBits (d.get (Obj.members b)) 64

/-- The hosts that may hold the line of an entry (R144). -/
def Dev.holders (d : Dev) (e : DirEnt) : List Nat :=
  if e.ovf then d.membersOf (basinOfKey e.key) else e.ptrs

/-- The near slice of a quay (R21): ⌊w / 2⌋, or the next that is active when it is fenced. -/
def Dev.nearSlice (d : Dev) (q : Nat) : Nat :=
  if !d.sliceFenced (q / 8) then q / 8
  else ((List.range 16).map (fun i => (q / 8 + i) % 16)).find? (fun s => d.get (Obj.sliceState s) == 0) |>.getD (q / 8)

/-! Installing and evicting lines (R140, R156). -/

/-- The home evicts a line in M: it goes to the victim buffer and is written back (R156); with no way to its memory device
the write-back fails at once. -/
def Dev.evictM (s : Nat) (l : SLine) (d : Dev) : Dev :=
  (d.setSlice s fun x => { x with
    lines := x.lines.filter (·.key != l.key), victims := if d.canWrite s l.key then x.victims ++ [l] else x.victims }).memWrite
      s l.key 0 l.data (2 ^ 64 - 1) l.poison (.clean l.writer l.data)

/-- A prefetched line is dropped before any use (R210). -/
def Dev.dropPrefetch (s k : Nat) (d : Dev) : Dev :=
  if d.pool.prefetched.contains (s, k) then
    (d.setPool fun p => { p with prefetched := p.prefetched.filter (· != (s, k)) }).count Obj.prefetchUnused 1
  else d

/-- A line is used: it counts no longer as an unused prefetch. -/
def Dev.usePrefetch (s k : Nat) (d : Dev) : Dev :=
  d.setPool fun p => { p with prefetched := p.prefetched.filter (· != (s, k)) }

/-- Install a line in a slice cache of 16 ways per set; `none` when no way may be used: every line of the set is pinned,
or the one to go is in M and the victim buffer is full. The way taken is the lowest free one, or that of the line least
recently used. -/
def Dev.install (s : Nat) (l : SLine) (d : Dev) : Option Dev :=
  let set := (d.slice s).lines.filter fun x => cacheSet x.key == cacheSet l.key
  match set.find? (·.key == l.key), (List.range 16).find? fun w => set.all (·.way != w) with
  | some x, _ => some (d.putLine s { l with way := x.way })
  | none, some w => some (d.putLine s { l with way := w })
  | none, none => match set.find? (fun x => (d.tx s x.key).isNone) with
    | none => none
    | some v =>
      let l := { l with way := v.way }
      if v.st = .m then if 64 ≤ (d.slice s).victims.length then none else some ((d.evictM s v).putLine s l)
      else some (((d.dropPrefetch s v.key).dropLine s v.key).putLine s l)

/-- Merge a write's data into a line by its byte enables. -/
def mergeBytes (old new be : Nat) : Nat :=
  ((List.range 64).map fun i => (if bitAt be i then byteAt new i else byteAt old i) * 2 ^ (8 * i)).sum

/-! Ring snoops (R153). -/

/-- Send ring snoops of a kind to slices; each counts at the home, that of a broadcast in the home's place too (DESIGN CHOICE, log entry
102). -/
def Dev.ringSend (home k : Nat) (kind : RingKind) (targets : List Nat) (d : Dev) : Dev :=
  ((d.setCoh fun c => { c with snoops := c.snoops ++ targets.map fun t => { home := home, target := t, key := k, kind := kind } }).count
    (Obj.ringSnoopsIssued home) targets.length).event (0xC200 + home) 0x24 targets.length {}

/-- A BISnp to a host: to its quay unless that is DOWN (Table 4.3) or has no back-invalidate snoops in training (R56; the snoop
timeout then runs, DESIGN CHOICE, log entry 99); to a member behind another device by that device's PBR ID (R103), with Type 8
where there is no route (R99). BISnpInv is written as an ownership request, BISnpData as a shared read. -/
def Dev.sendBisnp (s k : Nat) (inv : Bool) (h : Nat) (d : Dev) : Dev :=
  let m : Msg := { chan := .biSnp, addr := k, dest := h, source := s, op := if inv then .ownRd else .sharedRd }
  let sent (d : Dev) : Dev := (d.event (0xC200 + s) 0x25 1 {}).send (.biSnp h k inv)
  if d.get (Obj.slotKind h) = 2 then
    let id := d.get (Obj.slotSource h)
    let e := d.sendPbr s 3 { m with dest := id, source := d.get Obj.fabricId }
    if (d.route none id).isSome then sent e else e
  else match d.hostQuay h with
    | some q => if d.alive q && (d.quay q).bi then sent (d.unitToQuay s q 3 { msg := m, made := true }) else d
    | none => d

/-- The slices of the home set other than the home; a fenced slice answers nothing (R22). -/
def Dev.peersOf (d : Dev) (s k : Nat) : List Nat := (d.homeSet (basinOfKey k)).filter fun n => n != s && !d.sliceFenced n

/-! The directory after a request (Table 6.4, R144, R145). -/

/-- Add a host to the pointers of an entry. -/
def DirEnt.add (e : DirEnt) (h : Nat) : DirEnt :=
  if e.ovf ∨ e.ptrs.contains h then { e with hs := .shared }
  else if e.ptrs.length < 4 then { e with hs := .shared, ptrs := e.ptrs ++ [h] }
  else { e with hs := .shared, ovf := true }

/-- The entry after a request has been served. -/
def DirEnt.after (e : DirEnt) (op : MemOp) (h : Nat) : DirEnt :=
  match op with
  | .sharedRd =>
    if e.hs = .excl ∧ e.ptrs = [h] then { e with hs := .shared } else e.add h
  | .ownRd | .memInv => { e with hs := .excl, ptrs := [h], ovf := false, peer := false }
  | .uncachedRd => if e.hs = .excl ∧ e.ptrs ≠ [h] then { e with hs := .shared } else e
  | .write => { e with hs := .none, ptrs := [], ovf := false, peer := false }
  | .writeKeepS => { e with hs := .shared, ptrs := [h], ovf := false, peer := false }
  | .cleanEvict =>
    if e.ovf then e
    else { e with ptrs := e.ptrs.filter (· != h), hs := if e.ptrs.all (· == h) then .none else e.hs }
  | .none => e

/-- Free an entry that no host holds and no peer may hold (R145). -/
def Dev.freeIfUnused (s k : Nat) (d : Dev) : Dev :=
  match d.dirEnt s k with
  | some e => if e.hs = .none ∧ !e.peer then d.dropDir s k else d
  | none => d

/-- A free way of a directory set. -/
def Dev.freeWay (d : Dev) (s set : Nat) : Option Nat :=
  let used := ((d.slice s).dir.filter (fun e => dirSet e.key == set)).map (·.way)
  (List.range 16).find? (fun w => !used.contains w)

/-- The request adds a host pointer for its line (R160). -/
def addsPointer : MemOp → Bool
  | .sharedRd | .ownRd | .memInv | .writeKeepS => true
  | _ => false

/-- Use of a way in a set, for the pseudo-LRU. -/
def Dev.touchWay (s set w : Nat) (d : Dev) : Dev :=
  d.setSlice s fun x =>
    let l := Tab.get (List.range 16) x.lru set
    { x with lru := Tab.set (List.range 16) x.lru set (l.filter (· != w) ++ [w]) }

/-! Planning a transaction (Table 6.4, R201, R202). -/

/-- The host of a request in the directory: an internal access is never recorded there (R142). -/
def holderOf (a : Access) : Nat := if a.internal then 64 else a.host

/-- The stages of a request on a Basin line. A copy read of a migration asks only a host that holds the line in EXCL (R215). -/
def Dev.planBasin (d : Dev) (s : Nat) (a : Access) : List Stage :=
  let e := (d.dirEnt s a.key).getD { key := a.key, way := 0, hs := .none, ptrs := [] }
  let mine := e.hs == .excl && e.ptrs == [holderOf a]
  let others := (d.holders e).filter (· != holderOf a)
  if a.copyOf.isSome then (if e.hs = .excl then [.bisnp e.ptrs false, .writeBack, .copied] else [.copied])
  else match a.op with
  | .sharedRd | .uncachedRd =>
    if mine then [.readMem, .respond]
    else if e.hs = .excl then [.bisnp others false, .writeBack, .supply, .readMem, .respond, .nearCopy]
    else [.supply, .readMem, .respond, .nearCopy]
  | .ownRd =>
    if mine then [.readMem, .respond]
    else [.bisnp others true, .writeBack, .supply, .ringInv, .dropHome, .readMem, .respond]
  | .memInv => if mine then [.respond] else [.bisnp others true, .writeBack, .ringInv, .dropHome, .respond]
  | .write | .writeKeepS =>
    if mine then [.ringInv, .dropHome, .writeMem, .respond]
    else [.bisnp others true, .writeBack, .ringInv, .dropHome, .writeMem, .respond]
  | _ => [.respond]

/-- The write policy of an access to a private line: 0 write-back, 1 write-through, 2 uncached (R202). -/
def Dev.policyOf (d : Dev) (a : Access) : Nat :=
  if a.attr = 2 then 2 else if a.attr = 1 ∨ d.get (Obj.writeThrough (berthOfKey a.key)) = 1 then 1 else 0

/-- The access is a write. -/
def isWrite : MemOp → Bool
  | .write | .writeKeepS => true
  | _ => false

/-- All 64 bytes. -/
abbrev allBytes : Nat := 0xFFFFFFFFFFFFFFFF

/-- The stages of a request on a private line: a read is served from the home's copy when there is one. -/
def Dev.planPrivate (d : Dev) (s : Nat) (a : Access) : List Stage :=
  if a.copyOf.isSome then [.copied]
  else if isWrite a.op then
    match d.policyOf a with
    | 0 => if a.be = allBytes ∨ (d.ownCopy s a.key).isSome then [.fill] else [.readMem, .fill]
    | 1 => [.writeMem, .through]
    | _ => [.writeMem, .dropHome, .respond]
  else if a.op = .memInv ∨ a.op = .cleanEvict ∨ a.op = .none then [.respond]
  else if d.policyOf a = 2 ∨ (d.ownCopy s a.key).isSome then [.supply, .readMem, .respond]
  else [.readMem, .fill]

/-- The data a private write puts in memory: merged with the home's copy when there is one (R202). -/
def Dev.writeData (d : Dev) (s : Nat) (a : Access) : Nat × Nat :=
  match d.ownCopy s a.key with
  | some l => if isBasinKey a.key then (a.data, a.be) else (mergeBytes l.data a.data a.be, allBytes)
  | none => (a.data, a.be)

/-- The data of a private write stays poisoned when a part of the line does. -/
def Dev.writePoison (d : Dev) (s : Nat) (a : Access) : Bool :=
  a.poison || (!isBasinKey a.key && ((d.ownCopy s a.key).map (·.poison)).getD false && decide (a.be ≠ allBytes))

/-! The stages (R146 to R152). -/

/-- Data for a request that its home serves from a copy of its own: a hit of its slice cache. -/
def Dev.serveCopy (s k : Nat) (l : SLine) (a : Access) (d : Dev) : Dev :=
  ((d.setTx s k fun t => { t with data := some l.data, poison := l.poison, supplier := some s }).touchLine s k).sliceEvent s 0x21 a

/-- A private line is read from memory because of a miss: the prefetcher watches it (R209). -/
def Dev.noteMiss (s k : Nat) (d : Dev) : Dev :=
  let lvl := d.get Obj.prefetchInForce
  let blk := k / 64
  if isBasinKey k || lvl == 0 || d.get (Obj.prefetchable (berthOfKey k)) == 0 || entryNoPrefetch (d.ledgerAt (d.indexOf k)) then d
  else
    let near := d.pool.misses.filter fun m => m.1 == s && m.2.1 == blk && decide (d.time ≤ m.2.2 + d.get Obj.prefetchWindow)
    if near.length + 1 < (if lvl = 1 then 3 else 2) then
      d.setPool fun p => { p with misses := p.misses.filter (fun m => decide (d.time ≤ m.2.2 + d.get Obj.prefetchWindow)) ++ [(s, blk, d.time)] }
    else
      let last := if lvl = 1 then blk else min (blk + 3) (k / 32768 * 512 + 511)
      let keys := ((List.range (64 * (last + 1) - 64 * blk)).map (64 * blk + ·)).filter (· != k)
      (d.setPool fun p => { p with misses := p.misses.filter (fun m => !(m.1 == s && m.2.1 == blk))
                                   hints := p.hints ++ keys.map fun x => (d.homeOf x, x) }).count Obj.prefetchIssued keys.length

/-- The request of a transaction that serves a host. -/
def Tx.req (t : Tx) : Option HReq :=
  match t.serves with
  | .host r => some r
  | _ => none

/-- The level of a transaction's traffic: that of its request. -/
def Tx.level (t : Tx) : Nat := (t.req.map (·.acc.level)).getD 0

/-- A memory read for a transaction; a poisoned DPA answers at once. The prefetcher watches those that misses cause (R209). -/
def Dev.txRead (s : Nat) (t : Tx) (d : Dev) : Dev :=
  let r := (if t.serves = .prefetch then d else d.noteMiss s t.key).memRead s t.key t.level .tx
  if r.2 then r.1.setTx s t.key fun t => { t with data := some 0, poison := true }
  else
    let e := r.1.setTx s t.key fun t => { t with mem := true }
    match t.req with
    | some q => e.sliceEvent s 0x22 q.acc
    | none => e.event (0xC200 + s) 0x22 1 {}

/-- A write for a transaction has failed: a Crane access that it serves ends with WRITE_FAILED (Table 8.4). -/
def Dev.txFails (t : Option Tx) (d : Dev) : Dev :=
  match t.bind Tx.req with
  | some r => d.pieceFails 8 0 r.acc
  | none => d

/-- A memory write for a transaction, which waits for it unless it fails at once. -/
def Dev.txWrite (s : Nat) (t : Tx) (data be : Nat) (poison : Bool) (d : Dev) : Dev :=
  let sent := d.canWrite s t.key
  let d := (d.memWrite s t.key t.level data be poison .tx).setTx s t.key fun t => { t with mem := sent, wb := if sent then t.wb else none }
  if sent then d else d.txFails (some t)

/-- The request is served with near-sharer supply (R151). -/
def nearSupplyOf (a : Access) : Bool := (a.entered.map (·.1)).getD false

/-- The request may cause a near copy (R150). -/
def nearCopyOf (a : Access) : Bool := (a.entered.map (·.2)).getD false

/-- Supply (R148, R151, R153): data in hand, the home's own copy, the near slice, or the F holder; memory alone once a write that
crossed a snoop has made the slice copies out of date. A home that is the near slice itself never supplies from its copy in S, and
starts the broadcast (R148; DEDUCED, log entry 121). -/
def Dev.doSupply (s : Nat) (t : Tx) (r : HReq) (d : Dev) : Dev :=
  if t.data.isSome || t.stale then d
  else match d.ownCopy s t.key with
    | some l => d.serveCopy s t.key l r.acc
    | none =>
      if ((d.dirEnt s t.key).map (·.peer)).getD false then
        let n := d.nearSlice r.acc.quay
        if nearSupplyOf r.acc && n != s then
          (d.ringSend s t.key .directed [n]).setTx s t.key fun t => { t with ring := [n] }
        else
          (d.ringSend s t.key .read (d.peersOf s t.key)).setTx s t.key fun t => { t with ring := d.peersOf s t.key }
      else d

/-- The last response and the directory after it. -/
def Dev.doRespond (s : Nat) (t : Tx) (r : HReq) (d : Dev) : Dev :=
  let d := if t.supplier.isSome && t.supplier != some s then (if r.acc.chk = 0 then d else d.closeCheck r.acc.chk)
    else d.answerFrom s r.acc (t.data.getD 0) t.poison
  if isBasinKey t.key then
    ((d.setDir s t.key fun e => e.after r.acc.op (holderOf r.acc)).freeIfUnused s t.key)
  else d

/-- R150: start a near copy when its conditions hold. A read that memory supplied has no supplying slice, so that the home can take
the copy when it is N (DESIGN CHOICE, log entry 102). -/
def Dev.doNear (s : Nat) (t : Tx) (r : HReq) (d : Dev) : Dev :=
  let n := d.nearSlice r.acc.quay
  if nearCopyOf r.acc && r.acc.op == .sharedRd && !t.poison && (d.homeSet (basinOfKey t.key)).contains n && t.supplier != some n &&
      (d.line n t.key).isNone && (d.victim n t.key).isNone then
    d.setTx s t.key fun t => { t with near := some n }
  else d

/-- A private line is filled (R201): the read's line in E, or a write's merged line in M with its writer. With no way to install it
the transaction waits (R156); a copy that a partial write was to be merged into and that has left the slice meanwhile is read from
memory. -/
def Dev.doFill (s : Nat) (t : Tx) (r : HReq) (d : Dev) : Dev :=
  let a := r.acc
  let blocked := d.setTx s t.key fun t => { t with blocked := true, stages := .fill :: t.stages }
  if !isWrite a.op then
    if t.poison then d.answerFrom s a 0 true
    else match d.install s { key := t.key, st := .e, data := t.data.getD 0 } with
      | some e => e.answerFrom s a (t.data.getD 0) false
      | none => blocked
  else
    if a.be ≠ allBytes ∧ (d.ownCopy s t.key).isNone ∧ t.data.isNone then
      d.setTx s t.key fun t => { t with stages := .readMem :: .fill :: t.stages }
    else
    let old := ((d.ownCopy s t.key).map (·.data)).getD (t.data.getD 0)
    let bad := ((d.ownCopy s t.key).map (·.poison)).getD t.poison && decide (a.be ≠ allBytes)
    match d.install s { key := t.key, st := .m, data := mergeBytes old a.data a.be, poison := bad || a.poison, writer := a.host } with
    | some e => e.answerFrom s a 0 false
    | none => blocked

/-- A write-through has reached memory: the home's copy is in E with the new value (R202). -/
def Dev.doThrough (s : Nat) (t : Tx) (r : HReq) (d : Dev) : Dev :=
  let a := r.acc
  (match d.line s t.key with
    | some l => d.putLine s { l with
        st := .e, data := mergeBytes l.data a.data a.be, poison := d.writePoison s a, writer := a.host }
    | none => d).answerFrom s a 0 false

/-- A prefetched line is installed in E (R210); one that cannot be is lost before any use, and counted. -/
def Dev.doKeep (s : Nat) (t : Tx) (d : Dev) : Dev :=
  let kept := if t.poison then none else d.install s { key := t.key, st := .e, data := t.data.getD 0 }
  match kept with
  | some e => e.setPool fun p => { p with prefetched := p.prefetched ++ [(s, t.key)] }
  | none => d.count Obj.prefetchUnused 1

/-- The copy read of a line of a migration's bale has followed what was open on the line (R214); a host that held it in EXCL keeps
it shared (Table 6.4). -/
def Dev.doCopied (s k slot : Nat) (d : Dev) : Dev :=
  (d.setDir s k fun e => if e.hs = .excl then { e with hs := .shared } else e).setPool fun p => { p with
    migs := p.migs.map fun g => if g.slot = slot then { g with waits := g.waits.erase k } else g }

/-- A write-back of the line is open. -/
def Dev.cleaning (d : Dev) (s k : Nat) : Bool :=
  d.pool.accesses.any fun a => a.slice == s && a.key == k && a.write && kindOf a == 1

/-- A write of the line's data for a transaction is on its way to memory. -/
def Dev.writing (d : Dev) (s k : Nat) : Bool :=
  d.pool.accesses.any fun a => a.slice == s && a.key == k && a.write && a.goal == MemFor.tx

/-- A request's data are written to memory; those of a private line after a write-back of it that is under way (R202). -/
def Dev.doWrite (s : Nat) (t : Tx) (r : HReq) (d : Dev) : Dev :=
  if !isBasinKey t.key && d.cleaning s t.key then d.setTx s t.key fun t => { t with blocked := true, stages := .writeMem :: t.stages }
  else d.txWrite s t (d.writeData s r.acc).1 (d.writeData s r.acc).2 (d.writePoison s r.acc)

/-- One stage of a transaction. -/
def Dev.doStage (s : Nat) (t : Tx) (st : Stage) (d : Dev) : Dev :=
  let k := t.key
  match st with
  | .bisnp hosts inv =>
    let ovf := ((d.dirEnt s k).map (·.ovf)).getD false
    ((hosts.foldl (fun d h => d.sendBisnp s k inv h) d).count Obj.overflowSnoopCount (if ovf then 1 else 0)).setTx s k
      fun t => { t with snps := hosts }
  | .writeBack =>
    match t.returned with
    | none => d
    | some v => (d.setTx s k fun t => { t with data := some v, returned := none }).txWrite s t v allBytes false
  | .poison => (d.poisonWrite s k 0).count (Obj.lostLines (basinOfKey k)) 1
  | .supply => match t.req with
    | some r => d.doSupply s t r
    | none => d
  | .readMem => if t.data.isSome then d else d.txRead s t
  | .ringInv =>
    if ((d.dirEnt s k).map (·.peer)).getD false then
      ((d.ringSend s k .invalidate (d.peersOf s k)).setTx s k fun t => { t with ring := d.peersOf s k }).setDir s k
        fun e => { e with peer := false }
    else d
  | .dropHome => d.dropLine s k
  | .writeMem => match t.req with
    | some r => d.doWrite s t r
    | none => d
  | .respond => match t.req with
    | some r => d.doRespond s t r
    | none => d
  | .nearCopy => match t.req with
    | some r => d.doNear s t r
    | none => d
  | .free => d.dropDir s k
  | .fill => match t.req with
    | some r => d.doFill s t r
    | none => d
  | .through => match t.req with
    | some r => d.doThrough s t r
    | none => d
  | .keep => d.doKeep s t
  | .copied => match t.req.bind (·.acc.copyOf) with
    | some slot => d.doCopied s k slot
    | none => d

/-- The transaction awaits something; a write that crossed its snoop is in memory before it goes on (DEDUCED, log entry 108). -/
def Tx.waits (t : Tx) : Bool :=
  decide (t.ring ≠ []) || decide (t.snps ≠ []) || t.near.isSome || t.mem || t.blocked || decide (t.cross ≠ 0)

/-! Opening transactions, directory victims (R160 to R162). -/

/-- Open a transaction for a host's request. -/
def Dev.openTx (s : Nat) (r : HReq) (d : Dev) : Dev :=
  let a := r.acc
  let d := d.usePrefetch s a.key
  let d := if isBasinKey a.key && addsPointer a.op && (d.dirEnt s a.key).isNone then
      match d.freeWay s (dirSet a.key) with
      | some w => (d.setSlice s fun x => { x with dir := x.dir ++ [{ key := a.key, way := w, hs := .none, ptrs := [] }] }).touchWay
          s (dirSet a.key) w
      | none => d
    else d
  let d := match d.dirEnt s a.key with
    | some e => d.touchWay s (dirSet a.key) e.way
    | none => d
  d.setSlice s fun x => { x with txs := x.txs ++
    [{ key := a.key, serves := .host r, stages := if isBasinKey a.key then d.planBasin s a else d.planPrivate s a }] }

/-- The ways of a set whose entry's line has no open transaction. -/
def Dev.unpinned (d : Dev) (s set : Nat) : List DirEnt :=
  (d.slice s).dir.filter fun e => dirSet e.key == set && (d.tx s e.key).isNone

/-- A set's victim is being cleared. -/
def Dev.victimOpen (d : Dev) (s set : Nat) : Bool :=
  (d.slice s).txs.any fun t => match t.serves with
    | .victim x _ => x == set
    | _ => false

/-- The pseudo-LRU choice among the unpinned ways of a set (R162). -/
def Dev.lruWay (d : Dev) (s set : Nat) : Option Nat :=
  let free := (d.unpinned s set).map (·.way)
  (Tab.get (List.range 16) (d.slice s).lru set).find? (free.contains ·)

/-- Clear the holders of the entry in a way: a transaction on the victim's line (R160). -/
def Dev.startVictim (s set way : Nat) (d : Dev) : Dev :=
  match (d.unpinned s set).find? (·.way == way) with
  | none => d
  | some e => (d.event (0xC200 + s) 0x26 1 {}).setSlice s fun x => { x with txs := x.txs ++
      [{ key := e.key, serves := .victim set way, stages := [.bisnp (d.holders e) true, .writeBack, .ringInv, .free] }] }

/-- The subject of a function 3 decision: slice in bits 3 to 0 and set above (DESIGN CHOICE, log entry 102: the spec gives SUBJECT no
layout here); its proposal: the unpinned way with the fewest host pointers
(R162). -/
def victimSubject (s set : Nat) : Nat := s + 16 * set

def ptrCount (e : DirEnt) : Nat := if e.ovf then 64 else e.ptrs.length

def Dev.fewestWay (d : Dev) (s set : Nat) : Option Nat :=
  let l := d.unpinned s set
  (List.range 65).findSome? fun n => (List.range 16).find? fun w => l.any fun e => e.way == w && ptrCount e == n

/-- The way that a verdict chose for a set, or the pseudo-LRU choice when it has been pinned since (DESIGN CHOICE, log entry 102). -/
def Dev.pickedWay (d : Dev) (s set : Nat) : Option Nat :=
  let w := Tab.get 16 (d.slice s).picked set
  if w = 16 then none else if (d.unpinned s set).any (·.way == w) then some w else d.lruWay s set

/-- A set needs a victim (R160, R162): the way that a verdict has chosen; otherwise hardware mode takes the pseudo-LRU choice, and
host-assisted mode holds the operation, or takes the expiry default when 64 are pending (R42). -/
def Dev.needVictim (s set : Nat) (d : Dev) : Dev :=
  match d.lruWay s set, d.pickedWay s set with
  | none, _ => d
  | some _, some w => (d.setSlice s fun x => { x with picked := Tab.set 16 x.picked set 16 }).startVictim s set w
  | some w, none =>
    if !d.assisted 3 then d.startVictim s set w
    else if (d.pendingOf 3).any (·.subject == victimSubject s set) then d
    else if d.canHold 3 then d.hold [] (sourceId 10 s) 3 (victimSubject s set) ((d.fewestWay s set).getD w)
    else (d.overflow (sourceId 10 s) 3 (victimSubject s set)).startVictim s set w

/-- Function 3 operations whose set has no waiting request left close (R162). -/
def Dev.closeStaleVictims (d : Dev) : Dev :=
  let d := d.setModes fun m => { m with decisions := m.decisions.filter fun x =>
    x.fn != 3 || (d.slice (x.subject % 16)).alloc.any (fun p => p.1 == x.subject / 16) }
  d.forEach ((List.range 16).filter fun s => (d.slice s).picked ≠ []) fun s d => d.setSlice s fun x => { x with
    picked := x.picked.filter fun q => x.alloc.any fun p => p.1 == q.1 }

/-- A request that waits for a directory way needs none any more: its line has an entry, or a transaction that it waits behind
(R161). -/
def Dev.needsNone (d : Dev) (s : Nat) (p : Nat × HReq) : Bool :=
  (d.tx s p.2.acc.key).isSome || (d.dirEnt s p.2.acc.key).isSome

/-- A request of the allocation wait queue: it goes on when it needs no way or its set has one, otherwise a victim is sought. -/
def Dev.pumpAlloc (s : Nat) (p : Nat × HReq) (d : Dev) : Dev :=
  if d.needsNone s p || (d.freeWay s p.1).isSome then
    let e := d.setSlice s fun x => { x with alloc := x.alloc.erase p }
    (if (d.tx s p.2.acc.key).isSome then e.setSlice s fun x => { x with conflict := x.conflict ++ [(p.2.acc.key, p.2)] }
     else e.openTx s p.2).closeStaleVictims
  else if d.victimOpen s p.1 then d else d.needVictim s p.1

/-- The heads of a wait queue: one per set of the allocation wait queue, or per line of the line-conflict queue. -/
def fifoHeads : List Nat → List (Nat × HReq) → List (Nat × HReq)
  | _, [] => []
  | seen, p :: rest => if seen.contains p.1 then fifoHeads seen rest else p :: fifoHeads (p.1 :: seen) rest

/-- Close a transaction (R152): its entry is freed when nothing holds the line, and a fill that waited for a way of its
cache set is tried again. -/
def Dev.closeTx (s k : Nat) (d : Dev) : Dev :=
  let free (t : Tx) : Tx := if cacheSet t.key = cacheSet k then { t with blocked := false } else t
  (d.setSlice s fun x => { x with txs := (x.txs.filter (·.key != k)).map free }).freeIfUnused s k

/-- A request needs a directory way and has to wait for one: there is none, or others wait for a way of its set (R161). -/
def Dev.needsWay (d : Dev) (s : Nat) (a : Access) : Bool :=
  isBasinKey a.key && addsPointer a.op && (d.dirEnt s a.key).isNone &&
    ((d.freeWay s (dirSet a.key)).isNone || (d.slice s).alloc.any (fun p => p.1 == dirSet a.key))

/-- A request is placed at its home (R146): behind an open transaction it waits in the line-conflict queue; one that needs
a directory way waits for it when there is none, or behind others that wait for a way of its set (R161). -/
def Dev.placeReq (s : Nat) (r : HReq) (d : Dev) : Dev :=
  let a := r.acc
  if (d.tx s a.key).isSome then d.setSlice s fun x => { x with conflict := x.conflict ++ [(a.key, r)] }
  else if d.needsWay s a then
    ((d.sliceEvent s 0x27 a).setSlice s fun x => { x with alloc := x.alloc ++ [(dirSet a.key, r)] }).count Obj.backpressureCount
      (if (d.unpinned s (dirSet a.key)) = [] then 1 else 0)
  else d.openTx s r

/-- A write to a Basin that is not UP is counted (Table 6.8). -/
def Dev.rejectWrite (a : Access) (d : Dev) : Dev :=
  if isWrite a.op && !a.internal then d.count (Obj.rejectedWrites (basinOfKey a.key)) 1 else d

/-- BIConflicts of a host for a line that waited for its conflicting request are acknowledged (R159). -/
def Dev.ackConflict (s k h : Nat) (d : Dev) : Dev :=
  if (d.slice s).conflicts.any (fun p => p.1 == k && p.2.1 == h) then
    (d.setSlice s fun x => { x with conflicts := x.conflicts.filter fun p => !(p.1 == k && p.2.1 == h) }).send (.biConflictAck h k)
  else d

/-- A BIConflict whose conflicting request is a read waits for the read to arrive, and is then acknowledged (R159). -/
def Dev.ackRead (s k h : Nat) (d : Dev) : Dev :=
  if (d.slice s).conflicts.any (fun p => p == (k, h, false)) then d.ackConflict s k h else d

/-- The open transaction of the line has a BISnp to the host outstanding (R158). -/
def Dev.snooping (d : Dev) (s k h : Nat) : Bool := ((d.tx s k).map fun t => t.snps.contains h).getD false

/-- A write that crossed a snoop has ended: its host is answered, and its BIConflict acknowledged (R158, R159). -/
def Dev.endCross (s k : Nat) (x : Access) (d : Dev) : Dev :=
  ((d.answerFrom s x 0 false).setTx s k fun t => { t with crossed := x.host :: t.crossed, cross := t.cross - 1 }).ackConflict s k
    x.host

/-- The data of a write that crossed a snoop, as the snoop's data (R158): merged into those of an earlier one; of a part of a line
alone they are the memory's once the write is there. -/
def Tx.crossing (t : Tx) (a : Access) : Tx :=
  let t := { t with cross := t.cross + 1 }
  if a.be = allBytes then { t with data := some a.data, poison := a.poison, stale := true }
  else match t.data with
    | some v => { t with data := some (mergeBytes v a.data a.be), poison := t.poison || a.poison, stale := true }
    | none => { t with stale := true }

/-- R158: a write from a host whose BISnp is outstanding goes to memory at once, and its data serve as the snoop's data. It leaves no
copy in the home (R141). The writer keeps a pointer only if its metadata keeps S. -/
def Dev.crossWrite (s : Nat) (a : Access) (d : Dev) : Dev :=
  let sent := d.canWrite s a.key
  let d := ((d.dropLine s a.key).memWrite s a.key a.level a.data a.be a.poison (.cross a)).setTx s a.key fun t => t.crossing a
  let d := if a.op = .write then d.setDir s a.key fun e => e.after .cleanEvict a.host else d
  if sent then d else d.endCross s a.key a

/-- A clean eviction (Table 6.4): the requester's pointer is removed, and the request is completed. The entry of a line with
an open transaction stays until it closes. -/
def Dev.cleanEvict (s : Nat) (a : Access) (d : Dev) : Dev :=
  let d := (d.setDir s a.key fun e => e.after .cleanEvict a.host).setTx s a.key fun t => { t with crossed := a.host :: t.crossed }
  ((if (d.tx s a.key).isSome then d else d.freeIfUnused s a.key).answerFrom s a 0 false).ackConflict s a.key a.host

/-- A request on a Basin line by the Basin's state (Table 6.8). -/
def Dev.enterBasin (s : Nat) (a : Access) (d : Dev) : Dev :=
  let b := basinOfKey a.key
  let r : HReq := { acc := a, epoch := d.epochAt s a.index }
  if d.basinState b = 1 then
    if isWrite a.op && d.snooping s a.key (holderOf a) then d.crossWrite s a
    else if a.op = .cleanEvict ∧ (d.snooping s a.key a.host ∨ (d.tx s a.key).isNone) then d.cleanEvict s a
    else (d.placeReq s r).ackRead s a.key a.host
  else if d.basinState b = 3 ∧ isWrite a.op ∧ !d.sliceFenced s ∧ d.snooping s a.key (holderOf a) then d.crossWrite s a
  else if d.basinState b = 4 ∧ isWrite a.op ∧ !a.internal then
    let e := d.memWrite s a.key a.level a.data a.be a.poison (.flushWrite a)
    if d.canWrite s a.key then e else e.answerFrom s a 0 false
  else ((d.pieceFails 7 0 a).refuseAccess s a).rejectWrite a

/-- A request on a private line (R142, R201, R202): answered from the home's copy when it can be, else a transaction. -/
def Dev.enterPrivate (s : Nat) (a : Access) (d : Dev) : Dev :=
  match d.tx s a.key, d.ownCopy s a.key with
  | none, some l =>
    if isRead a.op then (((d.usePrefetch s a.key).touchLine s a.key).sliceEvent s 0x21 a).answerFrom s a l.data l.poison
    else d.placeReq s { acc := a, epoch := d.epochAt s a.index }
  | _, _ => d.placeReq s { acc := a, epoch := d.epochAt s a.index }

/-- The line's slot is changing holder (R139, R257): its home is PARKING or FENCED, or it goes back to the slice that is
UNPARKING. -/
def Dev.moving (d : Dev) (k : Nat) : Bool :=
  !isBasinKey k &&
  (d.get (Obj.sliceState (d.homeOf k)) == 1 || d.get (Obj.sliceState (d.homeOf k)) == 4 ||
    match d.modes.unpark with
    | [] => false
    | u :: _ => d.get (Obj.sliceState u) == 3 && foldKey k % 16 == u && d.homeOf k != u)

/-- What a request samples as it enters its home (R150, R151, R165, R175). -/
def Dev.entering' (d : Dev) (a : Access) : Access :=
  if a.entered.isSome then a
  else { a with entered := some (d.get Obj.nearSharerInForce == 1 && d.get (Obj.privilegedQuay a.quay) == 1 && !a.internal,
                                 d.get (Obj.nearCopy (basinOfKey a.key)) == 1 && !a.internal) }

/-- The request is held at ingress: its line moves (R32), or a host's request waits for the slices to return from Lull (R36). -/
def Dev.holds (d : Dev) (a : Access) : Bool := d.moving a.key || (d.power == 1 && !a.internal)

/-- A home takes a request: translated first (Table 1.7), then ordered with the others on its line. A Basin that is not UP answers
before translation (Table 6.8). A request to a line whose slot is moving is held. -/
def Dev.admitAccess (s : Nat) (a : Access) (d : Dev) : Dev :=
  if d.holds a then d.setCoh fun c => { c with held := c.held ++ [a] }
  else
  let d := if a.entered.isNone then d.sliceEvent s 0x20 a else d
  let a := d.entering' a
  if isBasinKey a.key ∧ d.basinState (basinOfKey a.key) ≠ 1 ∧ d.basinState (basinOfKey a.key) ≠ 3 ∧
      d.basinState (basinOfKey a.key) ≠ 4 then d.enterBasin s a
  else match d.translate s a with
    | .wait e => e
    | .fault code => d.decodeFault s code a
    | .ok => if isBasinKey a.key then d.enterBasin s a else d.enterPrivate s a

/-- R171: the transaction of the reset walk for one directory entry. -/
def Dev.walkStages (d : Dev) (b : Nat) (e : DirEnt) : List Stage :=
  let dead := (d.basin b).dead
  let live := (d.holders e).filter (!dead.contains ·)
  (if e.hs = .excl ∧ e.ptrs.any (dead.contains ·) then [.poison] else []) ++
    [.bisnp live true, .writeBack, .ringInv, .free]

/-- The entries that the reset walk still has to visit in a slice (R171). -/
def Dev.toWalk (d : Dev) (s : Nat) : List DirEnt :=
  (d.slice s).dir.filter fun e => d.basinState (basinOfKey e.key) == 3 && (d.tx s e.key).isNone

/-- A waiting request that the allocation wait queue lets go on: one that needs no way, or the head of a set's queue. -/
def Dev.allocReady (d : Dev) (s : Nat) : Option (Nat × HReq) :=
  let x := d.slice s
  match x.alloc.find? fun p => d.needsNone s p && ((d.tx s p.2.acc.key).isNone || decide (x.conflict.length < 1024)) with
  | some p => some p
  | none => (fifoHeads [] x.alloc).find? fun p => (d.freeWay s p.1).isSome ||
      (!d.victimOpen s p.1 && (d.lruWay s p.1).isSome && !(d.pendingOf 3).any (·.subject == victimSubject s p.1))

/-- A request that the slice can place while its home tracker has room: the next of a line, a waiting one, an entry of the
reset walk, or the next of its channels. -/
def Dev.sliceOpens (s : Nat) (d : Dev) : Option Dev :=
  let x := d.slice s
  match (fifoHeads [] x.conflict).find? (fun p => (d.tx s p.1).isNone && (!d.needsWay s p.2.acc || decide (x.alloc.length < 512))) with
  | some p => some ((d.setSlice s fun x => { x with conflict := x.conflict.erase p }).placeReq s p.2)
  | none => match d.allocReady s with
    | some p => some (d.pumpAlloc s p)
    | none => match d.toWalk s, x.door with
      | e :: _, _ =>
        let b := basinOfKey e.key
        some (d.setSlice s fun x => { x with txs := x.txs ++ [{ key := e.key, serves := .walk b, stages := d.walkStages b e }] })
      | [], a :: rest => if x.opens then some ((d.setSlice s fun x => { x with door := rest }).admitAccess s a) else none
      | [], [] => none

/-- One thing that a slice can do without waiting: a stage or the close of a transaction, or a request that it can place. A fenced
slice does nothing (Table 14.6). -/
def Dev.slicePass (s : Nat) (d : Dev) : Option Dev :=
  if d.sliceFenced s then none
  else match (d.slice s).txs.find? (fun t => !t.waits) with
  | some t =>
    match t.stages with
    | [] => some (d.closeTx s t.key)
    | st :: rest => some ((d.setTx s t.key fun t => { t with stages := rest }).doStage s t st)
  | none => if (d.slice s).hasRoom then d.sliceOpens s else none

/-- Carry a slice on until everything waits. -/
def Dev.pumpN : Nat → Nat → Dev → Dev
  | 0, _, d => d
  | n + 1, s, d => match d.slicePass s with
    | none => d
    | some e => Dev.pumpN n s e

/-- Enough passes for every request the slice holds. -/
def Dev.pump (s : Nat) (d : Dev) : Dev :=
  let x := d.slice s
  d.pumpN (24 * (x.txs.length + x.conflict.length + x.alloc.length + x.door.length + (d.toWalk s).length + 1)) s

/-- A verdict or an expiry has chosen a victim way: it is cleared as soon as the home tracker has room (R135, R162). -/
def Dev.takeVictim (s set w : Nat) (d : Dev) : Dev :=
  (d.setSlice s fun x => { x with picked := Tab.set 16 x.picked set w }).pump s

/-! Basins (R163 to R173). -/

/-- The payload of a BASIN event (Table 14.9). -/
def Dev.basinPayload (d : Dev) (b : Nat) : Nat :=
  b + d.basinState b * 2 ^ 8 + d.get (Obj.downCause b) * 2 ^ 16 + d.get (Obj.downTime b) * 2 ^ 64

/-- The event rings of the PFs of a Basin's local members. -/
def Dev.memberRings (d : Dev) (b : Nat) : List Nat :=
  (d.membersOf b).filterMap fun h => if d.get (Obj.slotKind h) = 1 then d.pfOf (d.get (Obj.slotSource h)) else none

/-- A Basin event to its members and the managers. -/
def Dev.basinEvent (b : Nat) (d : Dev) : Dev :=
  d.raiseTo (d.memberRings b) (info (sourceId 12 b) 0x8004 0 0xFFFF (d.basinPayload b))

/-- A Basin becomes UP with no entries, under the home set of its objects (R164, R165). -/
def Dev.basinUp (b : Nat) (d : Dev) : Dev :=
  (d.put (Obj.basinState b) 1).setBasin b fun _ =>
    { setBase := d.get (Obj.homeSetBase b), setSize := d.get (Obj.homeSetSize b) }

/-- The key is a line of the Basin. -/
def ofBasin (b k : Nat) : Bool := isBasinKey k && basinOfKey k == b

/-- The request of a transaction has had its response: from the home, or its data from another slice (R148, R152). -/
def Tx.answered (t : Tx) (s : Nat) : Bool := !t.stages.contains .respond || (t.supplier.isSome && t.supplier != some s)

/-- Requests of a Basin that wait in a slice for their response. -/
def Slice.basinReqs (x : Slice) (s b : Nat) : List Access :=
  ((x.txs.filter fun t => ofBasin b t.key && !t.answered s).filterMap fun t => t.req.map (·.acc)) ++
  ((x.conflict.filter fun p => ofBasin b p.1).map (·.2.acc)) ++
  ((x.alloc.filter fun p => ofBasin b p.2.acc.key).map (·.2.acc)) ++
  (x.door.filter fun a => ofBasin b a.key)

/-- The accesses of a slice for transactions of a Basin that end: a read's answer is discarded, and a write that has been
sent ends for itself. -/
def orphanOf (b s : Nat) (a : MemAcc) : Option MemAcc :=
  if a.goal = .tx ∧ a.slice = s ∧ ofBasin b a.key then
    if a.write then some { a with goal := .flushWrite { host := 0xFF, tag := 0, key := a.key, index := a.index, op := .write
                                                        internal := true } }
    else none
  else some a

/-- R168 in one slice: every open or waiting request of the Basin ends unperformed; REJECTED_WRITES counts the waiting writes among them
(DESIGN CHOICE, log entry 102). -/
def Dev.endBasinIn (b s : Nat) (d : Dev) : Dev :=
  let reqs := (d.slice s).basinReqs s b
  let d := d.setSlice s fun x => { x with
    txs := x.txs.filter fun t => !ofBasin b t.key
    conflict := x.conflict.filter fun p => !ofBasin b p.1
    alloc := x.alloc.filter fun p => !ofBasin b p.2.acc.key
    door := x.door.filter fun a => !ofBasin b a.key
    conflicts := x.conflicts.filter fun p => !ofBasin b p.1 }
  let d := d.setPool fun p => { p with
    accesses := p.accesses.filterMap (orphanOf b s)
    migs := p.migs.map fun g => { g with waits := g.waits.filter (!ofBasin b ·) } }
  reqs.foldl (fun d a => ((d.pieceFails 7 0 a).refuseAccess s a).rejectWrite a) d

/-- R168: everything open of a Basin ends in the slices of its home set, and later answers to its snoops are discarded. -/
def Dev.endBasin (b : Nat) (d : Dev) : Dev :=
  let d := d.setCoh fun c => { c with snoops := c.snoops.filter fun r => !ofBasin b r.key
                                      answers := c.answers.filter fun r => !ofBasin b r.key }
  (d.forEach (d.homeSet b) fun s d => d.endBasinIn b s).closeStaleVictims

/-- A Basin falls: it is UP, and a service mode is in force; in any other mode its state is kept as it was (R173). -/
def Dev.falls (d : Dev) (b : Nat) : Bool := d.basinState b == 1 && d.service

/-- R166 to R168: a Basin that is UP goes DOWN. The event is left to the caller. -/
def Dev.basinFall (b cause : Nat) (d : Dev) : Dev :=
  if d.falls b then
    let d := (d.putAll [(Obj.basinState b, 2), (Obj.downCause b, cause), (Obj.downTime b, d.time), (Obj.lostLines b, 0),
      (Obj.rejectedWrites b, 0)]).count (Obj.downCount b) 1
    (d.endBasin b).forEach (d.homeSet b) Dev.pump
  else d

/-- A Basin goes DOWN and its event is raised. -/
def Dev.basinDown (b cause : Nat) (d : Dev) : Dev :=
  if d.falls b then (d.basinFall b cause).basinEvent b else d

/-- The host that DOWN_CAUSE names, if any (Table 6.7). -/
def causeHost (c : Nat) : Option Nat := if c / 4096 = 1 then some (c % 4096) else none

/-- Unparks go one at a time (Table 2.4): the first slice of the list is UNPARKING. -/
def Dev.nextUnpark (d : Dev) : Dev :=
  match d.modes.unpark with
  | [] => d
  | s :: _ => d.putIf (d.get (Obj.sliceState s) == 2) (Obj.sliceState s) 3

/-- Slices are to be unparked, in increasing number. -/
def Dev.unparkAll (l : List Nat) (d : Dev) : Dev :=
  (d.setModes fun m => { m with unpark := m.unpark ++ l.filter fun s => !m.unpark.contains s }).nextUnpark

/-- Slices of the set that the objects name that are parked, or are parking or returning. -/
def Dev.parkedOf (d : Dev) (b : Nat) : List Nat :=
  (d.nextSet b).filter fun s => decide (1 ≤ d.get (Obj.sliceState s) ∧ d.get (Obj.sliceState s) ≤ 3)

/-- R164: the parked slices of a Basin's set are unparked first; with none parked the Basin becomes UP at once. -/
def Dev.enableBasin (b : Nat) (d : Dev) : Dev :=
  if d.parkedOf b = [] then d.basinUp b
  else (d.setBasin b fun x => { x with enabling := true }).unparkAll (d.parkedOf b)

/-- A slice of the set that the objects name is FENCED. -/
def Dev.setFenced (d : Dev) (b : Nat) : Bool := (d.nextSet b).any d.sliceFenced

/-- A Basin that has been reset or flushed becomes UP as under R164, with an event when it is. It becomes UP only with every slice
active (R139): with one fenced meanwhile it is DOWN again (DESIGN CHOICE, log entry 102). -/
def Dev.openBasin (b : Nat) (d : Dev) : Dev :=
  if d.setFenced b then (d.putAll [(Obj.basinState b, 2), (Obj.lostLines b, 0), (Obj.rejectedWrites b, 0)]).basinEvent b
  else
    let e := d.enableBasin b
    if d.parkedOf b = [] then e.basinEvent b else e

/-- R171: the walk begins on every slice of the old home set that is not fenced. -/
def Dev.startWalkOf (b : Nat) (dead : List Nat) (disabling : Bool) (d : Dev) : Dev :=
  let d := (d.put (Obj.basinState b) 3).setBasin b fun x => { x with dead := dead, disabling := disabling }
  d.forEach ((d.homeSet b).filter fun s => !d.sliceFenced s) Dev.pump

/-- A slice of the set in force after the reset is FENCED or PARKING (R170). -/
def Dev.setBusy (d : Dev) (b : Nat) : Bool :=
  (d.nextSet b).any fun s => d.get (Obj.sliceState s) == 4 || d.get (Obj.sliceState s) == 1

/-- BASIN_RESET (R170, R171). -/
def actBasinReset (b : Nat) : Act :=
  { check := fun _ _ d => if d.basinState b ≠ 2 ∨ !d.service then Status.wrongMode
      else if d.setBusy b then Status.busy else Status.success
    effect := fun _ _ _ d => d.startWalkOf b ((causeHost (d.get (Obj.downCause b))).toList ++ (d.basin b).removed) false }

def execBasinReset (c : Call) (b : Fin 64) (v : Nat) (s : State) : Host.Outcome State Fault Refusal :=
  writeRow (actBasinReset b) c (Obj.basinReset b) v s

/-- The walk of the Basin is not over: one of its transactions is open, or a write to memory is outstanding (R171). -/
def Dev.walking (d : Dev) (b : Nat) : Bool :=
  ((List.range 16).any fun s => (d.slice s).txs.any (fun t => t.serves == .walk b) ||
    (!d.sliceFenced s && (d.toWalk s).any fun e => ofBasin b e.key)) ||
  d.pool.accesses.any fun a => a.write && ofBasin b a.key

/-- RESET_WALK_END (R171): every slice copy of the Basin's lines is invalidated, and the Basin becomes UP, FLUSH_WINDOW
when a slice was the cause, or UNUSED after BASIN_ENABLE = 0. Outside the service modes its state is kept (R173). -/
def effResetWalkEnd (b : Nat) (d : Dev) : Dev :=
  if d.basinState b = 3 ∧ d.service ∧ !d.walking b ∧ !(d.basin b).enabling then
    let d := d.forEach (d.homeSet b) fun s d => d.setSlice s fun x => { x with
      lines := x.lines.filter fun l => !ofBasin b l.key, dir := x.dir.filter fun e => !ofBasin b e.key }
    if (d.basin b).disabling then ((d.put (Obj.basinState b) 0).setBasin b fun _ => {}).basinEvent b
    else
      let c := d.get (Obj.downCause b) / 4096
      if c = 1 ∨ c = 4 then d.openBasin b else (d.put (Obj.basinState b) 4).basinEvent b
  else d

def execResetWalkEnd (b : Fin 64) (s : State) : Host.Outcome State Fault Refusal := liveLift (effResetWalkEnd b) s

/-- BASIN_OPEN (R172), in a service mode (R173); BUSY with a FENCED slice in the set, as R164 (DEDUCED, log entry 108). -/
def actBasinOpen (b : Nat) : Act :=
  { check := fun _ _ d => if d.basinState b ≠ 4 ∨ !d.service then Status.wrongMode
      else if d.setFenced b then Status.busy else Status.success
    effect := fun _ _ _ d => d.openBasin b }

def execBasinOpen (c : Call) (b : Fin 64) (v : Nat) (s : State) : Host.Outcome State Fault Refusal :=
  writeRow (actBasinOpen b) c (Obj.basinOpen b) v s

/-- R163: the home set is aligned and names no absent slice. -/
def setOk (p : Part) (base size : Nat) : Bool :=
  decide (base % size = 0) && decide (base + size ≤ (if p = .w512 then 16 else 12))

/-- The object of a BASIN_CONFIG_WRITE. -/
def basinObj (b : Nat) : BasinObj → Nat
  | .homeSetBase => Obj.homeSetBase b
  | .homeSetSize => Obj.homeSetSize b
  | .members => Obj.members b
  | .snoopTimeout => Obj.snoopTimeout b
  | .nearCopy => Obj.nearCopy b

/-- The Basin is UP, RESETTING or FLUSH_WINDOW. -/
def Dev.basinLive (d : Dev) (b : Nat) : Bool := d.basinState b == 1 || d.basinState b == 3 || d.basinState b == 4

/-- BASIN_CONFIG_WRITE (R163, R165): statuses in the order of Table 10.12. -/
def actBasinConfig (b : Nat) (w : BasinObj) : Act :=
  { check := fun _ v d => match w with
      | .homeSetBase => if !setOk d.part v (d.get (Obj.homeSetSize b)) then Status.badValue
          else if d.basinLive b then Status.busy else Status.success
      | .homeSetSize => if !setOk d.part (d.get (Obj.homeSetBase b)) v then Status.badValue
          else if d.basinLive b then Status.busy else Status.success
      | .members => if d.basinLive b && Nat.land (d.get (Obj.members b)) v != d.get (Obj.members b) then Status.busy
          else Status.success
      | _ => Status.success
    effect := fun _ v _ d =>
      let gone := (d.membersOf b).filter fun h => !bitAt v h
      let d := if w = .members ∧ d.basinState b = 2 then d.setBasin b fun x => { x with removed := x.removed ++ gone } else d
      d.put (basinObj b w) v }

def execBasinConfigWrite (c : Call) (b : Fin 64) (what : BasinObj) (v : Nat) (s : State) :
    Host.Outcome State Fault Refusal := writeRow (actBasinConfig b what) c (basinObj b what) v s

/-- BASIN_ENABLE_WRITE (R164, R173): 1 on an UNUSED Basin makes it UP in a service mode, and waits for the next entry to
one otherwise; 0 on a Basin that is UP or DOWN starts the reset walk with no dead host, in a service mode: in any other the state
is kept. The open and waiting requests of an UP Basin end before the walk as under R168 (DESIGN CHOICE, log entry 102). -/
def actBasinEnable (b : Nat) : Act :=
  { check := fun _ v d => if v = 1 ∧ d.basinState b = 0 ∧ (d.nextSet b).any (fun s => d.get (Obj.sliceState s) == 4)
      then Status.busy else Status.success
    effect := fun _ v _ d =>
      let d := d.put (Obj.basinEnable b) v
      if v = 1 then if d.basinState b = 0 ∧ d.service then d.enableBasin b else d
      else if d.service ∧ (d.basinState b = 1 ∨ d.basinState b = 2) then
        (if d.basinState b = 1 then d.endBasin b else d).startWalkOf b [] true
      else d.setBasin b fun x => { x with enabling := false } }

def execBasinEnableWrite (c : Call) (b : Fin 64) (v : Nat) (s : State) : Host.Outcome State Fault Refusal :=
  writeRow (actBasinEnable b) c (Obj.basinEnable b) v s

/-! Requests that reach a home. -/

/-- A request reaches its home slice: it is taken, or waits in its slice channel while the slice takes none (R147). -/
def Dev.arrive (s : Nat) (a : Access) (d : Dev) : Dev :=
  if (d.slice s).takesRequests || d.holds a then (d.admitAccess s a).pump s
  else d.setSlice s fun x => { x with door := x.door ++ [a] }

/-- The slice that takes a request for a line: its home, and in FLUSH_WINDOW, for a home that is fenced, the lowest active slice,
which writes it to memory directly (R172; DESIGN CHOICE, log entry 102). -/
def Dev.doorOf (d : Dev) (k : Nat) : Nat :=
  if isBasinKey k && d.basinState (basinOfKey k) == 4 && d.get (Obj.sliceState (d.homeOf k)) != 0 then
    ((List.range 16).find? fun s => d.get (Obj.sliceState s) == 0).getD (d.homeOf k)
  else d.homeOf k

/-- The requests that were held go to the homes of their lines (R32). -/
def Dev.admitHeld (d : Dev) : Dev :=
  d.coh.held.foldl (fun d a => d.arrive (d.doorOf a.key) a) (d.setCoh fun c => { c with held := [] })

/-- The access that a Basin request command names, with the check of the one delivered to the slice if it is there. -/
def Dev.basinAccess (d : Dev) (b line : Nat) (r : BasinReq) : Access :=
  let k := basinKey b line
  match d.net.inbox.find? (fun i => i.acc.key == k && i.acc.host == r.host.val && i.acc.tag == r.tag) with
  | some i => i.acc
  | none => { host := r.host, tag := r.tag, quay := r.quay, key := k, index := d.indexOf k, op := r.op, data := r.data, be := r.be
              master := r.host }

/-- Take a request out of the slice channels. -/
def Dev.takeInbox (a : Access) (d : Dev) : Dev :=
  d.setNet fun n => { n with inbox := n.inbox.filter fun i => !(i.acc == a) }

/-- A request that the crossbar has delivered to a slice that is fenced now, which takes it no more (Table 14.6). -/
def Dev.stranded (d : Dev) (a : Access) : Bool := d.net.inbox.any fun i => i.acc == a && d.sliceFenced i.slice

/-- HOST_BASIN_REQUEST (R146). -/
def effHostBasinRequest (b line : Nat) (r : BasinReq) (d : Dev) : Dev :=
  let a := d.basinAccess b line r
  if d.stranded a then d
  else (d.takeInbox a).arrive (d.doorOf a.key) a

/-! Ring snoops at a slice (R153 to R155). -/

/-- The supplier sends the data directly to the requester's quay (R148). -/
def Dev.supplyFrom (n home k : Nat) (l : SLine) (near : Bool) (d : Dev) : Dev :=
  match (d.tx home k).bind Tx.req with
  | none => d
  | some r =>
    let d := d.answerFrom n { r.acc with chk := 0 } l.data l.poison
    let d := d.setTx home k fun t => { t with supplier := some n }
    if near then d.count (Obj.nearSharerSupplies n) 1 else d.count (Obj.peerSupplies n) 1

/-- The answer of a slice to one ring snoop, and its effect there (Table 6.6, R151). A slice that is not in the home set
or holds nothing starts the broadcast of a directed snoop in the home's place; RING_SNOOPS_ISSUED of the home counts it (DESIGN
CHOICE, log entry 102). -/
def Dev.answerSnoop (n : Nat) (r : RingSnoop) (d : Dev) : Dev :=
  let l := d.line n r.key
  let ans (data : Option Nat) (d : Dev) : Dev := d.setCoh fun c => { c with
    answers := c.answers ++ [{ home := r.home, origin := n, key := r.key, held := l.map (·.st), data := data }] }
  match r.kind, l with
  | .read, some x => if x.st = .f then ans (some x.data) (d.supplyFrom n r.home r.key x false) else ans none d
  | .read, none => ans none d
  | .directed, some x => ans (some x.data) (d.supplyFrom n r.home r.key x true)
  | .directed, none =>
    let rest := (d.peersOf r.home r.key).filter (· != n)
    ans none ((d.ringSend r.home r.key .read rest).setTx r.home r.key fun t => { t with ring := t.ring ++ rest })
  | .invalidate, some _ => ans none (d.dropLine n r.key)
  | .invalidate, none => ans none d

/-- RING_SNOOP_ARRIVAL (R154): a fenced slice takes no snoop (R22). -/
def effRingSnoopArrival (n k : Nat) (d : Dev) : Dev :=
  match d.coh.snoops.find? (fun r => r.target == n && r.key == k) with
  | none => d
  | some r => if d.sliceFenced n then d else (d.setCoh fun c => { c with snoops := c.snoops.erase r }).answerSnoop n r

def execRingSnoopArrival (s : Fin 16) (key : Nat) (st : State) : Host.Outcome State Fault Refusal :=
  liveLift (effRingSnoopArrival s key) st

/-- A ring answer reaches the home transaction that awaits it: data in hand when the slice supplied. A read snoop that
finds no copy in any other slice clears PEER (R145). -/
def Dev.ringAnswer (s : Nat) (a : RingAnswer) (d : Dev) : Dev :=
  let d := d.setTx s a.key fun t => { t with
    ring := t.ring.erase a.origin, data := if a.data.isSome then a.data else t.data
    crossed := if a.held.isSome then 64 :: t.crossed else t.crossed }
  match d.tx s a.key with
  | some t => if t.ring = [] ∧ !t.crossed.contains 64 ∧ t.supplier.isNone then d.setDir s a.key fun e => { e with peer := false }
              else d
  | none => d

/-- A snooped host's answer (R157 to R159): discarded when no BISnp for the line and host is outstanding. -/
def Dev.hostAnswer (s k h : Nat) (data : Option Nat) (d : Dev) : Dev :=
  if d.snooping s k h then
    d.setTx s k fun t => { t with
      snps := t.snps.filter (· != h), returned := if data.isSome then data else t.returned, wb := if data.isSome then some h else t.wb }
  else d

/-- SNOOP_ANSWER (R152): a ring answer or BIRsp reaches the home. A fenced home takes none (R22). -/
def effSnoopAnswer (s k : Nat) (a : SnoopAns) (d : Dev) : Dev :=
  if d.sliceFenced s then d
  else match a with
  | .ring n => match d.coh.answers.find? (fun x => x.home == s && x.origin == n.val && x.key == k) with
    | none => d
    | some x => ((d.setCoh fun c => { c with answers := c.answers.erase x }).ringAnswer s x).pump s
  | .host h data => (d.hostAnswer s k h data).pump s

def execSnoopAnswer (s : Fin 16) (key : Nat) (a : SnoopAns) (st : State) : Host.Outcome State Fault Refusal :=
  liveLift (effSnoopAnswer s key a) st

/-- The former holder of a line in M, E or F drops to S (R150). -/
def Dev.demote (n k : Nat) (d : Dev) : Dev :=
  d.forEach ((List.range 16).filter (· != n)) fun s d => match d.line s k with
    | some l => if l.st = .s then d else d.putLine s { l with st := .s }
    | none => d

/-- NEAR_COPY_ACK (R150), unless the home is fenced: N has installed the line in F, or made no copy for want of a way. -/
def effNearCopyAck (s k : Nat) (d : Dev) : Dev :=
  match if d.sliceFenced s then none else d.tx s k with
  | none => d
  | some t => match t.near with
    | none => d
    | some n =>
      let d := d.setTx s k fun t => { t with near := none }
      let room := ((d.dirEnt s k).isSome || n == s) && !d.sliceFenced n
      match (if room then d.install n { key := k, st := .f, data := t.data.getD 0 } else none) with
      | none => d.pump s
      | some e =>
        let e := if n = s then e else e.setDir s k fun x => { x with peer := true }
        (e.demote n k).pump s

def execNearCopyAck (s : Fin 16) (key : Nat) (st : State) : Host.Outcome State Fault Refusal :=
  liveLift (effNearCopyAck s key) st

/-- A write or a clean eviction of a host that waits behind the transaction whose BISnp it conflicts with is ordered before it
(R159): it leaves the line-conflict queue and is carried out. -/
def Dev.overtake (s k h : Nat) (d : Dev) : Dev :=
  match (d.slice s).conflict.find? fun p => p.1 == k && p.2.acc.host == h && (isWrite p.2.acc.op || p.2.acc.op == .cleanEvict) with
  | none => d
  | some p =>
    let d := d.setSlice s fun x => { x with conflict := x.conflict.erase p }
    if !d.snooping s k h then d.setSlice s fun x => { x with conflict := p :: x.conflict }
    else if isWrite p.2.acc.op then (d.crossWrite s p.2.acc).pump s
    else (d.cleanEvict s p.2.acc).pump s

/-- BICONFLICT (R159): acknowledged at once for a read that has arrived, or for a write that has completed; otherwise it
waits. -/
def effBiconflict (s k h : Nat) (kind : ConflictKind) (d : Dev) : Dev :=
  let done : Bool := match kind with
    | .read => (d.slice s).conflict.any fun p => p.1 == k && p.2.acc.host == h
    | .write => ((d.tx s k).map fun t : Tx => t.crossed.contains h).getD false
  if d.sliceFenced s then d
  else if done then d.send (.biConflictAck h k)
  else
    let d := d.setSlice s fun x => { x with conflicts := x.conflicts ++ [(k, h, kind == ConflictKind.write)] }
    if kind = .write then d.overtake s k h else d

def execBiconflict (s : Fin 16) (key : Nat) (host : Fin 64) (k : ConflictKind) (st : State) :
    Host.Outcome State Fault Refusal := liveLift (effBiconflict s key host k) st

/-- PEER_COPY_DROP (R155): a slice other than the home drops an S or F copy without a message. -/
def effPeerCopyDrop (s k : Nat) (d : Dev) : Dev :=
  match d.line s k with
  | some l => if isBasinKey k ∧ !d.sliceFenced s ∧ d.homeOf k ≠ s ∧ (l.st = .s ∨ l.st = .f) then d.dropLine s k else d
  | none => d

def execPeerCopyDrop (s : Fin 16) (key : Nat) (st : State) : Host.Outcome State Fault Refusal :=
  liveLift (effPeerCopyDrop s key) st

/-- M_LINE_EVICTION (R156): unless the victim buffer is full or a transaction holds the line. -/
def effMLineEviction (s k : Nat) (d : Dev) : Dev :=
  match d.line s k with
  | some l => if l.st = .m ∧ !d.sliceFenced s ∧ (d.slice s).victims.length < 64 ∧ (d.tx s k).isNone then d.evictM s l else d
  | none => d

def execMLineEviction (s : Fin 16) (key : Nat) (st : State) : Host.Outcome State Fault Refusal :=
  liveLift (effMLineEviction s key) st

/-- A host that does not answer during the walk becomes dead, and an EXCL line of it is poisoned (R171). -/
def Dev.walkTimeout (s k h : Nat) (b : Nat) (d : Dev) : Dev :=
  let excl := ((d.dirEnt s k).map fun e => e.hs == .excl && e.ptrs.contains h).getD false
  ((d.setBasin b fun x => { x with dead := if x.dead.contains h then x.dead else x.dead ++ [h] }).setTx s k fun t =>
    { t with snps := t.snps.filter (· != h), stages := if excl then .poison :: t.stages else t.stages }).pump s

/-- The timer of a snoop that is outstanding runs out. -/
def Dev.outstanding (d : Dev) (s k : Nat) : SnoopTarget → Bool
  | .host h => d.snooping s k h
  | .slice n => ((d.tx s k).map fun t => t.ring.contains n.val).getD false

/-- DOWN_CAUSE of a snoop that was not answered (Table 6.7). -/
def timeoutCause : SnoopTarget → Nat
  | .host h => 0x1000 + h
  | .slice n => 0x2000 + n

/-- SNOOP_TIMEOUT_EXPIRY (R166, R167, R171): the Basin goes DOWN, with Type 28 as its event; in the reset walk the host is
dead. Outside the service modes nothing follows: the Basin is kept as it was (R173; DEDUCED, log entry 108). -/
def effSnoopTimeoutExpiry (s k : Nat) (who : SnoopTarget) (d : Dev) : Dev :=
  if d.outstanding s k who ∧ d.service then
    let b := basinOfKey k
    if d.basinState b = 1 then
      let d := d.basinFall b (timeoutCause who)
      d.err { typ := 28, inst := b, unit := b, report := d.basinPayload b }
    else match who with
      | .host h => d.walkTimeout s k h b
      | .slice n => (d.setTx s k fun t => { t with ring := t.ring.filter (· != n.val) }).pump s
  else d

def execSnoopTimeoutExpiry (s : Fin 16) (key : Nat) (who : SnoopTarget) (st : State) : Host.Outcome State Fault Refusal :=
  liveLift (effSnoopTimeoutExpiry s key who) st

/-! The end of a memory access. -/

/-- Fills that waited for the victim buffer are tried again (R156). -/
def Dev.retryFills (s : Nat) (d : Dev) : Dev :=
  (d.setSlice s fun x => { x with txs := x.txs.map fun t => { t with blocked := false } }).pump s

/-- A flush is over when its last write-back has completed or failed (R203). -/
def Dev.flushed (id : Nat) (d : Dev) : Dev :=
  let l := d.pool.flushes.map fun f => (f.1, f.2.1, f.2.2.filter (· != id))
  let finished := l.filter fun f => f.2.2 = []
  finished.foldl (fun d f => d.answerReady f.1 f.2.1 0 0) (d.setPool fun p => { p with flushes := l.filter fun f => f.2.2 ≠ [] })

/-- A write-back of a line in M has completed (R156, R203): a victim leaves the buffer; a line that has not been written
again is clean. -/
def Dev.cleaned (a : MemAcc) (data : Nat) (ok : Bool) (d : Dev) : Dev :=
  (d.setSlice a.slice fun x => { x with
    victims := x.victims.eraseP fun l => l.key == a.key
    lines := if ok then x.lines.map fun l => if l.key = a.key ∧ l.st = .m ∧ l.data = data then { l with st := .e } else l
             else x.lines.filter fun l => !(l.key == a.key && l.data == data) }).flushed a.id |>.retryFills a.slice

/-- How a memory access ends for its goal: `data` of a read with `poison`, or a write performed or not. -/
def Dev.memEnds (a : MemAcc) (ok : Bool) (data : Nat) (poison : Bool) (d : Dev) : Dev :=
  match a.goal with
  | .tx => ((if a.write then d.flushed a.id else d).setTx a.slice a.key fun t => { t with
      mem := false, wb := if a.write then none else t.wb, data := if a.write then t.data else some data, poison := if a.write then t.poison else poison }).pump a.slice
  | .cross x => d.endCross a.slice a.key x
  | .clean _ v => d.cleaned a v ok
  | .flushWrite x => d.answerFrom a.slice x 0 false
  | .poison => d.unlistPoison a
  | .forward x => d.answerFrom a.slice x data (poison || (isRead x.op && !ok))

/-- A memory access ends well: a good write takes its DPA out of the poison list (R205). A fenced slice does not take the
answer. -/
def Dev.memDone (a : MemAcc) (data : Nat) (poison : Bool) (d : Dev) : Dev :=
  let d := if a.write then d.unlistPoison a else d
  if d.unheard a then d else (d.dropAcc a.id).memEnds a true data poison

/-- The writer of the transaction that an access serves, for its report. -/
def Dev.hostOf (d : Dev) (a : MemAcc) : Nat := d.txHost a.slice a.key

/-- The access writes a line of a Basin whose reset walk runs. -/
def Dev.walkWrite (d : Dev) (a : MemAcc) : Bool := a.write && isBasinKey a.key && d.basinState (basinOfKey a.key) == 3

/-- A memory access fails (R91, R204, R207): causes 1 timeout, 2 quay down, 3 device error. A read gives poison to each
waiting host; a failed write is listed and reported, and its host is answered at the failure; the line of one still outstanding in
a reset walk that times out counts as lost (R171). A poisoned write that fails leaves its DPA listed. -/
def Dev.memFailed (a : MemAcc) (cause : Nat) (d : Dev) : Dev :=
  let host := d.hostOf a
  let lost := d.walkWrite a && cause == 1
  if d.unheard a then d
  else
  let d := d.dropAcc a.id
  if a.goal = .poison then
    if d.poisoned a.dev a.line then d
    else if 1024 ≤ d.pool.poison.length then d.poisonListFull a
    else d.setPool fun p => { p with poison := p.poison ++ [poisonKey a.dev a.line] }
  else
    let d := (if a.write then (d.writeFailed a cause host).txFails (if a.goal = .tx then d.tx a.slice a.key else none) else d).count (Obj.lostLines (basinOfKey a.key)) (b2n lost)
    d.memEnds a false 0 true

/-- The open access of an initiator. -/
def Dev.accOf (d : Dev) (id : Nat) : Option MemAcc := d.pool.accesses.find? (·.id == id)

/-- The open request of an access. -/
def Dev.origOf (d : Dev) (id : Nat) : Option Orig := d.net.orig.find? fun o => o.ini == .mem id

/-- The tag slot of an access is closed. -/
def Dev.closeOrig (id : Nat) (d : Dev) : Dev :=
  match d.origOf id with
  | some o => ((d.noteDone o).dropOrig o).issueWaiting o.quay
  | none => d

end Sys2Proof.Machine
end

