-- ==== Sys2Proof/Machine/Pool.lean ====
section
/-!
DEFINITION. Pooled memory (R176 to R223): slots and berths, the Ledger, fences and barriers, allocation, release and zeroing,
failed writes, prefetch, migration and tiering.
-/

namespace Sys2Proof.Machine

open Sys2Proof

/-! Runs of the Ledger (R177). -/

/-- 2 MiB pages of a berth's window. -/
def pagesOf (base limit : Nat) : Nat := (limit + 1 - base) / 2097152

def Dev.berthPages (d : Dev) (n : Nat) : Nat := pagesOf (d.get (Obj.berthBase n)) (d.get (Obj.berthLimit n))

/-- An enabled private berth. -/
def Dev.privateBerth (d : Dev) (n : Nat) : Bool := d.get (Obj.berthEnable n) == 1 && d.get (Obj.berthKind n) == 0

/-- Two runs of a first entry and a length have an entry in common. -/
def runsMeet (a b : Nat × Nat) : Bool := decide (a.1 < b.1 + b.2) && decide (b.1 < a.1 + a.2)

/-- The Ledger runs of the enabled private berths other than one, and of all spans. -/
def Dev.otherRuns (d : Dev) (n : Nat) : List (Nat × Nat) :=
  (((List.range 1024).filter fun m => m != n && d.privateBerth m).map fun m => (d.get (Obj.ledgerFirst m), d.berthPages m)) ++
  (List.range 64).map fun b => (d.get (Obj.spanLedgerFirst b), d.get (Obj.spanPages b))

/-- R177: a berth with a window base and limit meets the conditions of an enabled berth. -/
def Dev.berthOk (d : Dev) (n base limit : Nat) : Bool :=
  decide ((limit + 1) % 0x10000000 = 0 ∧ base % 0x10000000 = 0 ∧ base + 0x10000000 ≤ limit + 1 ∧ limit + 1 ≤ base + 2 ^ 44) &&
  ((List.range 16).map (16 * (n / 16) + ·)).all (fun m => m == n || d.get (Obj.berthEnable m) == 0 ||
    decide (limit < d.get (Obj.berthBase m) ∨ d.get (Obj.berthLimit m) < base)) &&
  (d.get (Obj.berthKind n) != 0 ||
    (decide (d.get (Obj.ledgerFirst n) + pagesOf base limit ≤ d.get Obj.ledgerEntries) &&
     (d.otherRuns n).all fun r => r.2 == 0 || !runsMeet r (d.get (Obj.ledgerFirst n), pagesOf base limit)))

/-- A VALID entry of a run lies in its pages from `lo` on. -/
def Dev.validBeyond (d : Dev) (first pages lo : Nat) : Bool :=
  d.pool.ledger.any fun e => entryValid e.2 && decide (first + lo ≤ e.1 ∧ e.1 < first + pages)

/-! Slots (R176). -/

/-- Any berth of the slot is enabled. -/
def Dev.slotInUse (d : Dev) (h : Nat) : Bool := (List.range 16).any fun j => d.get (Obj.berthEnable (16 * h + j)) == 1

/-- Another slot is bound to the same quay or ID. -/
def Dev.sourceTaken (d : Dev) (h kind source : Nat) : Bool :=
  kind != 0 && (List.range 64).any fun g => g != h && d.get (Obj.slotKind g) == kind && d.get (Obj.slotSource g) == source

/-- SLOT_BINDING_WRITE: SLOT_KIND or SLOT_SOURCE. -/
def actSlot (h : Nat) (source : Bool) : Act :=
  { check := fun _ v d =>
      let kind := if source then d.get (Obj.slotKind h) else v
      let src := if source then v else d.get (Obj.slotSource h)
      if d.sourceTaken h kind src ∨ (kind = 1 ∧ 127 < src) then Status.badValue
      else if d.slotInUse h then Status.busy else Status.success
    effect := fun _ v _ d => d.put (if source then Obj.slotSource h else Obj.slotKind h) v }

def execSlotBindingWrite (c : Call) (h : Fin 64) (source : Bool) (v : Nat) (s : State) : Host.Outcome State Fault Refusal :=
  writeRow (actSlot h source) c (if source then Obj.slotSource h else Obj.slotKind h) v s

/-! Fences (R191, R192). -/

/-- Slices that are not fenced: a fenced one writes nothing back, and its dirty lines are left to its mirror (R397). -/
def Dev.ableSlices (d : Dev) : List Nat := (List.range 16).filter fun s => !d.sliceFenced s

/-- The lines of a page that slices hold in M, with their slices. -/
def Dev.dirtyOf (d : Dev) (index : Nat) : List (Nat × SLine) :=
  d.ableSlices.flatMap fun s =>
    ((d.slice s).lines.filter fun l => l.st == LineState.m && d.indexOf l.key == index).map fun l => (s, l)

/-- Write back one line in M, in place; a write-back that fails at once leaves no copy. -/
def Dev.writeBackLine (p : Nat × SLine) (d : Dev) : Dev :=
  let e := d.memWrite p.1 p.2.key 0 p.2.data allBytes p.2.poison (.clean p.2.writer p.2.data)
  if d.canWrite p.1 p.2.key then e else e.dropLine p.1 p.2.key

/-- Start the write-backs of a fenced page's lines in M that are not under way; a line that a transaction is writing to memory needs
none. -/
def Dev.backPage (index : Nat) (d : Dev) : Dev :=
  let l := (d.dirtyOf index).filter fun p => !d.cleaning p.1 p.2.key && !d.writing p.1 p.2.key
  (l.foldl (fun d p => d.writeBackLine p) d).setPool fun x => { x with fences := x.fences.map fun f =>
    if f.index = index then { f with lines := f.lines ++ l.map fun p => (p.1, p.2.key) } else f }

/-- R191: fence a page under its present mapping; `drop` says that every line of it goes (R192). A page being fenced already is
also written back, or emptied, when that is asked now. -/
def Dev.fencePage (index : Nat) (writeBack drop : Bool) (d : Dev) : Dev :=
  match d.pool.fences.find? (·.index == index) with
  | none =>
    let e := d.setPool fun x => { x with
      fences := x.fences ++ [{ index := index, old := d.ledgerAt index, writeBack := writeBack, drop := drop }] }
    if writeBack then e.backPage index else e
  | some f =>
    let more (x : PageFence) : PageFence :=
      if x.index = index then { x with writeBack := x.writeBack || writeBack, drop := x.drop || drop } else x
    let e := d.setPool fun x => { x with fences := x.fences.map more }
    if writeBack && !f.writeBack then e.backPage index else e

/-- Every copy of a page's lines goes. -/
def Dev.emptyPage (index : Nat) (d : Dev) : Dev :=
  d.forEach (List.range 16) fun s e => e.setSlice s fun x => { x with lines := x.lines.filter fun l => d.indexOf l.key != index }

/-- A transaction is open on a line of a page, or a request that has been translated waits for one. -/
def Dev.pageBusy (d : Dev) (index : Nat) : Bool :=
  (List.range 16).any fun s => (d.slice s).txs.any (fun t => d.indexOf t.key == index) ||
    (d.slice s).conflict.any (fun p => d.indexOf p.1 == index) || (d.slice s).alloc.any fun p => p.2.acc.index == index

/-- R191: the fence ends: the lines written back and every translation of the page are invalidated, and the accesses that
waited go on. -/
def Dev.endFence (f : PageFence) (d : Dev) : Dev :=
  let d := f.lines.foldl (fun d p => d.dropLine p.1 p.2) d
  let d := if f.drop then d.emptyPage f.index else d
  let d := (d.dropTlb f.index (!f.writeBack)).setPool fun x => { x with fences := x.fences.filter (·.index != f.index) }
  f.waiting.foldl (fun d a => d.arrive (d.homeOf a.key) a) d

/-- PAGE_FENCE_DONE: no transaction of the page is open and every line in M has been written back. -/
def effPageFenceDone (index : Nat) (d : Dev) : Dev :=
  match d.pool.fences.find? (·.index == index) with
  | none => d
  | some f =>
    if d.pageBusy index then d
    else if !f.writeBack then d.endFence f
    else if f.lines.any (fun p => d.cleaning p.1 p.2) then d
    else if (d.dirtyOf index).any (fun p => !f.lines.contains (p.1, p.2.key)) then d.backPage index
    else d.endFence f

def execPageFenceDone (index : Nat) (s : State) : Host.Outcome State Fault Refusal := liveLift (effPageFenceDone index) s

/-! Ledger writes (R189, R190). -/

/-- The enabled private berth in whose run an index lies. -/
def Dev.berthOfIndex (d : Dev) (index : Nat) : Option Nat :=
  (List.range 1024).find? fun n => d.privateBerth n &&
    decide (d.get (Obj.ledgerFirst n) ≤ index ∧ index < d.get (Obj.ledgerFirst n) + d.berthPages n)

/-- The Basin in whose span an index lies. -/
def Dev.spanOfIndex (d : Dev) (index : Nat) : Option Nat :=
  (List.range 64).find? fun b =>
    decide (d.get (Obj.spanLedgerFirst b) ≤ index ∧ index < d.get (Obj.spanLedgerFirst b) + d.get (Obj.spanPages b))

/-- One page more or less. -/
def bump (up : Bool) (n : Nat) : Nat := if up then n + 1 else n - 1

/-- The counts of mapped pages move with VALID (R189). -/
def Dev.tally (index : Nat) (up : Bool) (d : Dev) : Dev :=
  match d.berthOfIndex index with
  | some n => (d.put (Obj.mappedPages n) (bump up (d.get (Obj.mappedPages n)))).put (Obj.usedPages (n / 16))
      (bump up (d.get (Obj.usedPages (n / 16))))
  | none => match d.spanOfIndex index with
    | some b => d.put (Obj.spanMappedPages b) (bump up (d.get (Obj.spanMappedPages b)))
    | none => d

/-- The bits of a Ledger entry that are fields (Table 7.4). -/
abbrev entryMask : Nat := 0xE0FF003F07FFFFFF

/-- Proposals of tiering for a page that is released or remapped (R221). -/
def Dev.staleTier (index : Nat) (d : Dev) : Dev :=
  let f (x : Decision) : Decision := if x.fn = 2 ∧ x.subject % 2 ^ 32 = index then { x with stale := true } else x
  d.setModes fun m => { m with decisions := m.decisions.map f }

/-- One Ledger write in a commit: the fence of a mapping it changes or removes, the counts, a FREE page named becomes USED,
and the entry is in force under a new epoch. -/
def Dev.writeEntry (index e : Nat) (writeBack : Bool) (d : Dev) : Dev :=
  let old := d.ledgerAt index
  let d := if entryValid old then d.fencePage index writeBack false else d
  let d := if entryValid e ∧ entryDev e = entryDev old ∧ entryPage e = entryPage old then d else d.staleTier index
  let d := if entryValid e && d.pageState (entryDev e) (entryPage e) == 0 then d.setPage (entryDev e) (entryPage e) 1 else d
  let d := if entryValid old == entryValid e then d else d.tally index (entryValid e)
  d.setLedger index e

/-- The status of a LEDGER_WRITE (R189). -/
def checkLedgerWrite (v : Nat) (d : Dev) : Nat :=
  let i := bits v 0 32
  let e := bits v 64 64
  let st := d.pageState (entryDev e) (entryPage e)
  if d.get Obj.ledgerEntries ≤ i ∨ entryMigrating e ∨
      (entryValid e ∧ ((entryPage e < d.get (Obj.memdevPages (entryDev e)) ∧ (st = 2 ∨ st = 3)) ∨ d.devState (entryDev e) ≠ 1)) then
    Status.badValue
  else if entryMigrating (d.ledgerAt i) then Status.busy else Status.success

/-- LEDGER_WRITE: the whole entry is replaced. -/
def actLedgerWrite : Act :=
  { check := fun _ v d => checkLedgerWrite v d
    effect := fun _ v _ d => d.writeEntry (bits v 0 32) (Nat.land (bits v 64 64) entryMask) true }

def execLedgerWrite (c : Call) (v : Nat) (s : State) : Host.Outcome State Fault Refusal :=
  writeRow actLedgerWrite c Obj.ledgerWrite v s

/-! Berths (R177, R182, R192). -/

/-- The Ledger entries that a berth's window covers: the first, and how many (Table 7.1). -/
def Dev.berthRun (d : Dev) (n : Nat) : Nat × Nat :=
  match d.get (Obj.berthKind n) with
  | 0 => (d.get (Obj.ledgerFirst n), d.berthPages n)
  | 1 =>
    let b := d.get (Obj.berthBasin n)
    let off := d.get (Obj.berthOffset n) / 2097152
    (d.get (Obj.spanLedgerFirst b) + off, min (d.berthPages n) (d.get (Obj.spanPages b) - off))
  | _ => (0, 0)

/-- A Ledger entry of an enabled berth's window from one page on is VALID (R182). -/
def Dev.berthHolds (d : Dev) (n lo : Nat) : Bool :=
  d.get (Obj.berthEnable n) == 1 && d.validBeyond (d.berthRun n).1 (d.berthRun n).2 lo

/-- The pages of a berth's window from one page on that a slice holds lines or a translation of. -/
def Dev.cachedPages (d : Dev) (n lo : Nat) : List Nat :=
  let r := d.berthRun n
  (((List.range 16).flatMap fun s => ((d.slice s).lines.map fun l => d.indexOf l.key) ++ (d.tlb s).map (·.index)).filter fun i =>
    decide (r.1 + lo ≤ i ∧ i < r.1 + r.2)).eraseDups

/-- R192: the lines of a berth beyond its new window are written back and invalidated, with the translations of their pages. -/
def Dev.shrink (n lo : Nat) (d : Dev) : Dev := d.forEach (d.cachedPages n lo) fun i d => d.fencePage i true true

/-- BERTH_ENABLE: 1 under the conditions of R177, 0 as a change of R182. -/
def actBerthEnable (n : Nat) : Act :=
  { check := fun _ v d =>
      if v = 1 then
        if d.get (Obj.berthEnable n) = 1 ∨ d.berthOk n (d.get (Obj.berthBase n)) (d.get (Obj.berthLimit n)) then Status.success
        else Status.badValue
      else if d.berthHolds n 0 then Status.busy
      else Status.success
    effect := fun _ v _ d =>
      if v = d.get (Obj.berthEnable n) then d
      else if v = 1 then d.put (Obj.berthEnable n) 1
      else ((d.shrink n 0).put (Obj.berthEnable n) 0).newEpoch }

def execBerthEnableWrite (c : Call) (n : Fin 1024) (v : Nat) (s : State) : Host.Outcome State Fault Refusal :=
  writeRow (actBerthEnable n) c (Obj.berthEnable n) v s

/-- A write to BERTH_BASE or BERTH_LIMIT (R182): of an enabled berth it must keep the conditions of R177; a lowered limit is
refused while an entry outside the remaining window is VALID. -/
def actBerthBound (n : Nat) (limit : Bool) : Act :=
  { check := fun _ v d =>
      let base := if limit then d.get (Obj.berthBase n) else v
      let lim := if limit then v else d.get (Obj.berthLimit n)
      if d.get (Obj.berthEnable n) = 0 then
        if limit ∧ (v + 1) % 0x10000000 ≠ 0 then Status.badValue else Status.success
      else if !d.berthOk n base lim then Status.badValue
      else if limit && decide (v < d.get (Obj.berthLimit n)) && d.berthHolds n (pagesOf base lim) then Status.busy
      else Status.success
    effect := fun _ v _ d =>
      let o := if limit then Obj.berthLimit n else Obj.berthBase n
      if d.get (Obj.berthEnable n) = 0 then d.put o v
      else
        let lo := if limit then pagesOf (d.get (Obj.berthBase n)) v else pagesOf v (d.get (Obj.berthLimit n))
        (((if lo < d.berthPages n then d.shrink n lo else d)).put o v).newEpoch }

/-- BERTH_CHANGE. -/
def actBerthChange (n : Nat) : BerthObj → Act
  | .base => actBerthBound n false
  | .limit => actBerthBound n true
  | .disable => actBerthEnable n

def berthObj (n : Nat) : BerthObj → Nat
  | .base => Obj.berthBase n
  | .limit => Obj.berthLimit n
  | .disable => Obj.berthEnable n

def execBerthChange (c : Call) (n : Fin 1024) (what : BerthObj) (v : Nat) (s : State) : Host.Outcome State Fault Refusal :=
  writeRow (actBerthChange n what) c (berthObj n what) v s

/-- The other berth objects: kind, Basin, offset, home and first entry stay as they are while the berth is enabled (R182). -/
def actBerthField (n o : Nat) : Act :=
  { check := fun _ v d =>
      if o = Obj.ledgerFirst n ∧ d.get Obj.ledgerEntries ≤ v then Status.badValue
      else if d.get (Obj.berthEnable n) = 1 then Status.busy else Status.success
    effect := fun _ v _ d => d.put o v }

/-- SPAN_LEDGER_FIRST and SPAN_PAGES (R177, R223). -/
def actSpan (b : Nat) (pages : Bool) : Act :=
  { check := fun _ v d =>
      let first := if pages then d.get (Obj.spanLedgerFirst b) else v
      let n := if pages then v else d.get (Obj.spanPages b)
      if !pages && decide (d.get Obj.ledgerEntries ≤ v) then Status.badValue
      else if n ≠ 0 ∧ d.get Obj.ledgerEntries < first + n then Status.badValue
      else if d.validBeyond (d.get (Obj.spanLedgerFirst b)) (d.get (Obj.spanPages b)) 0 then Status.busy else Status.success
    effect := fun _ v _ d => d.put (if pages then Obj.spanPages b else Obj.spanLedgerFirst b) v }

/-! Memory devices (R183, R223). -/

/-- Pages enter ZEROING in their order (R228). -/
def Dev.queueZero (m first n : Nat) (d : Dev) : Dev :=
  if n = 0 then d else d.setCrane fun c => { c with zeroQueue := c.zeroQueue ++ [(m, first, n)] }

/-- A page goes to ZEROING. -/
def Dev.toZeroing (m p : Nat) (d : Dev) : Dev := (d.setPage m p 2).queueZero m p 1

/-- The pages of all enabled devices and one more. -/
def Dev.poolTotal (d : Dev) : Nat :=
  (((List.range 64).filter fun m => d.get (Obj.memdevEnable m) == 1).map fun m => d.get (Obj.memdevPages m)).sum

/-- MEMDEV_ENABLE: at most 256 TiB in all, on a quay of role Downstream; not disabled while a page is USED or RESERVED. A
device enabled after the Ledger is set up has all pages ZEROING. -/
def actMemdevEnable (m : Nat) : Act :=
  { check := fun _ v d =>
      if v = 1 ∧ d.get (Obj.memdevEnable m) = 0 ∧
          (134217728 < d.poolTotal + d.get (Obj.memdevPages m) ∨ d.role (d.get (Obj.memdevQuay m)) ≠ 2) then Status.badValue
      else if v = 0 ∧ (0 < d.pagesIn m 1 ∨ 0 < d.pagesIn m 3) then Status.busy else Status.success
    effect := fun _ v _ d =>
      if v = d.get (Obj.memdevEnable m) then d
      else if v = 1 then
        let d := d.put (Obj.memdevEnable m) 1
        if d.get Obj.ledgerState = 0 then d else d.queueZero m 0 (d.get (Obj.memdevPages m))
      else (((d.put (Obj.memdevEnable m) 0).endOwn fun w => match w with
          | .zero dev _ => dev == m
          | .bale _ => false).setPool fun p => { p with pages := p.pages.filter fun x => x.1 / 2 ^ 27 != m }).setCrane
        fun c => { c with zeroQueue := c.zeroQueue.filter (·.1 != m), zeroing := c.zeroing.filter (·.1 != m) } }

/-- The other writable objects of a memory device but its tier. A device on another quay, or with another LD-ID, has not completed
its enumeration (R183). -/
def actMemdevField (m o : Nat) : Act :=
  { check := fun _ v d =>
      if o = Obj.memdevLd m ∧ 15 < v ∧ v ≠ 0xFF then Status.badValue
      else if o = Obj.memdevQuay m ∧ d.role v ≠ 2 then Status.badValue
      else if d.get (Obj.memdevEnable m) = 1 then Status.busy else Status.success
    effect := fun _ v _ d =>
      let moved := (o = Obj.memdevLd m ∨ o = Obj.memdevQuay m) ∧ d.get o ≠ v
      let d := if moved then d.setPool fun p => { p with enumerated := setBit p.enumerated m false } else d
      d.put o v }

/-! Setting up the Ledger (R184, R188). -/

/-- LEDGER_DEVICE, LEDGER_DEVICE_PAGE and LEDGER_ENTRIES are written only in Slipway. -/
def actLedgerPlace (o : Nat) : Act :=
  { check := fun _ _ d => if d.mode = 0 then Status.success else Status.wrongMode
    effect := fun _ v _ d => d.put o v }

/-- LEDGER_READ_INDEX. -/
def actLedgerReadIndex : Act :=
  { check := fun _ v d => if v < d.get Obj.ledgerEntries then Status.success else Status.badValue
    effect := fun _ v _ d => d.put Obj.ledgerReadIndex v }

/-- The pages of the reserved region (Table 7.3). -/
def Dev.regionPages (d : Dev) : List Nat :=
  (List.range (d.get Obj.ledgerEntries / 262144 + 16)).map (d.get Obj.ledgerDevicePage + ·)

/-- The region is RESERVED. -/
def Dev.reserveRegion (d : Dev) : Dev := d.forEach d.regionPages fun p d => d.setPage (d.get Obj.ledgerDevice) p 3

/-- All pages of the enabled devices enter the order of zeroing. -/
def Dev.queueAll (d : Dev) : Dev :=
  ((d.endOwn fun w => match w with
      | .zero _ _ => true
      | .bale _ => false).setCrane fun c => { c with zeroQueue := [], zeroing := [] }).forEach
    ((List.range 64).filter fun m => d.get (Obj.memdevEnable m) == 1) fun m d => d.queueZero m 0 (d.get (Obj.memdevPages m))

/-- No page is mapped. -/
def Dev.clearCounts (d : Dev) : Dev :=
  ((d.forEach (List.range 1024) fun n d => d.put (Obj.mappedPages n) 0).forEach (List.range 64) fun h d =>
    d.put (Obj.usedPages h) 0).forEach (List.range 64) fun b d => d.put (Obj.spanMappedPages b) 0

/-- LEDGER_INIT: every entry invalid, the region RESERVED, every other page ZEROING. -/
def Dev.ledgerInit (d : Dev) : Dev :=
  let d := d.setPool fun p => { p with ledger := [], pages := [], tlb := [], migs := [], fences := [], releasing := [], extents := [] }
  (d.clearCounts.reserveRegion.queueAll.put Obj.ledgerState 1).newEpoch

/-- One entry that LEDGER_ADOPT finds: with MIGRATING it maps to its source again, and a Contained event, whose type the
spec does not list (type 0 of group 15), names the index. -/
def Dev.adoptEntry (p : Nat × Nat) (d : Dev) : Dev :=
  let d := if entryValid p.2 then d.tally p.1 true else d
  if entryMigrating p.2 then (d.setLedger p.1 (setBit p.2 62 false)).err { typ := 0, alt := 1, inst := 0, detail := p.1 } else d

/-- LEDGER_ADOPT: the Ledger and the map as the memory holds them. -/
def Dev.ledgerAdopt (d : Dev) : Dev :=
  let d := (d.setPool fun p => { p with tlb := [], migs := [], fences := [], releasing := [], extents := [] }).clearCounts
  (d.pool.ledger.foldl (fun d p => d.adoptEntry p) d).queueAll.put Obj.ledgerState 1

/-- Both commands act only in Slipway. -/
def checkSlipway (d : Dev) : Nat := if d.mode = 0 then Status.success else Status.wrongMode

/-! Barriers (R190, R193). -/

/-- Epoch e is earlier than epoch E; numbers wrap. -/
def earlier (e E : Nat) : Bool := decide (0 < (E + 2 ^ 32 - e) % 2 ^ 32 ∧ (E + 2 ^ 32 - e) % 2 ^ 32 < 2 ^ 31)

/-- The requests a slice has taken, in whatever part. -/
def Slice.taken (x : Slice) : List HReq := (x.txs.filterMap Tx.req) ++ (x.conflict.map (·.2)) ++ (x.alloc.map (·.2))

/-- An access of an epoch earlier than E is open. -/
def Dev.openBefore (d : Dev) (E : Nat) : Bool :=
  d.pool.accesses.any (fun a => earlier a.epoch E) || d.pool.walks.any (fun w => earlier w.epoch E) ||
  (List.range 16).any fun s => (d.slice s).taken.any fun r => earlier r.epoch E

/-- POOL_BARRIER. -/
def actPoolBarrier : Act :=
  { check := fun _ _ d => if d.get Obj.barrierStatus = 1 then Status.busy else Status.success
    effect := fun _ _ _ d => d.putAll [(Obj.barrierEpoch, d.epoch), (Obj.barrierStatus, 1)] }

def execPoolBarrier (c : Call) (v : Nat) (s : State) : Host.Outcome State Fault Refusal :=
  writeRow actPoolBarrier c Obj.poolBarrier v s

/-- POOL_BARRIER_DONE: the event is the STATE_CHANGE of BARRIER_STATUS, from the Ledger. -/
def effPoolBarrierDone (d : Dev) : Dev :=
  if d.get Obj.barrierStatus = 1 ∧ !d.openBefore (d.get Obj.barrierEpoch) then
    (d.put Obj.barrierStatus 2).stateChange (sourceId 15 0) Obj.barrierStatus
  else d

def execPoolBarrierDone (s : State) : Host.Outcome State Fault Refusal := liveLift effPoolBarrierDone s

/-! Ledger walks (R186, R187). -/

/-- A walk has returned for one access. -/
def Dev.walked (s : Nat) (ok : Bool) (a : Access) (d : Dev) : Dev :=
  if !ok then d.decodeFault s 6 a
  else if entryValid (d.ledgerAt a.index) then (d.fillTlb s a.index).arrive s a
  else d.decodeFault s 2 a

/-- A walk of a slice that is not fenced ends: with its line, or with poison or a timeout; then the accesses that waited for a walk go on. -/
def Dev.endWalk (s line : Nat) (ok : Bool) (d : Dev) : Dev :=
  match if d.sliceFenced s then none else d.pool.walks.find? (fun w => w.slice == s && w.line == line) with
  | none => d
  | some w =>
    let d := d.setPool fun p => { p with walks := p.walks.filter fun x => !(x.slice == s && x.line == line) }
    let d := w.waiting.foldl (fun d a => d.walked s ok a) d
    (d.pool.walkQueue.filter (·.1 == s)).foldl (fun d p => d.arrive s p.2)
      (d.setPool fun x => { x with walkQueue := x.walkQueue.filter (·.1 != s) })

/-- The tag slot of a walk is closed. -/
def Dev.closeWalk (s line : Nat) (d : Dev) : Dev :=
  match d.net.orig.find? (fun o => o.ini == .walk s line) with
  | some o => ((d.noteDone o).dropOrig o).issueWaiting o.quay
  | none => d

/-- LEDGER_WALK_DONE. -/
def effLedgerWalkDone (s line : Nat) (ok : Bool) (d : Dev) : Dev :=
  if d.pool.walks.any (fun w => w.slice == s && w.line == line) then (d.closeWalk s line).endWalk s line ok else d

def execLedgerWalkDone (s : Fin 16) (line : Nat) (ok : Bool) (st : State) : Host.Outcome State Fault Refusal :=
  liveLift (effLedgerWalkDone s line ok) st

/-! Allocation (R194 to R199). -/

/-- Table 7.5 in a value; its rsvd fields are ignored (R5). -/
structure CapArg where
  target : Nat
  tier : Nat
  fallback : Bool
  pages : Nat
  minPages : Nat

def capArg (v : Nat) : CapArg :=
  { target := bits v 0 16, tier := bits v 16 8, fallback := bitAt v 24, pages := bits v 32 32, minPages := bits v 64 32 }

/-- The fields are in range; a span is a manager's target only. -/
def CapArg.ok (a : CapArg) (span : Bool) : Bool :=
  decide (a.tier ≤ 3 ∧ 1 ≤ a.pages ∧ 1 ≤ a.minPages ∧ a.minPages ≤ a.pages) &&
  (decide (a.target < 1024) || (span && decide (0x8000 ≤ a.target ∧ a.target < 0x8040)))

/-- Requests of one host slot, or of one span, are one at a time. -/
def capOwner (target : Nat) : Nat := if target < 1024 then target / 16 else target

/-- R194: 0, or the response's STATUS: 3 BAD_REQUEST, 2 QUOTA, 5 BUSY. `slot` is the requesting slot of a mailbox. -/
def Dev.capCheck (d : Dev) (slot : Option Nat) (v : Nat) : Nat :=
  let a := capArg v
  if !a.ok slot.isNone ∨ (a.target < 1024 ∧ (!d.privateBerth a.target ∨ (slot.map fun h => h != a.target / 16).getD false)) then 3
  else if a.target < 1024 ∧ d.get (Obj.quotaPages (a.target / 16)) - d.get (Obj.usedPages (a.target / 16)) < a.pages then 2
  else if d.pool.caps.any (fun c => capOwner c.target == capOwner a.target) then 5
  else 0

/-- The request a value asks for. -/
def capReq (v : Nat) (who : Asker) : CapReq :=
  { target := (capArg v).target, tier := (capArg v).tier, fallback := (capArg v).fallback, pages := (capArg v).pages
    minPages := (capArg v).minPages, asker := who, zeroWait := false }

/-- The eligible tiers, fastest first (R195). -/
def CapReq.tiers (r : CapReq) : List Nat := if r.fallback then (List.range 4).filter (decide <| r.tier ≤ ·) else [r.tier]

/-- The FREE pages of a READY device, lowest first. -/
def Dev.freeOf (d : Dev) (m : Nat) : List Nat :=
  if d.devState m = 1 ∧ d.ledgerState = 1 then (List.range (d.get (Obj.memdevPages m))).filter fun p => d.pageState m p == 0
  else []

/-- The READY devices of a tier in the order of R196: from the one after that which supplied its last page. -/
def Dev.rotation (d : Dev) (t : Nat) : List Nat :=
  let l := (List.range 64).filter fun m => d.devState m == 1 && d.get (Obj.memdevTier m) == t
  let last := Tab.get 0 d.pool.lastDev t
  l.filter (fun m => decide (last ≤ m)) ++ l.filter (fun m => decide (m < last))

/-- Round robin over lists of pages. -/
def rrTake : Nat → List (Nat × List Nat) → List (Nat × Nat)
  | 0, _ => []
  | _ + 1, [] => []
  | n + 1, (_, []) :: rest => rrTake n rest
  | n + 1, (m, p :: ps) :: rest => (m, p) :: rrTake n (if ps = [] then rest else rest ++ [(m, ps)])

/-- Up to n FREE pages of a tier. -/
def Dev.tierPages (d : Dev) (n t : Nat) : List (Nat × Nat) :=
  rrTake n (((d.rotation t).map fun m => (m, d.freeOf m)).filter fun x => x.2 ≠ [])

/-- Up to n FREE pages of the tiers, fastest first. -/
def Dev.pickPages (d : Dev) : Nat → List Nat → List (Nat × Nat)
  | _, [] => []
  | n, t :: ts =>
    let l := d.tierPages n t
    l ++ d.pickPages (n - l.length) ts

/-- FREE and ZEROING pages of the tiers. -/
def Dev.freeSoon (d : Dev) (ts : List Nat) : Nat :=
  (ts.map fun t => ((d.rotation t).map fun m => (d.freeOf m).length + d.pagesIn m 2).sum).sum

/-- The first Ledger entry and the pages of a target. -/
def Dev.targetRun (d : Dev) (target : Nat) : Nat × Nat :=
  if target < 1024 then (d.get (Obj.ledgerFirst target), d.berthPages target)
  else (d.get (Obj.spanLedgerFirst (target - 0x8000)), d.get (Obj.spanPages (target - 0x8000)))

/-- The runs of pages below n that are not taken, in order. -/
def gapsTo (taken : Nat → Bool) : Nat → List (Nat × Nat)
  | 0 => []
  | n + 1 =>
    let l := gapsTo taken n
    if taken n then l
    else match l.getLast? with
      | some (f, c) => if f + c = n then l.dropLast ++ [(f, c + 1)] else l ++ [(n, 1)]
      | none => [(n, 1)]

/-- The runs of unmapped pages of a target. -/
def Dev.gaps (d : Dev) (target : Nat) : List (Nat × Nat) :=
  gapsTo (fun p => entryValid (d.ledgerAt ((d.targetRun target).1 + p))) (d.targetRun target).2

/-- Fill runs in order with n pages. -/
def fillGaps : Nat → List (Nat × Nat) → List (Nat × Nat)
  | _, [] => []
  | n, g :: rest => if n = 0 then [] else (g.1, min n g.2) :: fillGaps (n - g.2) rest

/-- R196: the extents of a grant of n pages: the lowest run that holds it, or the lowest runs in order, at most 8. -/
def place (gaps : List (Nat × Nat)) (n : Nat) : List (Nat × Nat) :=
  match gaps.find? (fun g => decide (n ≤ g.2)) with
  | some g => if n = 0 then [] else [(g.1, n)]
  | none => fillGaps n (gaps.take 8)

/-- The grant that R195 makes now: its extents. -/
def Dev.grantNow (d : Dev) (r : CapReq) (ts : List Nat) : List (Nat × Nat) :=
  place (d.gaps r.target) (d.pickPages r.pages ts).length

/-- Pages of extents. -/
def sizeOf (l : List (Nat × Nat)) : Nat := (l.map (·.2)).sum

/-- Table 7.6. -/
def capResponse (status : Nat) (ext : List (Nat × Nat)) : Nat :=
  status + ext.length * 2 ^ 8 + sizeOf ext * 2 ^ 32 + ((ext.head?.map (·.1)).getD 0) * 2 ^ 64

/-- A record of a kind that the spec gives no layout for is written to a ring: its type and payload are free values. -/
def Dev.freeRecord (i : Nat) (d : Dev) : Dev :=
  (d.ringWrite i (info 0 d.draw 0 0xFFFF (Config.freeValue (d.draws + 1)))).drawn.drawn

/-- The Host quay of a local slot. -/
def Dev.localQuay (d : Dev) (h : Nat) : Option Nat := if d.get (Obj.slotKind h) = 1 then some (d.get (Obj.slotSource h)) else none

/-- One extent is announced to the host of a berth: a dynamic capacity add event for berths 0 to 7 of a local slot, which
the host has to accept when `accept` holds; a record in its event ring for the others. -/
def Dev.announceOne (n : Nat) (accept : Bool) (x : Nat × Nat) (d : Dev) : Dev :=
  match d.localQuay (n / 16) with
  | none => d
  | some q =>
    if n % 16 < 8 then
      (if accept then d.setPool fun p => { p with extents := p.extents ++ [{ berth := n, first := x.1, pages := x.2 }] } else d).send
        (.dcAdd q n x.1 x.2)
    else match d.pfOf q with
      | some i => d.freeRecord i
      | none => d

/-- The part of an extent of a span that a Shared berth's window covers, as berth pages. -/
def Dev.covered (d : Dev) (n : Nat) (x : Nat × Nat) : Nat × Nat :=
  let off := d.get (Obj.berthOffset n) / 2097152
  let lo := max x.1 off
  let hi := min (x.1 + x.2) (off + d.berthPages n)
  (lo - off, hi - lo)

/-- The enabled Shared berths of a Basin's members. -/
def Dev.sharedBerths (d : Dev) (b : Nat) : List Nat :=
  (List.range 1024).filter fun n => d.get (Obj.berthEnable n) == 1 && d.get (Obj.berthKind n) == 1 &&
    d.get (Obj.berthBasin n) == b && bitAt (d.get (Obj.members b)) (n / 16)

/-- R197, R200: a grant's extents are announced. -/
def Dev.announce (target : Nat) (ext : List (Nat × Nat)) (d : Dev) : Dev :=
  if target < 1024 then ext.foldl (fun d x => d.announceOne target true x) d
  else ext.foldl (fun d x => d.forEach (d.sharedBerths (target - 0x8000)) fun n d =>
    if (d.covered n x).2 = 0 then d else d.announceOne n false (d.covered n x)) d

/-- The device that supplied the last page of each tier (R196). -/
def Dev.noteLast (pages : List (Nat × Nat)) (d : Dev) : Dev :=
  d.setPool fun p => { p with lastDev := pages.foldl (fun t x => Tab.set 0 t (d.get (Obj.memdevTier x.1)) (x.1 + 1)) p.lastDev }

/-- R197: the entries of a grant are written, and it is announced. -/
def Dev.makeGrant (r : CapReq) (ts : List Nat) (ext : List (Nat × Nat)) (d : Dev) : Dev :=
  let pages := d.pickPages (sizeOf ext) ts
  let slots := ext.flatMap fun x => (List.range x.2).map (x.1 + ·)
  let first := (d.targetRun r.target).1
  let d := (slots.zip pages).foldl (fun d p => d.writeEntry (first + p.1) (entryOf p.2.1 p.2.2) true) d
  (d.noteLast pages).announce r.target ext

/-- A capacity answer reaches its asker; one that is not GRANTED is counted. -/
def Dev.answerCap (who : Asker) (v : Nat) (d : Dev) : Dev :=
  let d := if bits v 0 8 = 0 then d else d.count Obj.allocRefusals 1
  match who with
  | .manager slot seq => d.answerReady slot seq 0 v
  | .inst i => (d.setInst i fun x => { x with capResp := v, capGo := false }).msix i (d.inst i).capVector

/-- What a checked request comes to in hardware mode (R195): granted now, waiting for zeroing, or NO_CAPACITY. -/
inductive CapEnd where
  | grant (ext : List (Nat × Nat))
  | wait
  | none
  deriving DecidableEq, Repr

def Dev.capEnd (d : Dev) (r : CapReq) : CapEnd :=
  let ext := d.grantNow r r.tiers
  if r.minPages ≤ sizeOf ext then .grant ext
  else if r.minPages ≤ d.freeSoon r.tiers then .wait else .none

/-- The subject of a function 1 decision: the target. Its proposal: pages, and the tier above them (R198). -/
def Dev.capProposal (d : Dev) (r : CapReq) : Nat := sizeOf (d.grantNow r r.tiers) + r.tier * 2 ^ 32

/-- How a request is answered at once: a response value, or later. -/
def Dev.capNow (d : Dev) (slot : Option Nat) (v : Nat) (who : Asker) : Option Nat :=
  let st := d.capCheck slot v
  if st ≠ 0 then some (capResponse st [])
  else if d.assisted 1 then if d.canHold 1 then none else some (capResponse 4 [])
  else match d.capEnd (capReq v who) with
    | .grant ext => some (capResponse 0 ext)
    | .wait => none
    | .none => some (capResponse 1 [])

/-- The effect of a request: the grant, the wait, the decision it raises, or nothing. -/
def Dev.capAsk (slot : Option Nat) (v : Nat) (who : Asker) (d : Dev) : Dev :=
  let r := capReq v who
  if d.capCheck slot v ≠ 0 then d
  else if d.assisted 1 then
    if d.canHold 1 then (d.setPool fun p => { p with caps := p.caps ++ [r] }).hold [] (sourceId 15 0) 1 r.target (d.capProposal r)
    else d.overflow (sourceId 15 0) 1 r.target
  else match d.capEnd r with
    | .grant ext => d.makeGrant r r.tiers ext
    | .wait => d.setPool fun p => { p with caps := p.caps ++ [{ r with zeroWait := true }] }
    | .none => d

/-- The asker of a command. -/
def askerOf (c : Caller) (seq : Nat) : Asker := .manager (callerSlot c) seq

/-- ALLOC_GRANT: it answers at once when the outcome is known at the commit, and otherwise deferred. -/
def actAllocGrant : Act :=
  { effect := fun c v n d =>
      let d' := d.capAsk none v (askerOf c.caller n)
      match d.capNow none v (askerOf c.caller n) with
      | some r => if bits r 0 8 = 0 then d' else d'.count Obj.allocRefusals 1
      | none => d'
    reply := fun c v n d => match d.capNow none v (askerOf c.caller n) with
      | some r => .now r 16
      | none => .deferred }

def execAllocGrant (c : Call) (v : Nat) (s : State) : Host.Outcome State Fault Refusal :=
  writeRow actAllocGrant c Obj.allocGrant v s

/-- An open request ends. -/
def Dev.closeCap (r : CapReq) (d : Dev) : Dev := d.setPool fun p => { p with caps := p.caps.erase r }

/-- End a request with the grant of R195, or with NO_CAPACITY. -/
def Dev.settleCap (r : CapReq) (d : Dev) : Dev :=
  match d.capEnd r with
  | .grant ext => ((d.closeCap r).makeGrant r r.tiers ext).answerCap r.asker (capResponse 0 ext)
  | _ => (d.closeCap r).answerCap r.asker (capResponse 1 [])

/-- A waiting request is granted as soon as the grant reaches PAGES (R195). -/
def Dev.retryCaps (d : Dev) : Dev :=
  (d.pool.caps.filter (·.zeroWait)).foldl
    (fun d r => if r.pages ≤ sizeOf (d.grantNow r r.tiers) then d.settleCap r else d) d

/-- ZERO_WAIT_EXPIRY (R195). -/
def effZeroWaitExpiry (target : Nat) (d : Dev) : Dev :=
  match d.pool.caps.find? (fun r => r.target == target && r.zeroWait) with
  | some r => d.settleCap r
  | none => d

def execZeroWaitExpiry (target : Nat) (s : State) : Host.Outcome State Fault Refusal := liveLift (effZeroWaitExpiry target) s

/-- R198: the verdicts of function 1. ACCEPT is judged again without a decision; a grant that is not there now waits as in
hardware mode. -/
def Dev.capAccept (r : CapReq) (d : Dev) : Dev :=
  match d.capEnd r with
  | .wait => (d.closeCap r).setPool fun p => { p with caps := p.caps ++ [{ r with zeroWait := true }] }
  | _ => d.settleCap r

def Dev.capReject (r : CapReq) (d : Dev) : Dev := (d.closeCap r).answerCap r.asker (capResponse 4 [])

/-- ALTERNATIVE: exactly n pages of one tier, or NO_CAPACITY. -/
def Dev.capAlternative (r : CapReq) (n t : Nat) (d : Dev) : Dev :=
  let r' := { r with pages := n, minPages := n, tier := t, fallback := false }
  let ext := d.grantNow r' [t]
  if sizeOf ext = n then ((d.closeCap r).makeGrant r' [t] ext).answerCap r.asker (capResponse 0 ext)
  else (d.closeCap r).answerCap r.asker (capResponse 1 [])

/-- An ALTERNATIVE that function 1 takes. -/
def Dev.capAltOk (d : Dev) (r : CapReq) (n t : Nat) : Bool :=
  decide (1 ≤ n ∧ n ≤ r.pages ∧ t ≤ 3) &&
  (decide (1024 ≤ r.target) || decide (n ≤ d.get (Obj.quotaPages (r.target / 16)) - d.get (Obj.usedPages (r.target / 16))))

/-! Release (R197, R199, R216, R217). -/

/-- A page whose mapping is gone waits for the accesses of earlier epochs. -/
def Dev.letGo (m p index : Nat) (d : Dev) : Dev :=
  d.setPool fun x => { x with releasing := x.releasing ++ [{ dev := m, page := p, epoch := d.epoch, index := index }] }

/-- A held write goes on to a device and page of its line; toward a quay that is DOWN it fails (R204). -/
def Dev.sendHeld (m p : Nat) (h : HeldWrite) (d : Dev) : Dev :=
  let line := d.dpaLine m p (lineOfKey h.acc.key % 32768)
  let a := { h.acc with dev := m, line := line, quay := d.get (Obj.memdevQuay m) }
  let msg : Msg := { chan := .m2sRwD, op := .write, addr := 64 * line, len := 64, size := 64, data := h.data, be := h.be
                     poison := h.poison, source := d.get (Obj.memdevLd m) }
  let d := d.setPool fun x => { x with accesses := x.accesses.map fun y => if y.id = a.id then a else y }
  if d.qstate a.quay = 1 then d.memFailed a 2
  else d.issue { quay := a.quay, ini := .mem a.id, msg := msg, unit := a.slice, level := 0 }

/-- The writes that the current bale holds go to one side. -/
def Dev.releaseHeld (g : Mig) (m p : Nat) (d : Dev) : Dev :=
  g.held.foldl (fun d h => d.sendHeld m p h)
    (d.setPool fun x => { x with migs := x.migs.map fun y => if y.slot = g.slot then { y with held := [] } else y })

/-- A migration slot is freed. -/
def Dev.freeMig (slot : Nat) (d : Dev) : Dev := d.setPool fun x => { x with migs := x.migs.filter (·.slot != slot) }

def Dev.setMig (slot : Nat) (f : Mig → Mig) (d : Dev) : Dev :=
  d.setPool fun x => { x with migs := x.migs.map fun g => if g.slot = slot then f g else g }

/-- One page is unmapped: its page, or both pages of a migration, which is aborted without copying back, go to ZEROING in
their time. -/
def Dev.unmapOne (index : Nat) (d : Dev) : Dev :=
  let e := d.ledgerAt index
  if !entryValid e then d
  else match d.activeMig index with
    | none => (d.writeEntry index 0 true).letGo (entryDev e) (entryPage e) index
    | some g =>
      let d := (d.releaseHeld g g.srcDev g.srcPage).writeEntry index 0 true
      (((d.freeMig g.slot).letGo g.srcDev g.srcPage index).letGo g.dstDev g.dstPage index).count Obj.migrationsAborted 1

/-- Pages of a berth are unmapped. -/
def Dev.unmap (n first pages : Nat) (d : Dev) : Dev :=
  d.forEach ((List.range pages).map (d.get (Obj.ledgerFirst n) + first + ·)) Dev.unmapOne

/-- A range of pages of an enabled private berth. -/
def Dev.inBerth (d : Dev) (n first pages : Nat) : Bool := d.privateBerth n && decide (0 < pages ∧ first + pages ≤ d.berthPages n)

/-- CAPACITY_RELEASE. Extents that lie in the range need no answer any more. -/
def effCapacityRelease (n first pages : Nat) (d : Dev) : Dev :=
  if d.inBerth n first pages then
    (d.unmap n first pages).setPool fun p => { p with extents := p.extents.filter fun x =>
      !(x.berth == n && decide (first ≤ x.first ∧ x.first + x.pages ≤ first + pages)) }
  else d

def execCapacityRelease (n : Fin 1024) (first pages : Nat) (s : State) : Host.Outcome State Fault Refusal :=
  liveLift (effCapacityRelease n first pages) s

/-- EXTENT_ANNOUNCE (R198): pages that are already VALID. -/
def actExtentAnnounce : Act :=
  { check := fun _ v d =>
      let n := bits v 0 16
      if n < 1024 ∧ d.inBerth n (bits v 32 32) (bits v 64 32) ∧
          ((List.range (bits v 64 32)).all fun i => entryValid (d.ledgerAt (d.get (Obj.ledgerFirst n) + bits v 32 32 + i))) then
        Status.success
      else Status.badValue
    effect := fun _ v _ d => d.announce (bits v 0 16) [(bits v 32 32, bits v 64 32)] }

def execExtentAnnounce (c : Call) (v : Nat) (s : State) : Host.Outcome State Fault Refusal :=
  writeRow actExtentAnnounce c Obj.extentAnnounce v s

/-- An extent that is not accepted is unmapped (R197). -/
def Dev.declineExtent (x : Extent) (d : Dev) : Dev :=
  (d.setPool fun p => { p with extents := p.extents.erase x }).unmap x.berth x.first x.pages

def Dev.extentAt (d : Dev) (n first : Nat) : Option Extent := d.pool.extents.find? fun x => x.berth == n && x.first == first

/-- HOST_EXTENT_RESPONSE (R197). -/
def effHostExtentResponse (n first : Nat) (accept : Bool) (d : Dev) : Dev :=
  match d.extentAt n first with
  | none => d
  | some x => if accept then d.setPool fun p => { p with extents := p.extents.erase x } else d.declineExtent x

def execHostExtentResponse (n : Fin 1024) (first : Nat) (accept : Bool) (s : State) : Host.Outcome State Fault Refusal :=
  liveLift (effHostExtentResponse n first accept) s

/-- ADD_RESPONSE_EXPIRY (R197). -/
def effAddResponseExpiry (n first : Nat) (d : Dev) : Dev :=
  match d.extentAt n first with
  | none => d
  | some x => d.declineExtent x

def execAddResponseExpiry (n : Fin 1024) (first : Nat) (s : State) : Host.Outcome State Fault Refusal :=
  liveLift (effAddResponseExpiry n first) s

/-- An access of an earlier epoch remains to a page, or the page is still being fenced. -/
def Dev.remains (d : Dev) (x : Releasing) : Bool :=
  d.fenced x.index || d.pool.accesses.any fun a => a.dev == x.dev && earlier a.epoch x.epoch &&
    (a.line - d.get (Obj.memdevDpaBase x.dev) / 64) / 32768 == x.page

/-- SOURCE_PAGE_RELEASE (R199, R216): the page goes to ZEROING; the slot of a finished migration is freed. -/
def effSourcePageRelease (m p : Nat) (d : Dev) : Dev :=
  match d.pool.releasing.find? (fun x => x.dev == m && x.page == p) with
  | none => d
  | some x =>
    if d.remains x then d
    else
      let d := (d.setPool fun y => { y with releasing := y.releasing.erase x }).toZeroing m p
      match d.pool.migs.find? (fun g => g.finishing && g.srcDev == m && g.srcPage == p) with
      | some g => (d.freeMig g.slot).count Obj.migrationsDone 1
      | none => d

def execSourcePageRelease (m : Fin 64) (page : Nat) (s : State) : Host.Outcome State Fault Refusal :=
  liveLift (effSourcePageRelease m page) s

/-! Zeroing (R200). -/

/-- Writes of a run of a device's lines have completed: their DPAs leave the poison list (R205). -/
def Dev.cleanLines (m first n : Nat) (d : Dev) : Dev :=
  d.setPool fun p => { p with poison := p.poison.filter fun k => !decide (poisonKey m first ≤ k ∧ k < poisonKey m (first + n)) }

/-- PAGE_ZERO_DONE: every write of a page's zeroing has ended; a third failure makes the page RESERVED, and Type 37 names
it by its DPA. -/
def effPageZeroDone (m p : Nat) (ok : Bool) (d : Dev) : Dev :=
  match d.crane.zeroing.find? (fun z => z.1 == m && z.2.1 == p && z.2.2.1 == 32) with
  | none => d
  | some z =>
    let d := (d.endOwn (· == .zero m p)).setCrane fun c => { c with zeroing := c.zeroing.erase z }
    let fails := Tab.get 0 d.pool.zeroFails (pageKey m p) + 1
    if ok then (((d.setPage m p 0).cleanLines m (d.dpaLine m p 0) 32768).setPool fun x => { x with
      zeroFails := Tab.set 0 x.zeroFails (pageKey m p) 0 }).retryCaps
    else if fails < 3 then
      (d.setPool fun x => { x with zeroFails := Tab.set 0 x.zeroFails (pageKey m p) fails }).setCrane fun c =>
        { c with zeroing := c.zeroing ++ [(m, p, 0, z.2.2.2)] }
    else ((d.setPage m p 3).setPool fun x => { x with zeroFails := Tab.set 0 x.zeroFails (pageKey m p) 0 }).err
      { typ := 37, inst := m, detail := 64 * d.dpaLine m p 0 }

def execPageZeroDone (m : Fin 64) (page : Nat) (ok : Bool) (s : State) : Host.Outcome State Fault Refusal :=
  liveLift (effPageZeroDone m page ok) s

/-! Private lines (R201 to R203). -/

/-- HOST_PRIVATE_WRITE: a host's write reaches the home of a private line. -/
def effHostPrivateWrite (a : Access) (d : Dev) : Dev :=
  if isWrite a.op ∧ !isBasinKey a.key ∧ !d.stranded a then (d.takeInbox a).arrive (d.homeOf a.key) a else d

/-- The lines of a private berth in M. -/
def Dev.dirtyInBerth (d : Dev) (n : Nat) : List (Nat × SLine) :=
  d.ableSlices.flatMap fun s =>
    ((d.slice s).lines.filter fun l => l.st == LineState.m && !isBasinKey l.key && berthOfKey l.key == n).map fun l => (s, l)

/-- The open write-backs of a private berth's lines, those of the victim buffers among them, and the writes of transactions, which
write whole lines that are in M (R202). -/
def Dev.cleaningOf (d : Dev) (n : Nat) : List Nat :=
  (d.pool.accesses.filter fun a => a.write && (kindOf a == 1 || a.goal == MemFor.tx) && !isBasinKey a.key &&
    berthOfKey a.key == n).map (·.id)

/-- BERTH_FLUSH: the write-backs of the berth's lines in M; the answer waits for them all. -/
def actBerthFlush (n : Nat) : Act :=
  { effect := fun c _ seq d =>
      let d := ((d.dirtyInBerth n).filter fun p => !d.cleaning p.1 p.2.key && !d.writing p.1 p.2.key).foldl (fun d p => d.writeBackLine p) d
      if d.cleaningOf n = [] then d.answerReady (callerSlot c.caller) seq 0 0
      else d.setPool fun p => { p with flushes := p.flushes ++ [(callerSlot c.caller, seq, d.cleaningOf n)] }
    reply := fun _ _ _ _ => .deferred }

def execBerthFlush (c : Call) (n : Fin 1024) (v : Nat) (s : State) : Host.Outcome State Fault Refusal :=
  writeRow (actBerthFlush n) c (Obj.berthFlush n) v s

/-! Failed writes (R204 to R206). -/

/-- POISONED_WRITE_COMPLETE (R205). -/
def effPoisonedWriteComplete (m line : Nat) (d : Dev) : Dev :=
  match d.pool.accesses.find? (fun a => a.dev == m && a.line == line && a.goal == MemFor.poison) with
  | none => d
  | some a => (d.closeOrig a.id).memDone a 0 false

def execPoisonedWriteComplete (m : Fin 64) (line : Nat) (s : State) : Host.Outcome State Fault Refusal :=
  liveLift (effPoisonedWriteComplete m line) s

/-! Prefetch (R208 to R211). -/

/-- A hint's line can be read (R208, R210). -/
def Dev.takesHint (d : Dev) (s k : Nat) : Bool :=
  d.get (Obj.prefetchable (berthOfKey k)) == 1 && d.homeOf k == s && !d.moving k && (d.slice s).takesRequests &&
  (d.line s k).isNone && (d.victim s k).isNone && (d.tx s k).isNone &&
  (d.tlb s).any (fun t => t.index == d.indexOf k && !entryNoPrefetch t.entry) && !d.fenced (d.indexOf k) &&
  decide ((d.slice s).txs.length ≤ 2048) &&
  (let set := (d.slice s).lines.filter fun l => cacheSet l.key == cacheSet k
   decide (set.length < 16) || set.any fun l => l.st != LineState.m && (d.tx s l.key).isNone)

/-- PREFETCH_HINT: the home reads the line at level 0 in a transaction of the line (R142), or drops the hint, which is counted. -/
def effPrefetchHint (s k : Nat) (d : Dev) : Dev :=
  if d.pool.hints.contains (s, k) ∧ !d.metered then
    let d := d.setPool fun p => { p with hints := p.hints.erase (s, k) }
    if d.takesHint s k then
      (d.setSlice s fun x => { x with txs := x.txs ++ [{ key := k, serves := .prefetch, stages := [.readMem, .keep] }] }).pump s
    else d.count Obj.prefetchDiscards 1
  else d

def execPrefetchHint (s : Fin 16) (key : Nat) (st : State) : Host.Outcome State Fault Refusal :=
  liveLift (effPrefetchHint s key) st

/-! Migration (R212 to R218). -/

/-- The active engine whose turn it is to get a migration (R213). -/
def Dev.engineAfter (d : Dev) (e : Nat) : Nat :=
  (((List.range 16).map fun i => (e + i) % 16).find? fun i => d.get (Obj.engineState i) == 0).getD e

/-- The status of a start (R212). `page` 0xFFFFFFFF lets the allocator choose. -/
def Dev.checkMigrate (d : Dev) (index m page : Nat) : Nat :=
  let e := d.ledgerAt index
  if !entryValid e ∨ m = entryDev e ∨ 63 < m ∨ d.devState m ≠ 1 ∨
      (if page = 0xFFFFFFFF then d.freeOf m = [] else d.get (Obj.memdevPages m) ≤ page ∨ d.pageState m page ≠ 0) then Status.badValue
  else if entryMigrating e then Status.busy
  else if 256 ≤ d.pool.migs.length then Status.resourceLimit
  else Status.success

/-- The lowest free migration slot. -/
def Dev.freeMigSlot (d : Dev) : Nat :=
  ((List.range 256).find? fun i => !d.pool.migs.any (·.slot == i)).getD 0

/-- R213: a migration starts: the target page is USED, the entry has MIGRATING = 1 with its mapping unchanged. -/
def Dev.startMig (index m page : Nat) (byTier : Bool) (d : Dev) : Dev :=
  let e := d.ledgerAt index
  let p := if page = 0xFFFFFFFF then ((d.freeOf m).head?).getD 0 else page
  let eng := d.engineAfter d.pool.nextEngine
  let g : Mig := { slot := d.freeMigSlot, index := index, srcDev := entryDev e, srcPage := entryPage e, dstDev := m, dstPage := p
                   engine := eng, byTier := byTier, start := d.time }
  let d := (d.setPage m p 1).writeEntry index (setBit e 62 true) false
  d.setPool fun x => { x with migs := x.migs ++ [g], nextEngine := (eng + 1) % 16 }

/-- MIGRATE. -/
def actMigrate : Act :=
  { check := fun _ v d => d.checkMigrate (bits v 0 32) (bits v 32 8) (bits v 64 32)
    effect := fun _ v _ d => d.startMig (bits v 0 32) (bits v 32 8) (bits v 64 32) false }

def execMigrate (c : Call) (v : Nat) (s : State) : Host.Outcome State Fault Refusal :=
  writeRow actMigrate c Obj.migrate v s

/-- The highest bale at the target. -/
def topBale (bitmap : Nat) : Option Nat := (maskBits bitmap 32).getLast?

/-- An aborted migration has copied everything back (R217). -/
def Dev.endAbort (g : Mig) (d : Dev) : Dev :=
  let e := d.ledgerAt g.index
  ((d.writeEntry g.index (setBit e 62 false) false).freeMig g.slot |>.toZeroing g.dstDev g.dstPage).count Obj.migrationsAborted 1

/-- R217: abort: copying stops, held writes go to the source, and the bales at the target are copied back. -/
def Dev.abortMig (g : Mig) (d : Dev) : Dev :=
  if g.finishing ∨ g.reversing then d
  else
    let d := ((d.endOwn (· == .bale g.slot)).releaseHeld g g.srcDev g.srcPage).setMig g.slot fun g =>
      { g with copying := false, reversing := true, failed := false, waits := [], current := (topBale g.bitmap).getD 0 }
    if g.bitmap = 0 then d.endAbort g else d

/-- MIGRATE_ABORT. -/
def actMigrateAbort : Act :=
  { check := fun _ v _ => if v < 256 then Status.success else Status.badValue
    effect := fun _ v _ d => match d.pool.migs.find? (·.slot == v) with
      | some g => d.abortMig g
      | none => d }

def execMigrateAbort (c : Call) (v : Nat) (s : State) : Host.Outcome State Fault Refusal :=
  writeRow actMigrateAbort c Obj.migrateAbort v s

/-- The home key of a line of a Ledger entry's page, if a berth or a span covers it. -/
def Dev.pageKeyAt (d : Dev) (index line : Nat) : Option Nat :=
  match d.berthOfIndex index with
  | some n => some (privateKey n ((index - d.get (Obj.ledgerFirst n)) * 32768 + line))
  | none => (d.spanOfIndex index).map fun b => basinKey b ((index - d.get (Obj.spanLedgerFirst b)) * 32768 + line)

/-- R217: a line of a migration that is lost or not written is reported with KIND 5. -/
def Dev.reportMig (g : Mig) (cause m p line : Nat) (d : Dev) : Dev :=
  let w := d.whereIs ((d.pageKeyAt g.index line).getD 0) 0xFF
  d.reportFail 5 cause 0xFF m w.1 w.2 (64 * d.dpaLine m p line)

/-- The accesses counted at every slice through a page's entry are folded, and count from 0 again (R219). -/
def Dev.foldPage (index : Nat) (d : Dev) : Dev :=
  d.forEach (List.range 16) fun s d =>
    (((d.tlb s).filter (·.index == index)).foldl (fun d t => d.foldCount t) d).setTlb s fun l =>
      l.map fun t => if t.index = index then { t with count := 0 } else t

/-- R216: after bale 31 the entry takes the target mapping, with ACCESS as it has been counted, and the source page waits for its
accesses. -/
def Dev.finishMig (g : Mig) (d : Dev) : Dev :=
  let d := d.foldPage g.index
  let e := d.ledgerAt g.index
  let new := setBits (setBits (setBit e 62 false) 32 6 g.dstDev) 0 27 g.dstPage
  ((d.setMig g.slot fun g => { g with finishing := true }).writeEntry g.index new true).letGo g.srcDev g.srcPage g.index

/-- The index and bale of a line's key are those of a migration's current bale. -/
def Dev.inBale (d : Dev) (g : Mig) (k : Nat) : Bool :=
  d.indexOf k == g.index && lineOfKey k % 32768 / 1024 == g.current

/-- The lines of the current bale that homes hold in M or in a victim buffer, from which they are copied (R214): their place in the
bale, and whether the copy is poisoned. -/
def Dev.baleCopies (d : Dev) (g : Mig) : List (Nat × Bool) :=
  (List.range 16).flatMap fun s =>
    (((d.slice s).lines.filter fun l => l.st == LineState.m) ++ (d.slice s).victims).filterMap fun l =>
      if d.inBale g l.key then some (lineOfKey l.key % 1024, l.poison) else none

/-- The lines of the current bale that are copied poisoned: those whose copy at the home is, and of the others those that the device
returned poisoned and those whose DPA is in the poison list (R205). -/
def Dev.balePoison (d : Dev) (g : Mig) (read : Nat) : Nat :=
  let m := if g.reversing then g.dstDev else g.srcDev
  let first := poisonKey m (d.dpaLine m (if g.reversing then g.dstPage else g.srcPage) (1024 * g.current))
  let listed := (d.pool.poison.filter fun k => decide (first ≤ k ∧ k < first + 1024)).map (· - first)
  (d.baleCopies g).foldl (fun v p => setBit v p.1 p.2) (listed.foldl (fun v i => setBit v i true) (read % 2 ^ 1024))

/-- A bale has been copied to the target (R214). -/
def Dev.baleCopied (g : Mig) (read : Nat) (d : Dev) : Dev :=
  let d := d.endOwn (· == .bale g.slot)
  let poisoned := d.balePoison g read
  let d := (d.count Obj.migrationPoisonedLines (popCount poisoned 1024)).cleanLines g.dstDev
    (d.dpaLine g.dstDev g.dstPage (1024 * g.current)) 1024
  let bm := setBit g.bitmap g.current true
  let d := (d.setMig g.slot fun g => { g with bitmap := bm, copying := false, current := min 31 (g.current + 1) }).releaseHeld g
    g.dstDev g.dstPage
  if g.current = 31 then d.finishMig { g with bitmap := bm } else d

/-- A bale has been copied back (R217): each line that could not be read is reported: its read timed out, the target's quay is DOWN,
or the device returned poison. -/
def Dev.baleBack (g : Mig) (read late : Nat) (d : Dev) : Dev :=
  let d := d.endOwn (· == .bale g.slot)
  let poisoned := d.balePoison g read
  let d := (d.count Obj.migrationPoisonedLines (popCount poisoned 1024)).cleanLines g.srcDev
    (d.dpaLine g.srcDev g.srcPage (1024 * g.current)) 1024
  let cause (l : Nat) : Nat := if bitAt late l then 1 else if d.qstate (d.get (Obj.memdevQuay g.dstDev)) = 1 then 2 else 3
  let d := (maskBits poisoned 1024).foldl (fun d l => d.reportMig g (cause l) g.srcDev g.srcPage (1024 * g.current + l)) d
  let bm := setBit g.bitmap g.current false
  let d := (d.setMig g.slot fun g => { g with bitmap := bm, copying := false, current := (topBale bm).getD 0 }).releaseHeld g
    g.srcDev g.srcPage
  if bm = 0 then d.endAbort { g with bitmap := bm } else d

/-- A target write of a bale fails (R204, R217): it is reported and listed, and the migration is aborted; while copying
back, the line is listed and the bale counts as copied. -/
def Dev.baleFailed (g : Mig) (line cause : Nat) (d : Dev) : Dev :=
  let m := if g.reversing then g.srcDev else g.dstDev
  let p := if g.reversing then g.srcPage else g.dstPage
  let l := 1024 * g.current + line % 1024
  let d := (d.reportMig g cause m p l).listPoison
    { id := 0, slice := 0, key := 0, dev := m, line := d.dpaLine m p l, epoch := d.epoch, index := g.index
      quay := d.get (Obj.memdevQuay m), write := true, goal := .poison }
  if g.reversing then d.baleBack g 0 0 else d.abortMig g

/-- The copy reads of a bale start (R214, R215): one follows what is open on its line at its home; one of a line that a host holds
in EXCL asks that host. The others need not wait. -/
def Dev.startReads (g : Mig) (d : Dev) : Dev :=
  let open' (s : Nat) : List Nat := ((d.slice s).txs.map (·.key) ++
    ((d.slice s).dir.filter fun e => e.hs == .excl && d.homeOf e.key == s).map (·.key)).filter (d.inBale g)
  let l := (List.range 16).flatMap fun s => (open' s).eraseDups.map fun k => (s, k)
  let d := d.setMig g.slot fun g => { g with waits := l.map (·.2) }
  l.foldl (fun d p => (d.placeReq p.1
    { acc := { host := 0xFF, tag := g.slot, key := p.2, index := g.index, op := .uncachedRd, internal := true, copyOf := some g.slot
               master := 0x2000 + g.engine } }).pump p.1) d

/-- The home of a line of a migration's bale is fenced and its slots are not given away yet (R218). -/
def Dev.baleFenced (d : Dev) (g : Mig) : Bool :=
  d.faults.fencing ≠ [] && (List.range 1024).any fun l =>
    ((d.pageKeyAt g.index (1024 * g.current + l)).map fun k => d.sliceFenced (d.homeOf k)).getD false

/-- The bale of a migration can be done (R214, R218): its copy reads have been served, no write of a line of it is on its way to the
side that is copied, and no home of its lines is being fenced. -/
def Dev.baleReady (d : Dev) (g : Mig) : Bool :=
  g.waits.isEmpty && !d.baleFenced g &&
  !d.pool.accesses.any fun a => a.write && a.index == g.index && !g.held.any (fun h => h.acc.id == a.id) && d.inBale g a.key

/-- Migrations whose target could not be written are aborted (R217). -/
def Dev.abortFailed (d : Dev) : Dev := (d.pool.migs.filter (·.failed)).foldl (fun d g => d.abortMig g) d

/-- BALE_DONE. -/
def effBaleDone (slot : Nat) (r : BaleEnd) (d : Dev) : Dev :=
  match d.pool.migs.find? (fun g => g.slot == slot && g.copying) with
  | none => d
  | some g => match r with
    | .done poisoned late =>
      if g.failed then d.abortMig g
      else if !d.baleReady g then d
      else
        let d := d.event (0xC300 + g.engine) 0x44 1 {}
        if g.reversing then d.baleBack g poisoned late else (d.baleCopied g poisoned).abortFailed
    | .failed line cause => d.baleFailed g line cause

def execBaleDone (m : Fin 256) (r : BaleEnd) (s : State) : Host.Outcome State Fault Refusal := liveLift (effBaleDone m r) s

/-- MEMORY_WRITE_FAIL: the write that an open tag slot carries fails for a cause of Table 7.7. -/
def effMemoryWriteFail (q slot gen cause : Nat) (d : Dev) : Dev :=
  match d.origAt q slot gen with
  | none => d
  | some o => match o.ini with
    | .mem id => match d.accOf id with
      | some a => if a.write ∧ cause ≠ 0 then
          let d := if cause = 1 then (d.noteTimeout o).expireOrig o else if !o.sent then d.expireOrig o
            else (if cause = 3 then d.noteDone o else d).dropOrig o
          ((d.issueWaiting q).memFailed a cause).abortFailed
        else d
      | none => d
    | _ => d

def execMemoryWriteFail (q : Fin 128) (slot gen : Nat) (cause : Fin 4) (s : State) : Host.Outcome State Fault Refusal :=
  liveLift (effMemoryWriteFail q slot gen cause) s

/-- WRITE_BACK_COMPLETE (R156): the memory device has completed the write-back of a line, or says it was not performed
(R204). -/
def effWriteBackComplete (s k : Nat) (performed : Bool) (d : Dev) : Dev :=
  match d.pool.accesses.find? (fun a => a.slice == s && a.key == k && kindOf a == 1 && a.write) with
  | none => d
  | some a => if performed then (d.closeOrig a.id).memDone a 0 false else ((d.closeOrig a.id).memFailed a 3).abortFailed

def execWriteBackComplete (s : Fin 16) (key : Nat) (performed : Bool) (st : State) : Host.Outcome State Fault Refusal :=
  liveLift (effWriteBackComplete s key performed) st

/-! Tiering (R219 to R221). -/

/-- Tiering runs. -/
def Dev.tiering (d : Dev) : Bool := d.get Obj.tierEnable == 1 && d.service

/-- TIER_FOLD: every count is folded into ACCESS and starts again. -/
def effTierFold (d : Dev) : Dev :=
  if d.tiering then
    d.forEach (List.range 16) fun s d =>
      ((d.tlb s).foldl (fun d t => d.foldCount t) d).setTlb s fun l => l.map fun t => { t with count := 0 }
  else d

def execTierFold (s : State) : Host.Outcome State Fault Refusal := liveLift effTierFold s

/-- The tier of a page's device. -/
def Dev.tierOf (d : Dev) (e : Nat) : Nat := d.get (Obj.memdevTier (entryDev e))

/-- A tier has a FREE page; it exists when a READY device has it. -/
def Dev.tierFree (d : Dev) (t : Nat) : Bool := (d.rotation t).any fun m => d.freeOf m ≠ []

/-- The FREE share of a tier is below TIER_FREE_TARGET. -/
def Dev.tierShort (d : Dev) (t : Nat) : Bool :=
  decide (100 * ((d.rotation t).map fun m => (d.freeOf m).length).sum <
    d.get Obj.tierFreeTarget * ((d.rotation t).map fun m => d.get (Obj.memdevPages m)).sum)

/-- The tier that the sweep proposes for an entry (R220). -/
def Dev.tierWanted (d : Dev) (e : Nat) : Option Nat :=
  let t := d.tierOf e
  if 0 < t ∧ d.get Obj.promoteThreshold ≤ entryAccess e then (List.range t).find? d.tierFree
  else if ((List.range 4).any fun u => decide (t < u) && decide (d.rotation u ≠ [])) ∧
      entryAccess e ≤ d.get Obj.demoteThreshold ∧ d.tierShort t then
    (List.range 4).find? fun u => decide (t < u) && d.tierFree u
  else none

/-- A tiering migration of a page to a tier: a start that R212 refuses is counted in TIER_SKIPPED. -/
def Dev.tierMove (index tier : Nat) (d : Dev) : Dev :=
  match (d.tierPages 1 tier).head? with
  | none => d.count Obj.tierSkipped 1
  | some (m, p) =>
    if d.checkMigrate index m p = 0 then
      let up := decide (tier < d.tierOf (d.ledgerAt index))
      ((d.startMig index m p true).noteLast [(m, p)]).count (if up then Obj.promotions else Obj.demotions) 1
    else d.count Obj.tierSkipped 1

/-- The subject of a function 2 decision: index, source tier, proposed tier. -/
def tierSubject (index src dst : Nat) : Nat := index + src * 2 ^ 32 + dst * 2 ^ 40

/-- R221: a proposal. -/
def Dev.tierPropose (index tier : Nat) (d : Dev) : Dev :=
  if d.get Obj.tierMigrationLimit ≤ (d.pool.migs.filter (·.byTier)).length then d.count Obj.tierSkipped 1
  else
    let subj := tierSubject index (d.tierOf (d.ledgerAt index)) tier
    if !d.assisted 2 then d.tierMove index tier
    else if d.canHold 2 then d.hold [] (sourceId 15 0) 2 subj tier
    else d.overflow (sourceId 15 0) 2 subj

/-- The next VALID entry at or after an index, wrapping. -/
def Dev.nextValid (d : Dev) (i : Nat) : Option (Nat × Nat) :=
  let l := d.pool.ledger.filter fun e => entryValid e.2
  match l.find? (fun e => decide (i ≤ e.1)) with
  | some e => some e
  | none => l.head?

/-- TIER_SWEEP: the sweep visits one VALID entry. -/
def effTierSweep (d : Dev) : Dev :=
  if d.tiering then
    match d.nextValid d.pool.sweep with
    | none => d
    | some (i, e) =>
      let d := d.setPool fun p => { p with sweep := i + 1 }
      if entryMigrating e then d
      else
        let d := match d.tierWanted e with
          | some t => d.tierPropose i t
          | none => d
        let e := d.ledgerAt i
        d.setPool fun p => { p with ledger := Tab.set 0 p.ledger i (setBits e 48 8 (entryAccess e / 2)) }
  else d

def execTierSweep (s : State) : Host.Outcome State Fault Refusal := liveLift effTierSweep s

end Sys2Proof.Machine
end

