-- ==== Sys2Proof/Machine/Customs.lean ====
section
/-!
DEFINITION. Customs (R262 to R285): masters, regions and epochs, the check, violations, impounds and release, and the
admission of a quay's messages to the core (R106, R178, R272, R376).
-/

namespace Sys2Proof.Machine

open Sys2Proof

/-! Masters (Table 9.1). -/

abbrev slotMaster (h : Nat) : Nat := h
abbrev endpointMaster (q : Nat) : Nat := 0x100 + q
abbrev instMaster (i : Nat) : Nat := 0x1000 + i
abbrev engineMaster (e : Nat) : Nat := 0x2000 + e

/-- A master whose table is writable. -/
def writableMaster (m : Nat) : Bool :=
  decide (m < 64) || decide (0x100 ≤ m ∧ m < 0x180) || decide (0x1000 ≤ m ∧ m < 0x2000)

/-- The master belongs to an absent unit (R2): a quay of lane tiles 6 and 7 of the W384. -/
def absentMaster (p : Part) (m : Nat) : Bool := decide (0x100 ≤ m ∧ m < 0x180) && quayAbsent p (m - 0x100)

/-- The privilege a writable master has by default; internal masters are privileged. -/
def defaultPrivilege (m : Nat) : Bool := !decide (0x1000 ≤ m ∧ m < 0x2000)

/-! Tables (R267 to R269, R274). -/

/-- A region entry: word 0, and word 1 above it. -/
def regionWord0 (r : Nat) : Nat := bits r 0 64
def regionWord1 (r : Nat) : Nat := bits r 64 64
def regionValid (r : Nat) : Bool := bitAt r 0
def regionFirst (r : Nat) : Nat := bits r 12 52
def regionLast (r : Nat) : Nat := bits r 76 52
def regionPriv (r : Nat) : Bool := bitAt r 4
def regionCache (r : Nat) : Nat := bits r 5 2
def regionStrict (r : Nat) : Bool := bitAt r 7

/-- The entry grants a kind: 1 read, 2 write, 3 atomic. -/
def regionGrants (r kind : Nat) : Bool := bitAt r kind

/-- A master's region of a number. -/
def CTable.region (t : CTable) (m n : Nat) : Nat := Tab.get 0 t.regions (256 * m + n)

/-- The VALID regions of a master, by number. -/
def CTable.regionsOf (t : CTable) (m : Nat) : List (Nat × Nat) :=
  ((t.regions.filter fun p => p.1 / 256 == m && regionValid p.2)).map fun p => (p.1 % 256, p.2)

/-- The master is privileged. -/
def CTable.privileged (t : CTable) (m : Nat) : Bool := (Tab.get 0 t.flips m == 1) != defaultPrivilege m

/-- The table in force since the last commit. -/
def Dev.newestTable (d : Dev) : CTable := d.customs.tables.headD {}

/-- The table that the checker of an input holds. -/
def Dev.tableAt (d : Dev) (input : Nat) : CTable := d.customs.tables.getD (Tab.get 0 d.customs.lag input) {}

/-- The epoch that the checker of an input holds. -/
def Dev.epochOfInput (d : Dev) (input : Nat) : Nat :=
  (d.get Obj.customsEpoch + 2 ^ 32 - Tab.get 0 d.customs.lag input) % 2 ^ 32

/-- A check: the crossbar input, the table that it uses with its epoch, and FLAGS of its record (Table 9.9). -/
structure Checker where
  input : Nat
  table : CTable
  epoch : Nat
  flags : Nat
  deriving DecidableEq, Repr

/-- The checker of an input, as it is at a check instant (R266, R274). -/
def Dev.checker (d : Dev) (input flags : Nat) : Checker :=
  { input := input, table := d.tableAt input, epoch := d.epochOfInput input, flags := flags }

/-- The check of a held request again, at a RELEASE: under the epoch in force (R281). -/
def Dev.checkerAgain (d : Dev) (input flags : Nat) : Checker :=
  { input := input, table := d.newestTable, epoch := d.get Obj.customsEpoch, flags := flags + 2 }

/-- A commit opens an epoch (R274): the new table is on its way to every checker. -/
def Dev.newTable (t : CTable) (d : Dev) : Dev :=
  (d.setCustoms fun c => { c with
    tables := t :: c.tables
    lag := (List.range 196).foldl (fun l k => Tab.set 0 l k (Tab.get 0 l k + 1)) c.lag }).put Obj.customsEpoch
      ((d.get Obj.customsEpoch + 1) % 2 ^ 32)

/-- Tables that no checker holds any more are forgotten. -/
def Dev.trimTables (d : Dev) : Dev :=
  d.setCustoms fun c => { c with tables := c.tables.take (listMax 0 (c.lag.map (·.2)) + 1) }

/-- EPOCH_REACHES_CHECKER (R274): the checker of an input takes the next table, whole. -/
def effEpochReachesChecker (k : Nat) (d : Dev) : Dev :=
  (d.setCustoms fun c => { c with lag := Tab.set 0 c.lag k (Tab.get 0 c.lag k - 1) }).trimTables

def execEpochReachesChecker (k : Fin 196) (s : State) : Host.Outcome State Fault Refusal :=
  liveLift (effEpochReachesChecker k) s

/-- Entries of the pool that are taken (R269). -/
def CTable.used (t : CTable) : Nat := (t.regions.filter fun p => regionValid p.2).length

/-- REGION_SET (R268). -/
def checkRegionSet (v : Nat) (d : Dev) : Nat :=
  let m := bits v 0 16
  let n := bits v 16 8
  let r := bits v 64 128
  if !writableMaster m ∨ absentMaster d.part m ∨ regionCache r = 3 ∨ bits v 24 40 ≠ 0 ∨ bits r 8 4 ≠ 0 ∨ bits r 64 12 ≠ 0 ∨
      (regionValid r ∧ regionLast r < regionFirst r) then Status.badValue
  else if regionValid r ∧ !regionValid (d.newestTable.region m n) ∧ 32768 ≤ d.newestTable.used then Status.resourceLimit
  else Status.success

def actRegionSet : Act :=
  { check := fun _ v d => checkRegionSet v d
    effect := fun _ v _ d => d.newTable { d.newestTable with
      regions := Tab.set 0 d.newestTable.regions (256 * bits v 0 16 + bits v 16 8)
        (if regionValid (bits v 64 128) then bits v 64 128 else 0) } }

def execRegionSet (c : Call) (v : Nat) (s : State) : Host.Outcome State Fault Refusal :=
  writeRow actRegionSet c Obj.regionSet v s

/-- REGION_CLEAR_MASTER (R269). -/
def actRegionClear : Act :=
  { check := fun _ v d => if writableMaster v ∧ !absentMaster d.part v then Status.success else Status.badValue
    effect := fun _ v _ d => d.newTable { d.newestTable with
      regions := d.newestTable.regions.filter fun p => p.1 / 256 != v } }

def execRegionClearMaster (c : Call) (v : Nat) (s : State) : Host.Outcome State Fault Refusal :=
  writeRow actRegionClear c Obj.regionClearMaster v s

/-- PRIVILEGE_SET (R274): only of a writable master. -/
def actPrivilegeSet : Act :=
  { check := fun _ v d => if writableMaster (bits v 0 16) ∧ !absentMaster d.part (bits v 0 16) ∧ bits v 16 8 ≤ 1 then Status.success
                          else Status.badValue
    effect := fun _ v _ d => d.newTable { d.newestTable with
      flips := Tab.set 0 d.newestTable.flips (bits v 0 16)
        (b2n ((bits v 16 8 == 1) != defaultPrivilege (bits v 0 16))) } }

def execPrivilegeSet (c : Call) (v : Nat) (s : State) : Host.Outcome State Fault Refusal :=
  writeRow actPrivilegeSet c Obj.privilegeSet v s

/-! Barriers (R275, R276). -/

/-- A checker is behind an epoch. -/
def Dev.checkerBehind (d : Dev) (E : Nat) : Bool := (List.range 196).any fun k => earlier (d.epochOfInput k) E

/-- Checked accesses of an earlier epoch that are open. -/
def Dev.openChecks (d : Dev) (E : Nat) : Nat := ((d.customs.opened.filter fun o => earlier o.epoch E).map (·.accesses)).sum

def actCustomsBarrier : Act :=
  { check := fun _ _ d => if d.get Obj.customsBarrierStatus = 1 then Status.busy else Status.success
    effect := fun _ _ _ d => d.putAll [(Obj.customsBarrierEpoch, d.get Obj.customsEpoch), (Obj.customsBarrierStatus, 1)] }

def execCustomsBarrier (c : Call) (v : Nat) (s : State) : Host.Outcome State Fault Refusal :=
  writeRow actCustomsBarrier c Obj.customsBarrier v s

/-- CUSTOMS_BARRIER_DONE (R275): the event is the STATE_CHANGE of the status. -/
def effCustomsBarrierDone (d : Dev) : Dev :=
  let E := d.get Obj.customsBarrierEpoch
  if d.get Obj.customsBarrierStatus = 1 ∧ !d.checkerBehind E ∧ d.openChecks E = 0 then
    (d.put Obj.customsBarrierStatus 2).stateChange (sourceId 14 0) Obj.customsBarrierStatus
  else d

def execCustomsBarrierDone (s : State) : Host.Outcome State Fault Refusal := liveLift effCustomsBarrierDone s

/-- CUSTOMS_BARRIER_EXPIRY (R276). -/
def effCustomsBarrierExpiry (d : Dev) : Dev :=
  if d.get Obj.customsBarrierStatus = 1 then
    (d.putAll [(Obj.customsBarrierStatus, 3), (Obj.barrierOutstanding, d.openChecks (d.get Obj.customsBarrierEpoch))]).stateChange
      (sourceId 14 0) Obj.customsBarrierStatus
  else d

def execCustomsBarrierExpiry (s : State) : Host.Outcome State Fault Refusal := liveLift effCustomsBarrierExpiry s

/-! The check (R24, R270, R271). -/

/-- A verdict: pass with the matching region (256: the default map), CACHE and ORDER; or a violation with its cause of
Table 9.9 and region. -/
inductive Verdict where
  | pass (region cache : Nat) (strict : Bool)
  | fail (cause region : Nat)
  deriving DecidableEq, Repr

/-- The check passes the access. -/
def Verdict.passes : Verdict → Bool
  | .pass _ _ _ => true
  | .fail _ _ => false

/-- R270: the check of a first byte against a table. `service` says whether the mode is a service mode (R24). -/
def CTable.check (t : CTable) (service : Bool) (m kind addr : Nat) : Verdict :=
  match (t.regionsOf m).filter fun p => decide (regionFirst p.2 ≤ addr / 4096 ∧ addr / 4096 ≤ regionLast p.2) with
  | [] => if service && t.privileged m then .pass 256 0 false else .fail 2 0xFFFF
  | [p] => if regionPriv p.2 && !t.privileged m then .fail 4 p.1
           else if regionGrants p.2 kind then .pass p.1 (regionCache p.2) (regionStrict p.2) else .fail 1 p.1
  | p :: _ => .fail 3 p.1

/-- The Host quay to whose virtual hierarchy an endpoint's quay is bound. -/
def Dev.hierarchyOf (d : Dev) (q : Nat) : Option Nat := (d.mgmt.vppbs.find? fun b => b.2.2 == q).map (·.1)

/-! Impounds and violations (R277 to R281). -/

/-- The master is IMPOUNDED at the checker of an input. -/
def Dev.impoundedAt (d : Dev) (input m : Nat) : Bool :=
  d.customs.impounds.any fun x => x.master == m && (x.everywhere || x.input == input)

/-- The master is IMPOUNDED. -/
def Dev.impounded (d : Dev) (m : Nat) : Bool := d.customs.impounds.any (·.master == m)

/-- A master becomes IMPOUNDED at a checker, a further one too while the impound is on its way to it (R279). -/
def Dev.impound (m input : Nat) (everywhere : Bool) (d : Dev) : Dev :=
  if d.impoundedAt input m then d
  else d.setCustoms fun c => { c with impounds := c.impounds ++ [{ master := m, input := input, everywhere := everywhere }] }

/-- The masters that are IMPOUNDED. -/
def Customs.frozen (c : Customs) : List Nat := (c.impounds.map (·.master)).eraseDups

/-- IMPOUND_PROPAGATION (R279): the impound is in force at every checker. -/
def effImpoundPropagation (m : Nat) (d : Dev) : Dev :=
  d.setCustoms fun c => { c with impounds := c.impounds.map fun x => if x.master = m then { x with everywhere := true } else x }

def execImpoundPropagation (master : Nat) (s : State) : Host.Outcome State Fault Refusal :=
  liveLift (effImpoundPropagation master) s

/-- Table 9.9. -/
def Dev.violationRecord (d : Dev) (k : Checker) (m cause kind region addr : Nat) : Nat :=
  m + cause * 2 ^ 16 + kind * 2 ^ 24 + region * 2 ^ 32 + k.input * 2 ^ 48 + k.flags * 2 ^ 56 + addr * 2 ^ 64 + d.time * 2 ^ 128 +
    k.epoch * 2 ^ 192

/-- R277, R278: a violation is counted and recorded, and its master becomes IMPOUNDED unless Table 9.2 says otherwise. -/
def Dev.violate (k : Checker) (m cause kind region addr : Nat) (frozen : Bool) (d : Dev) : Dev :=
  let rec' := d.violationRecord k m cause kind region addr
  let d := (d.count Obj.violationCount 1).put Obj.lastViolation rec'
  let d := d.setCustoms fun c => { c with
    violations := if Tab.get 0 c.counts m = 0 then Tab.set 0 c.violations m rec' else c.violations
    counts := Tab.set 0 c.counts m (satAdd 32 (Tab.get 0 c.counts m) 1) }
  (if frozen then d.impound m k.input false else d).err { typ := 32, inst := k.input, report := rec' }

/-- An access passes: it is open in its epoch until it completes (R274). The second result is its check. -/
def Dev.openCheck (k : Checker) (m region : Nat) (write : Bool) (d : Dev) : Dev × Nat :=
  (d.setCustoms fun c => { c with
    nextCheck := c.nextCheck + 1
    opened := c.opened ++ [{ id := c.nextCheck, epoch := k.epoch, master := m, region := region, write := write }] },
   d.customs.nextCheck)

/-! Internal masters (R262, R264). -/

/-- A built-in region of a Crane internal master (R264): pages of a device, read and write, privileged, uncached and
relaxed, in the layout of Table 9.4. -/
def poolRegion (m first pages : Nat) : Nat :=
  let a := m * 2 ^ 48 + first * 2 ^ 21
  87 + a + (a + pages * 2 ^ 21 - 4096) * 2 ^ 64

/-- The built-in regions of a Crane internal master: one for each enabled device, two around the Ledger's region. -/
def Dev.builtIn (d : Dev) : List Nat :=
  ((List.range 64).filter fun m => d.get (Obj.memdevEnable m) == 1).flatMap fun m =>
    let n := d.get (Obj.memdevPages m)
    if m = d.get Obj.ledgerDevice then
      let a := min n (d.get Obj.ledgerDevicePage)
      let b := a + d.regionPages.length
      (if a = 0 then [] else [poolRegion m 0 a]) ++ (if n ≤ b then [] else [poolRegion m b (n - b)])
    else if n = 0 then [] else [poolRegion m 0 n]

/-- The master is a Crane internal one; it is a Harbourmaster core's. -/
def engineKind (m : Nat) : Bool := decide (0x2000 ≤ m ∧ m < 0x2010)
def coreKind (m : Nat) : Bool := decide (0x2010 ≤ m ∧ m < 0x2018)

/-- The BAR windows of management space: those of partners bound into no virtual hierarchy, by quay. -/
def Dev.mgmtWindows (d : Dev) : List (Nat × Nat × Nat) :=
  (d.customs.windows.filter fun p => (d.hierarchyOf p.1).isNone).map fun p => (p.1, p.2.1, p.2.2)

/-- The built-in region of a core for a window: read and write, privileged, uncached and strict. -/
def windowRegion (first last : Nat) : Nat := 215 + first * 2 ^ 12 + last * 2 ^ 76

/-- The built-in regions of an internal master, by number. -/
def Dev.internalRegions (d : Dev) (m : Nat) : List Nat :=
  if engineKind m then d.builtIn else if coreKind m then d.mgmtWindows.map fun w => windowRegion w.2.1 w.2.2 else []

/-- The check of an internal master, which is privileged, against its built-in regions (R264, R270). -/
def Dev.internalCheck (d : Dev) (m kind addr : Nat) : Verdict :=
  CTable.check { regions := (d.internalRegions m).zipIdx.map fun p => (256 * m + p.2, p.1) } d.service m kind addr

/-- An access of an internal master enters at an input: it passes, with the check that stays open until its accesses have completed
(Table 9.7), or it is a violation. -/
def Dev.internalAccess (input m kind addr n : Nat) (own : Option OwnWork) (d : Dev) : Dev × Option Nat :=
  let k := d.checker input 0
  match d.internalCheck m kind addr with
  | .pass region _ _ =>
    let r := d.openCheck k m region (kind != 1)
    (r.1.setCustoms fun c => { c with
      opened := c.opened.map fun o => if o.id = r.2 then { o with accesses := n, own := own } else o }, some r.2)
  | .fail cause region => (d.violate k m cause kind region addr true, none)

/-- The address of a line of a page in pool device space (R262). -/
def poolAddr (m page line : Nat) : Nat := m * 2 ^ 48 + page * 2 ^ 21 + line * 64

/-! What Customs checks of a quay's messages (Table 9.3). -/

/-- The kind of a message that is checked; 0 for one that is not. -/
def kindOfMsg (m : Msg) : Nat :=
  match m.chan with
  | .posted | .nonPosted => match m.sort with
    | .memRead => 1 | .memWrite => 2 | .atomic => 3 | .config | .mctp | .other => 0
  | .m2sReq => match m.op with
    | .sharedRd | .uncachedRd => 1
    | .ownRd | .memInv => 2
    | _ => 0
  | .m2sRwD => 2
  | _ => 0

/-- The quay leads to a memory device of the pool. -/
def Dev.memQuay (d : Dev) (q : Nat) : Bool :=
  (List.range 64).any fun m => d.get (Obj.memdevEnable m) == 1 && d.get (Obj.memdevQuay m) == q

/-- Who a checked message is charged to: a master, or nobody with a table (Table 9.2: the ID of the record and whether it
becomes IMPOUNDED), or the message is not checked. -/
inductive Charge where
  | master (m : Nat)
  | nobody (id : Nat) (frozen : Bool)
  | unchecked
  deriving DecidableEq, Repr

def Dev.chargeOf (d : Dev) (q : Nat) (m : Msg) : Charge :=
  match d.role q with
  | 1 => match d.slotOf 1 q with
    | some h => .master (slotMaster h)
    | none => if isIo m.chan then .nobody (0x200 + q) false else .unchecked
  | 2 => if (d.hierarchyOf q).isSome && !d.memQuay q then .master (endpointMaster q) else .nobody (endpointMaster q) true
  | 3 => match d.slotOf 2 m.source with
    | some h => .master (slotMaster h)
    | none => .nobody (0x4000 + m.source) false
  | _ => .nobody (0x200 + q) false

/-- R272: the request crosses a 4 KiB boundary, as one longer than 4 KiB does. No message of more than 4 KiB of data is queued (R107). -/
def crosses4K (m : Msg) : Bool :=
  decide (4096 < m.len) || isIo m.chan && kindOfMsg m != 0 && decide (m.addr / 4096 ≠ (m.addr + max 1 m.size - 1) / 4096)

/-! Answers and onward passage. -/

/-- A message of a quay is refused (Tables 9.8 and 13.2): the answer goes back to the quay; a posted write is discarded.
`status` 1 is Completer Abort or no write, 2 is Unsupported Request. -/
def Dev.refuseMsg (q level status : Nat) (m : Msg) (d : Dev) : Dev := (d.freeMsg q m).answerBack q level status m

/-- The space of a message is free at once, unless a traffic generator made it. -/
def Dev.freeReal (q : Nat) (test : Bool) (m : Msg) (d : Dev) : Dev := if test then d else d.freeMsg q m

/-- A decoded request goes to its home slice. A Basin is UP only with every slice of its set active, so one whose home is not active is
answered by Table 6.8 at ingress (Table 14.6). -/
def Dev.enterHome (q k n : Nat) (test : Bool) (a : Access) (m : Msg) (d : Dev) : Dev :=
  let a := { a with key := k, index := d.indexOf k, berth := n }
  if isBasinKey k ∧ d.get (Obj.sliceState (d.doorOf k)) ≠ 0 then ((d.freeReal q test m).refuseAccess (16 + q) a).rejectWrite a
  else d.quayToSlice q (d.doorOf k) a.level
    { msg := m, acc := some a, chk := a.chk, master := a.master, priv := a.priv, made := test }

/-- A request whose Remote berth names this device's own ID as its home is local (R98): it is treated as one from the slot that is bound
to that ID (DESIGN CHOICE, log entry 114), and is not forwarded where that slot's berth is Remote again. -/
def Dev.forwardSelf (q : Nat) (test : Bool) (a : Access) (m : Msg) (d : Dev) : Dev :=
  let id := d.get Obj.fabricId
  match d.slotOf 2 id with
  | none => (d.freeReal q test m).decodeFault (16 + q) 1 a
  | some h => match d.decodeHpa h m.addr with
    | .fault code n => (d.freeReal q test m).decodeFault (16 + q) code { a with host := h, berth := n }
    | .remote _ _ => ((d.notForwarded q id).freeReal q test m).refuseAccess (16 + q) a
    | .key k n => d.enterHome q k n test { a with host := h } m

/-- R103: a request for a line at another device is sent to it; the device is its initiator. With no route it is not
forwarded (R99). -/
def Dev.forwardRemote (q id : Nat) (test : Bool) (a : Access) (m : Msg) (d : Dev) : Dev :=
  if id = d.get Obj.fabricId then d.forwardSelf q test a m else
  match d.route (some q) id with
  | none => ((d.notForwarded q id).freeReal q test m).refuseAccess (16 + q) a
  | some out =>
    let acc : MemAcc := { id := d.pool.nextAcc, slice := 16, key := 0, dev := 64, line := 0, epoch := d.epoch, index := 0, quay := out
                          write := isWrite a.op, goal := .forward a }
    (d.setPool fun p => { p with nextAcc := p.nextAcc + 1, accesses := p.accesses ++ [acc] }).issue
      { quay := out, ini := .mem acc.id, msg := { m with dest := id, source := d.get Obj.fabricId }, unit := 16 + q, level := a.level
        made := test }

/-- What the filters of counters see of a message: the master charged and its privilege in the newest table. -/
def Dev.msgWho (d : Dev) (q level : Nat) (m : Msg) : Who :=
  { master := match d.chargeOf q m with
      | .master ms => ms
      | .nobody id _ => id
      | .unchecked => 0xFFFF
    priv := match d.chargeOf q m with
      | .master ms => d.newestTable.privileged ms
      | _ => false
    addr := m.addr, cls := classOf m.chan level }

/-- A CXL.mem request of a slot that has passed the check is decoded (R178) and goes to its home. `test`: a request of a traffic
generator, which no host is answered for. -/
def Dev.admitPooled (q h level cache : Nat) (strict : Bool) (chk : Nat) (test : Bool) (m : Msg) (d : Dev) : Dev :=
  let a : Access := { host := h, tag := m.tag, quay := q, key := 0, index := 0, op := m.op, data := m.data, be := m.be, poison := m.poison, attr := cache
                      level := level, hpa := m.addr, berth := 0xFFFF, chk := chk, strict := strict
                      master := slotMaster h, priv := (d.msgWho q level m).priv, internal := test
                      pbr := if d.role q = 3 then some m.source else none }
  let d := d.event (0xC100 + q) 0x05 1 (d.msgWho q level m)
  match d.decodeHpa h m.addr with
  | .fault code n => (d.freeReal q test m).decodeFault (16 + q) code { a with berth := n }
  | .remote id n => d.forwardRemote q id test { a with berth := n } m
  | .key k n => d.enterHome q k n test a m

/-- A message that has arrived on a quay, as a core flit that holds all its space. -/
def arriving (q out level time : Nat) (i : Item) : CoreFlit :=
  { inp := q, out := out, cls := classOf i.msg.chan level, ch := i.msg.chan, units := unitsOf i.msg.len, left := unitsOf i.msg.len
    admitted := time, reserved := unitsOf i.msg.len, data := decide (i.msg.len ≠ 0), items := [i] }

/-- A PCIe or CXL.io message goes to the quay that routing selects; a strict region clears its relaxed attributes (R273).
A checked non-posted request is open until its completion leaves (Table 9.7). Toward a DOWN quay it is treated at once
(R130). -/
def Dev.admitIo (q level : Nat) (strict : Bool) (chk : Nat) (test : Bool) (m : Msg) (d : Dev) : Dev :=
  let m := if strict then { m with relaxed := false } else m
  let w := d.msgWho q level m
  let d := if isResponse m.chan then d else d.event (0xC100 + q) 0x05 1 w
  let i : Item := { msg := m, chk := chk, master := w.master, priv := w.priv, made := test }
  if !d.alive m.dest then d.flushItem m.dest (arriving q m.dest level d.time i) i
  else
    let d := if chk ≠ 0 ∧ m.chan = .nonPosted then
        d.setCustoms fun c => { c with forwarded := c.forwarded ++ [{ check := chk, quay := q, tag := m.tag, egress := m.dest }] }
      else d
    d.quayToQuay q m.dest level i

/-- A message goes on after its check. Outside the service modes a memory request that passes is refused (R376), unless a
traffic generator sent it (R443). -/
def Dev.admitPassed (k : Checker) (q level region cache : Nat) (strict : Bool) (ms : Nat) (test : Bool) (m : Msg) (d : Dev) : Dev :=
  if !d.service ∧ !test ∧ kindOfMsg m ≠ 0 then d.refuseMsg q level 2 m
  else
    let o := d.openCheck k ms region (kindOfMsg m != 1)
    if isIo m.chan then o.1.admitIo q level strict o.2 test m
    else o.1.admitPooled q (ms % 64) level cache strict o.2 test m

/-- The Host quays of members behind this device of Basins at another one: their slots have an enabled berth whose home it is (DESIGN
CHOICE, log entry 114: R103 names the members, which only their home device knows, and a BISnp names none of them). -/
def Dev.relayQuays (d : Dev) (home : Nat) : List Nat :=
  ((List.range 64).filter fun h => d.get (Obj.slotKind h) == 1 && ((List.range 16).map (16 * h + ·)).any fun n =>
    d.get (Obj.berthEnable n) == 1 && d.get (Obj.berthKind n) == 2 && d.get (Obj.berthHomeId n) == home).map fun h =>
      d.get (Obj.slotSource h)

/-- R103: a BISnp from a home device is relayed to its members' quays. -/
def Dev.relaySnoop (q : Nat) (m : Msg) (d : Dev) : Dev :=
  let l := (d.relayQuays m.source).filter fun p => d.alive p && (d.quay p).bi
  (l.foldl (fun d p => d.quayToQuay q p 3 { msg := m, made := true }) d).setNet fun n => { n with
    relays := if l = [] then n.relays else n.relays ++ [(m.source, m.addr, l)] }

/-- R103: the last member's BIRsp to a relayed snoop goes back to the home device, for all of them (DESIGN CHOICE, log entry 114). -/
def Dev.relayAnswer (q : Nat) (m : Msg) (d : Dev) : Dev :=
  match d.net.relays.find? fun r => r.2.1 == m.addr && r.2.2.contains q with
  | none => d
  | some r =>
    let rest := r.2.2.filter (· != q)
    let d := d.setNet fun n => { n with
      relays := n.relays.erase r ++ (if rest = [] then [] else [(r.1, r.2.1, rest)]) }
    if rest = [] then d.sendPbr (16 + q) 3 { m with dest := r.1, source := d.get Obj.fabricId } else d

/-- A request to the device's own port on a quay. Its registers and messages are commands of their own; what a completion carries of
the base specification's configuration registers, the spec does not give (a free value, log entry 120). -/
def Dev.answerOwn (q : Nat) (m : Msg) (d : Dev) : Dev := if m.chan = .nonPosted then (d.send (.complete q m.tag 0 d.draw)).drawn else d

/-- A message that Customs does not check goes on: one to the device's own port ends there; a message of the CXL.mem response channels is taken by the unit that
awaits it through the command for its arrival; a snoop of another home and its answer are relayed; one of a memory device on a
Downstream quay ends here, for no rule lets a memory device hold back a line of the pool (R54; DESIGN CHOICE, log entry 112); a clean
eviction goes to its home; the rest is routed. -/
def Dev.admitUnchecked (q level : Nat) (m : Msg) (d : Dev) : Dev :=
  if isIo m.chan ∧ !isResponse m.chan ∧ m.dest = q then (d.freeMsg q m).answerOwn q m
  else if isIo m.chan then d.admitIo q level false 0 false m
  else if m.chan = .biSnp then if d.role q = 3 then (d.freeMsg q m).relaySnoop q m else d.freeMsg q m
  else if m.chan = .biRsp then (d.freeMsg q m).relayAnswer q m
  else match m.chan, d.slotOf (if d.role q = 3 then 2 else 1) (if d.role q = 3 then m.source else q) with
    | .m2sReq, some h => if d.service then d.admitPooled q h level 0 false 0 false m else d.refuseMsg q level 2 m
    | .m2sReq, none | .m2sRwD, none =>
      (d.freeMsg q m).decodeFault (16 + q) 1
        { host := 0xFF, tag := m.tag, quay := q, key := 0, index := 0, op := m.op, level := level
          hpa := m.addr, berth := 0xFFFF, pbr := if d.role q = 3 then some m.source else none }
    | _, _ => d.freeMsg q m

/-- A request that Customs refuses is counted and traced (R431, R438). -/
def Dev.noteRefused (q level : Nat) (m : Msg) (d : Dev) : Dev :=
  let w := d.msgWho q level m
  let d := d.event (0xC100 + q) 0x08 1 w
  if d.get Obj.traceState = 1 then d.traceMsg q w.cls w.master w.priv 2 m else d

/-- The check of one message at its input, and what follows (R266, R270, R277). -/
def Dev.checkMsg (k : Checker) (q level : Nat) (m : Msg) (d : Dev) : Dev :=
  match d.chargeOf q m with
  | .unchecked => d.admitUnchecked q level m
  | .nobody id frozen =>
    let d := (d.noteRefused q level m).violate k id 2 (kindOfMsg m) 0xFFFF m.addr frozen
    (if m.chan = .posted then d.send (.aer q 2) else d).refuseMsg q level 1 m
  | .master ms => match k.table.check d.service ms (kindOfMsg m) m.addr with
    | .pass region cache strict => d.admitPassed k q level region cache strict ms false m
    | .fail cause region =>
      let d := (d.noteRefused q level m).violate k ms cause (kindOfMsg m) region m.addr true
      (if m.chan = .posted then d.send (.aer q 2) else d).refuseMsg q level 1 m

/-- A request of a traffic generator (R443): charged and checked as though the quay's partner had sent it. -/
def Dev.checkTest (k : Checker) (q level : Nat) (m : Msg) (d : Dev) : Dev :=
  match d.chargeOf q m with
  | .master ms => match k.table.check d.service ms (kindOfMsg m) m.addr with
    | .pass region cache strict => d.admitPassed k q level region cache strict ms true m
    | .fail cause region => (d.noteRefused q level m).violate k ms cause (kindOfMsg m) region m.addr true
  | .nobody id frozen => (d.noteRefused q level m).violate k id 2 (kindOfMsg m) 0xFFFF m.addr frozen
  | .unchecked => d

/-- The crossbar input at which a message of a quay enters (R110), and so is checked: a wide quay has one for each of its channels. A
request that no berth decodes goes no further, and is checked at the first. -/
def Dev.inputOf (d : Dev) (q level : Nat) (m : Msg) : Nat :=
  let toward (out : Nat) : Nat := (d.toQuay (16 + q) out (classOf m.chan level) m.chan).1
  if isIo m.chan then toward m.dest
  else match (d.slotOf (if d.role q = 3 then 2 else 1) (if d.role q = 3 then m.source else q)).map fun h => d.decodeHpa h m.addr with
    | some (.key k _) => (d.toSlice (16 + q) (d.doorOf k)).1
    | some (.remote id _) => ((d.route (some q) id).map toward).getD q
    | _ => q

/-- The master that holds a message back at its input. -/
def Dev.heldBy (d : Dev) (q input : Nat) (m : Msg) : Option Nat :=
  match d.chargeOf q m with
  | .master ms => if d.impoundedAt input ms then some ms else none
  | .nobody id _ => if d.impoundedAt input id then some id else none
  | .unchecked => none

/-- A window of the collector stops new requests of a quay (Table 14.3). -/
def Dev.quayWindow (d : Dev) (q : Nat) : Bool :=
  [1, 2].any fun c => d.get (Obj.classState c) == 1 &&
    (let src := d.get (Obj.firstSource c)
     let g := src / 1024
     let i := src % 1024
     ((g == 2 || g == 5) && i == q) || (g == 6 && d.slotQuayNow i == q) ||
     (g == 8 && decide (i < 128) && d.quayOfPort i == q) || g == 9 || g == 11 || g == 21 || (g == 8 && decide (192 ≤ i)))

/-- R353: a quay that requires IDE without a SECURE link stream admits no request to a VOQ. -/
def Dev.ideStops (d : Dev) (q : Nat) : Bool := d.get (Obj.ideRequired q) == 1 && d.get (Obj.ideLinkState q) != 2

/-- Configuration requests, DOE and MCTP to the device itself, by its own port on the quay, which such a quay admits. -/
def toDevice (q : Nat) (m : Msg) : Bool := isIo m.chan && (m.sort == .config || m.sort == .mctp) && m.dest == q

/-- A Malformed TLP is dropped unchecked (R272). -/
def Dev.malformed (q : Nat) (m : Msg) (d : Dev) : Dev :=
  (((d.freeMsg q m).count Obj.malformedDrops 1).send (.aer q 1)).err { typ := 6, inst := q, unit := q }

/-- A message whose units the governor meters: responses, snoops and back-invalidates are not (R321). -/
def meteredMsg (m : Msg) : Bool := !isResponse m.chan && m.chan != .biSnp

/-- A whole message of a quay that is UP is admitted (R106). Responses always pass; a request waits while its quay
is in a window, lacks IDE, or its master is IMPOUNDED, and while the governor holds metered work back. -/
def Dev.admitMessage (q : Nat) (m : Msg) (d : Dev) : Dev :=
  let level := d.levelOf q m
  let e := d.payloadIn q m.len (d.msgWho q level m)
  if !d.isUp q || !d.receives q m.chan then d
  else if isResponse m.chan then if crosses4K m then e.malformed q m else e.admitUnchecked q level m
  else if d.quayWindow q ∨ (d.ideStops q ∧ !toDevice q m) ∨ (d.metered ∧ meteredMsg m) then d
  else if crosses4K m then e.malformed q m
  else if kindOfMsg m = 0 then e.admitUnchecked q level m
  else
    let i := d.inputOf q level m
    match d.heldBy q i m with
    | some ms => e.setCustoms fun c => { c with held := c.held ++ [{ master := ms, input := i, quay := q, msg := m, level := level }] }
    | none => e.checkMsg (d.checker i (b2n (d.role q == 3))) q level m

/-! Release (R281). -/

/-- The held requests of a master. -/
def Dev.heldOf (d : Dev) (m : Nat) : List Held := d.customs.held.filter (·.master == m)

/-- A held request leaves its input. -/
def Dev.unhold (h : Held) (d : Dev) : Dev := d.setCustoms fun c => { c with held := c.held.erase h }

/-- RECHECK: the held requests in arrival order under the newest table, until one fails. -/
def Dev.recheck (m : Nat) : List Held → Dev → Dev
  | [], d => d
  | h :: rest, d =>
    if d.impounded m then d
    else Dev.recheck m rest ((d.unhold h).checkMsg (d.checkerAgain h.input (b2n (d.role h.quay == 3))) h.quay h.level h.msg)

/-- The master is free: its count and first record are cleared. -/
def Dev.freeMaster (m : Nat) (d : Dev) : Dev :=
  d.setCustoms fun c => { c with
    impounds := c.impounds.filter (·.master != m), counts := Tab.set 0 c.counts m 0, violations := Tab.set 0 c.violations m 0 }

/-- RELEASE. -/
def Dev.release (m mode : Nat) (d : Dev) : Dev :=
  let l := d.heldOf m
  let d := d.freeMaster m
  if mode = 0 then d.recheck m l
  else l.foldl (fun d h => (if h.msg.chan = .posted then (d.unhold h).send (.aer h.quay 2) else d.unhold h).refuseMsg h.quay h.level 1
    h.msg) d

/-- The status of a RELEASE (R281). -/
def checkRelease (v : Nat) (d : Dev) : Nat :=
  if 1 < bits v 16 8 then Status.badValue else if d.impounded (bits v 0 16) then Status.success else Status.wrongMode

/-- Held requests of a quay are discarded with no answer (R282). -/
def Dev.discardHeld (q : Nat) (d : Dev) : Dev := d.setCustoms fun c => { c with held := c.held.filter (·.quay != q) }

end Sys2Proof.Machine
end

