-- ==== Sys2Proof/Machine/Crane.lean ====
section
/-!
DEFINITION. Crane (R224 to R261): engines and allowances, rounds, descriptors and pieces, work queues, the Harbour function's
registers, instances and their reset.
-/

namespace Sys2Proof.Machine

open Sys2Proof

/-! Queues and engines. -/

def Dev.queue (d : Dev) (i q : Nat) : Option Queue := d.crane.queues.find? fun x => x.inst == i && x.qid == q

def Dev.setQueue (i q : Nat) (f : Queue → Queue) (d : Dev) : Dev :=
  d.setCrane fun c => { c with queues := c.queues.map fun x => if x.inst = i ∧ x.qid = q then f x else x }

/-- Accesses of a function that are not over are given up, with their checks. -/
def Dev.dropAccs (p : PieceAcc → Bool) (d : Dev) : Dev :=
  ((d.crane.accs.filter p).map (·.chk)).foldl (fun d c => d.closeCheck c) (d.setCrane fun c => { c with accs := c.accs.filter (!p ·) })

/-- A queue is ABSENT: what it still reads or moves is given up; its records and head word go on. -/
def Dev.dropQueue (i q : Nat) (d : Dev) : Dev :=
  let mine (x : Queue) : Bool := x.inst == i && x.qid == q
  let checks := (d.crane.queues.filter mine).flatMap fun x => x.exec.flatMap fun y => y.checks.map (·.2)
  (checks.foldl (fun d c => d.closeCheck c) (d.dropAccs fun x => x.inst == i && x.qid == q && decide (x.part < 6))).setCrane fun c =>
    { c with queues := c.queues.filter (!mine ·) }

def Dev.engine (d : Dev) (e : Nat) : Engine := Tab.get {} d.crane.engines e

def Dev.setEngine (e : Nat) (f : Engine → Engine) (d : Dev) : Dev :=
  d.setCrane fun c => { c with engines := Tab.set {} c.engines e (f (Tab.get {} c.engines e)) }

/-- The engine on which a queue runs (R226). -/
def Dev.engineOf (d : Dev) (i q : Nat) : Nat := byteAt (d.get Obj.engineMap) ((i + q) % 256)

/-- The slot of an instance's quay. -/
def Dev.slotOfInst (d : Dev) (i : Nat) : Option Nat := d.slotOf 1 (d.inst i).quay

/-- The crossbar input at which an engine's accesses are checked. -/
def engineInput (e : Nat) : Nat := 128 + 4 * e

/-- A bucket of an instance on an engine; with nothing to debit it stands at its clamp. -/
def Inst.bucket (x : Inst) (e : Nat) : Int := Tab.get 65536 x.buckets e

/-- The master that a function's accesses are charged to: its instance, or the host slot of an unbound PF (R250). -/
def Dev.funcMaster (d : Dev) (i : Nat) : Nat := if i < 4096 then instMaster i else slotMaster ((d.slotOfInst i).getD 0)

/-- The queues of the instance read HELD (R249, R255, R256). -/
def Dev.instHeld (d : Dev) (i : Nat) : Bool := !d.service || d.impounded (instMaster i) || (d.inst i).resetting

/-- The function's accesses are IMPOUNDED at the checker of an engine (R279). -/
def Dev.frozenOn (d : Dev) (e i : Nat) : Bool := d.impoundedAt (engineInput e) (d.funcMaster i)

/-- The queue reads HELD: its engine's checker holds its instance's accesses, or the instance's queues are held. -/
def Dev.queueHeld (d : Dev) (i qid : Nat) : Bool := !d.service || d.frozenOn (d.engineOf i qid) i || (d.inst i).resetting

/-- ACTIVE_ENGINE_COUNT. -/
def Dev.activeEngineCount (d : Dev) : Nat := ((List.range 16).filter fun e => d.get (Obj.engineState e) == 0).length

/-! Allowances (R227). -/

/-- A bucket gains and is clamped. -/
def gain (b g : Int) : Int := min 65536 (b + g)

/-- The SHARE that an instance's refills on an engine use (R228): as its last round there took it. -/
def Inst.shareOn (x : Inst) (e : Nat) : Nat := if Tab.get 0 x.shares e = 0 then x.share else Tab.get 0 x.shares e

/-- ALLOWANCE_REFILL: the engine's gain, and each instance's share of it. -/
def effAllowanceRefill (e : Nat) (d : Dev) : Dev :=
  let g : Int := (d.engine e).share * 480
  let d := d.setEngine e fun x => { x with bucket := gain x.bucket g }
  let f (x : Inst) : Inst :=
    { x with buckets := Tab.set 65536 x.buckets e (gain (x.bucket e) (g * (x.shareOn e : Int) / 100)) }
  d.setCrane fun c => { c with insts := c.insts.map fun p => (p.1, f p.2) }

def execAllowanceRefill (e : Fin 16) (s : State) : Host.Outcome State Fault Refusal := liveLift (effAllowanceRefill e) s

/-- A new round takes the shares that the next refill applies. -/
def Dev.takeShares (e : Nat) (d : Dev) : Dev :=
  (d.setEngine e fun x => { x with share := d.get Obj.craneShareInForce }).setCrane fun c => { c with
    insts := c.insts.map fun p => (p.1, { p.2 with shares := Tab.set 0 p.2.shares e p.2.share }) }

/-- An engine's work is debited. -/
def Dev.debitEngine (e n : Nat) (d : Dev) : Dev :=
  (d.setEngine e fun x => { x with bucket := x.bucket - n }).put (Obj.engineBytes e) (satAdd 64 (d.get (Obj.engineBytes e)) n)

/-! Descriptors (R225, R229 to R232, R242). -/

/-- A descriptor's operation in the numbers of the native format: 0 NOP, 1 COPY, 2 FILL, 3 ZERO, 4 COMPARE, 5 CRC; 0x80 to
0x82 administrative. -/
structure COp where
  op : Nat
  len : Nat
  src : Nat
  dst : Nat
  arg : Nat
  crc64 : Bool
  fence : Bool
  notify : Bool
  tag : Nat
  deriving DecidableEq, Repr

/-- Table 8.2 fields. -/
def nativeOp (r : Nat) : COp :=
  { op := byteAt r 0, len := bytesAt r 4 4, src := bytesAt r 8 8, dst := bytesAt r 16 8, arg := bytesAt r 24 8
    crc64 := byteAt r 32 == 1, fence := bitAt r 14, notify := bitAt r 13, tag := bytesAt r 2 2 }

/-- The operation of a W128 code. -/
def w128Code : Nat → Nat
  | 1 => 1 | 2 => 2 | 3 => 4 | 4 => 5 | _ => 6

/-- Table 8.5 fields. -/
def w128Op (r : Nat) : COp :=
  { op := w128Code (byteAt r 2), len := bytesAt r 4 4, src := bytesAt r 8 8, dst := bytesAt r 16 8, arg := bytesAt r 24 8
    crc64 := false, fence := bitAt r 29, notify := bitAt r 30, tag := 0 }

/-- The operation of an entry in a format. -/
def opOf (format raw : Nat) : COp := if format = 0 then nativeOp raw else w128Op raw

/-- The operation reads its source, writes its destination. -/
def COp.readsSrc (o : COp) : Bool := o.op == 1 || o.op == 4 || o.op == 5
def COp.writesDst (o : COp) : Bool := o.op == 1 || o.op == 2 || o.op == 3
def COp.readsDst (o : COp) : Bool := o.op == 4

/-- Fields that Table 8.2 requires to be 0. -/
def nativeRsvd (r : Nat) (o : COp) : Bool :=
  bits r 8 5 != 0 || bytesAt r 33 31 != 0 || ((o.op == 0 || o.op == 2 || o.op == 3) && o.src != 0) ||
  ((o.op == 0 || o.op == 5) && o.dst != 0) || (o.op != 2 && o.op != 5 && o.arg != 0) ||
  (o.op == 5 && byteAt r 32 == 0 && decide (2 ^ 32 ≤ o.arg)) || (o.op != 5 && byteAt r 32 != 0)

/-- Fields that Table 8.5 requires to be 0. -/
def w128Rsvd (r : Nat) (o : COp) : Bool :=
  bits r 24 5 != 0 || bits r 0 16 != 0 || bytesAt r 42 2 != 0 || bytesAt r 56 8 != 0 || (o.op == 2 && o.src != 0) ||
  (o.op == 5 && o.dst != 0)

/-- Fields that Table 8.9 requires to be 0. -/
def adminRsvd (r : Nat) : Bool :=
  let op := byteAt r 0
  bits r 8 5 != 0 || bytesAt r 6 2 != 0 || bytesAt r 16 48 != 0 || (op == 0x80 && bytesAt r 4 2 != 0) ||
  (op == 0x81 && bytesAt r 8 8 != 0)

/-- Two ranges of a length overlap. -/
def overlaps (a b n : Nat) : Bool := decide (a < b + n) && decide (b < a + n)

/-- Table 8.11: the code of a malformed entry, 0 for a good one; the lowest code that applies. `admin`: queue 0 of the large
model. -/
def validate (format : Nat) (admin : Bool) (r : Nat) : Nat :=
  let o := opOf format r
  if format = 0 ∧ admin ∧ 0x80 ≤ o.op ∧ o.op ≤ 0x82 then
    if adminRsvd r then 2 else if 4095 < bytesAt r 4 2 then 9 else 0
  else if 5 < o.op then 1
  else if (if format = 0 then nativeRsvd r o else w128Rsvd r o) then 2
  else if (if o.op = 0 then o.len ≠ 0 else o.len = 0 ∨ 1073741824 < o.len) then 3
  else if o.op = 1 ∧ overlaps o.src o.dst o.len then 4
  else if ((o.readsSrc ∧ 2 ^ 64 < o.src + o.len) ∨ ((o.writesDst ∨ o.readsDst) ∧ 2 ^ 64 < o.dst + o.len)) then 5
  else if o.op = 5 ∧ format = 0 ∧ 1 < byteAt r 32 then 6
  else 0

/-- R225: the pieces of two operand ranges from an offset on, cut at every 4 KiB boundary of either. -/
def cutPieces : Nat → Nat → Nat → Nat → Nat → List (Nat × Nat)
  | 0, _, _, _, _ => []
  | n + 1, src, dst, off, len =>
    if len = 0 then []
    else
      let p := min len (min (4096 - (src + off) % 4096) (4096 - (dst + off) % 4096))
      (off, p) :: cutPieces n src dst (off + p) (len - p)

/-- The pieces of an operation: offset and length. -/
def COp.pieces (o : COp) : List (Nat × Nat) :=
  let src := if o.readsSrc then o.src else o.dst
  let dst := if o.writesDst ∨ o.readsDst then o.dst else o.src
  if 0x80 ≤ o.op then [] else cutPieces (2 * (o.len / 4096) + 3) src dst 0 o.len

/-- CRC-32C of one byte, bits from the least significant (PRESUMED: the usual order of CRC-32C). -/
def crc32Byte (crc b : Nat) : Nat :=
  (List.range 8).foldl (fun c _ => if c % 2 = 1 then Nat.xor (c / 2) 0x82F63B78 else c / 2) (Nat.xor crc b)

/-- CRC-64 with the ECMA-182 polynomial of one byte, bits from the most significant (PRESUMED). -/
def crc64Byte (crc b : Nat) : Nat :=
  (List.range 8).foldl (fun c _ => if 2 ^ 63 ≤ c then Nat.xor (2 * c % 2 ^ 64) 0x42F0E1EBA9EA3693 else 2 * c)
    (Nat.xor crc (b * 2 ^ 56))

/-- R229: the CRC of n bytes from a seed. -/
def crcOf (wide : Bool) (seed v n : Nat) : Nat :=
  (List.range n).foldl (fun c i => (if wide then crc64Byte else crc32Byte) c (byteAt v i)) seed

/-- The FILL pattern from an offset: pattern byte (n mod 8) at DST + n. -/
def fillBytes (pattern off n : Nat) : Nat :=
  (List.range n).foldl (fun v i => v + byteAt pattern ((off + i) % 8) * 2 ^ (8 * i)) 0

/-- The offset of the lowest byte in which two pieces of n bytes differ. -/
def firstDiff (a b n : Nat) : Option Nat := (List.range n).find? fun i => byteAt a i != byteAt b i

/-! Accesses of an instance (R231, R250, R262). -/

/-- An access of a function to one line goes to its home, as an access of its slot (R231). One that no berth decodes any more ends as a
decode fault (Table 8.4). -/
def Dev.craneLine (i h attr line : Nat) (a : Access) (d : Dev) : Dev :=
  match d.decodeHpa h (64 * line) with
  | .key k bn =>
    d.arrive (d.homeOf k) { a with
      host := h, quay := (d.inst i).quay, key := k, index := d.indexOf k, attr := attr, hpa := 64 * line, berth := bn
      internal := true, master := d.funcMaster i, priv := d.newestTable.privileged (d.funcMaster i) }
  | .fault code _ => (d.pieceFails 5 code a).pieceAnswered a 0 true
  | .remote _ _ => (d.pieceFails 5 15 a).pieceAnswered a 0 true

/-- A line access of Crane is opened at its home (R224): reads are coherent and leave no trace in the directory (R142). -/
def Dev.openAcc (x : PieceAcc) (attr : Nat) (a : Access) (d : Dev) : Dev :=
  let n := d.crane.nextAcc
  let d := d.setCrane fun c => { c with accs := c.accs ++ [{ x with id := n }], nextAcc := n + 1 }
  match d.slotOfInst x.inst with
  | some h => d.craneLine x.inst h attr x.line { a with piece := some n }
  | none => (d.pieceFails 5 1 { a with piece := some n }).pieceAnswered { a with piece := some n } 0 true

/-- The part of a write of n bytes that falls in a line. -/
def lineWrite (hpa n v line : Nat) : Access :=
  let lo := max hpa (64 * line)
  let hi := min (hpa + n) (64 * line + 64)
  { host := 0, tag := 0, key := 0, index := 0, op := .write
    data := bytesAt v (lo - hpa) (hi - lo) * 2 ^ (8 * (lo - 64 * line)), be := (2 ^ (hi - lo) - 1) * 2 ^ (lo - 64 * line) }

/-- The lines of a range. -/
def linesOf (hpa n : Nat) : List Nat := (List.range ((hpa + n + 63) / 64 - hpa / 64)).map (hpa / 64 + ·)

/-- A write of n bytes for a function goes to the homes of its lines, under the berth's policy as a host's write does. -/
def Dev.craneWrite (x : PieceAcc) (attr hpa n v : Nat) (d : Dev) : Dev :=
  d.forEach (linesOf hpa n) fun l d => d.openAcc { x with line := l } attr (lineWrite hpa n v l)

/-- The accesses of a function outside pieces: what their `part` says (0 to 2 are the parts of a piece). -/
abbrev AccPart.ring : Nat := 3
abbrev AccPart.context : Nat := 4
abbrev AccPart.result : Nat := 5
abbrev AccPart.record : Nat := 6
abbrev AccPart.head : Nat := 7
abbrev AccPart.event : Nat := 8

/-- The check of a function's access at an engine's checker: the table, and FLAGS, say whether it is one of a held access (R281). -/
def Dev.craneChecker (d : Dev) (again : Bool) (e : Nat) : Checker :=
  if again then d.checkerAgain (engineInput e) 0 else d.checker (engineInput e) 0

/-- The verdict on a function's access on an engine. -/
def Dev.craneCheck (d : Dev) (e i kind addr : Nat) : Verdict :=
  (d.craneChecker false e).table.check d.service (d.funcMaster i) kind addr

/-- Accesses outside pieces that are over are forgotten, and their checks closed, once every access of a check is over (Table 9.7). -/
def Dev.sweepStores (d : Dev) : Dev :=
  let done := d.crane.accs.filter fun x => decide (AccPart.record ≤ x.part) && x.ended
  let rest := d.crane.accs.filter fun x => !(decide (AccPart.record ≤ x.part) && x.ended)
  let closed := (done.map (·.chk)).filter fun c => !rest.any (·.chk == c)
  closed.foldl (fun d c => d.closeCheck c) (d.setCrane fun c => { c with accs := rest })

/-- A write of a function outside pieces (`x` says for which queue, and what it is): checked, then carried out at the homes of its
lines; it is open until they have completed it (Table 9.7). -/
def Dev.storeFor (again : Bool) (e : Nat) (x : PieceAcc) (addr n v : Nat) (d : Dev) : Dev :=
  let k := d.craneChecker again e
  match k.table.check d.service (d.funcMaster x.inst) 2 addr with
  | .pass region cache _ =>
    let r := d.openCheck k (d.funcMaster x.inst) region true
    ((r.1.craneWrite { x with chk := r.2 } cache addr n v).send (.hostMem x.inst addr v)).sweepStores
  | .fail cause region => d.violate k (d.funcMaster x.inst) cause 2 region addr true

/-- A record or the head word of a queue has been sent and is not at its home yet. -/
def Dev.storing (d : Dev) (i qid : Nat) : Bool :=
  d.crane.accs.any fun x => x.inst == i && x.qid == qid && (x.part == AccPart.record || x.part == AccPart.head) && !x.ended

/-- The event ring of an instance is full (R250). -/
def Inst.evtFull (x : Inst) : Bool := (x.evtTail + 1) % x.evtEntries == x.evtHead

/-- R250: an event record is written at EVT_TAIL for the function, checked as its other writes are (Table 9.3), and EVT_VECTOR is
raised; a record that finds the ring full is dropped and sets EVT_OVERFLOW. -/
def Dev.ringStore (again : Bool) (i : Nat) (e : Event) (d : Dev) : Dev :=
  let x := d.inst i
  if x.evtEntries = 0 then d
  else if x.evtFull then d.setInst i fun x => { x with evtOverflow := true }
  else
    let d := (d.setInst i fun x => { x with evtTail := (x.evtTail + 1) % x.evtEntries }).storeFor again (d.engineOf i 0)
      { id := 0, inst := i, qid := 0, entry := x.evtTail, piece := 0, part := AccPart.event, line := 0 }
      (x.evtBase + 64 * x.evtTail) 64 e.record
    (d.send (.ringEvent i e)).msix i x.evtVector

/-- The event records that wait are written in the order they came; those of an IMPOUNDED function are held, from the first that its
checker refuses on. -/
def Dev.ringStores (d : Dev) : Dev :=
  let one (d : Dev) (p : Nat × Event) : Dev :=
    if d.frozenOn (d.engineOf p.1 0) p.1 then d.setCrane fun c => { c with ringWork := c.ringWork ++ [p] } else d.ringStore false p.1 p.2
  d.crane.ringWork.foldl one (d.setCrane fun c => { c with ringWork := [] })

/-- RELEASE with RECHECK: the held event records of a function are checked again at the commit (R281), up to the first that fails. -/
def Dev.ringAgain (i : Nat) (d : Dev) : Dev :=
  let one (d : Dev) (p : Nat × Event) : Dev :=
    if p.1 ≠ i ∨ d.frozenOn (d.engineOf i 0) i then d.setCrane fun c => { c with ringWork := c.ringWork ++ [p] } else d.ringStore true i p.2
  d.crane.ringWork.foldl one (d.setCrane fun c => { c with ringWork := [] })

/-! Completion (R230, R232, R236). -/

/-- The operation of a descriptor. -/
def Queue.op (q : Queue) (x : Desc) : COp := opOf q.ctx.format x.raw

/-- The descriptor takes no more pieces. -/
def Desc.stopped (x : Desc) (o : COp) : Bool :=
  decide (o.pieces.length ≤ x.issued) || decide (x.bad ≠ []) || x.cut.isSome || x.status.isSome

/-- Pieces in flight. -/
def Desc.flying (x : Desc) : List Nat := (List.range x.issued).filter fun k => !x.finished.contains k

/-- The engine on which a piece was issued. -/
def Desc.engineOf (x : Desc) (k : Nat) : Nat := Tab.get 0 x.engines k

/-- Pieces in flight on an engine: a piece stays on the engine that issued it, when its descriptor moves to another too (R257). -/
def Desc.flyingOn (x : Desc) (e : Nat) : List Nat := x.flying.filter fun k => x.engineOf k == e

/-- It has ended: an administrative command when it has its status, anything else when no piece is to come or in flight. -/
def Desc.ended (x : Desc) (o : COp) : Bool :=
  if 0x80 ≤ o.op then x.status.isSome || x.cut.isSome else x.stopped o && decide (x.flying = [])

/-- The earliest piece that failed. -/
def Desc.firstBad (x : Desc) : Option (Nat × Nat × Nat) :=
  (List.range x.issued).findSome? fun k => x.bad.find? fun b => b.1 == k

/-- The prefix done: the longest run of pieces from offset 0 that completed without error. -/
def Desc.prefixLen (x : Desc) (o : COp) : Nat :=
  let good := (List.range x.issued).takeWhile fun k => x.finished.contains k && !x.bad.any fun b => b.1 == k
  ((o.pieces.take good.length).map (·.2)).sum

/-- The lowest differing byte of a COMPARE. -/
def Desc.mismatch (x : Desc) (o : COp) : Option Nat :=
  (o.pieces.zipIdx).findSome? fun p =>
    (firstDiff (Tab.get 0 x.srcs p.2) (Tab.get 0 x.dsts p.2) p.1.2).map fun i => p.1.1 + i

/-- The CRC of a descriptor's source. -/
def Desc.crc (x : Desc) (o : COp) : Nat :=
  (o.pieces.zipIdx).foldl (fun c p => crcOf o.crc64 c (Tab.get 0 x.srcs p.2) p.1.2) (if o.crc64 then o.arg else o.arg % 2 ^ 32)

/-- STATUS, SUBCODE, BYTES_DONE and RESULT of a descriptor that has ended (Table 8.4). -/
def Desc.outcome (x : Desc) (o : COp) : Nat × Nat × Nat × Nat :=
  match x.status, x.firstBad, x.cut with
  | some st, _, _ => (st, 0, 0, 0)
  | none, some b, _ => (b.2.1, b.2.2, x.prefixLen o, 0)
  | none, none, some c => (3, c, x.prefixLen o, 0)
  | none, none, none =>
    match x.poisonAt with
    | some p => (6, 0, o.len, p)
    | none =>
      if o.op = 4 then match x.mismatch o with
        | some i => (1, 0, o.len, i)
        | none => (0, 0, o.len, 0)
      else if o.op = 5 then (0, 0, o.len, x.crc o)
      else (0, 0, o.len, 0)

/-- UNCERTAIN: a piece later than the failing one wrote, or a reason of the cut. -/
def Desc.unsure (x : Desc) : Bool :=
  x.uncertain || (match x.firstBad with
    | some b => x.wrote.any fun k => decide (b.1 < k)
    | none => false)

/-- Table 8.3. -/
def Desc.record (x : Desc) (o : COp) : Nat :=
  let r := x.outcome o
  r.1 + (r.2.1 + 16 * b2n x.unsure + 128 * b2n x.phase) * 2 ^ 8 + o.tag * 2 ^ 16 + r.2.2.1 * 2 ^ 32 + r.2.2.2 * 2 ^ 64

/-- Table 8.5 as written back: the status fields, OWN = 0, and every other field as fetched. -/
def Desc.writeBack (x : Desc) (o : COp) : Nat :=
  let r := x.outcome o
  setBits (setBits (setBits (setBits (setBit x.raw 31 false) 320 8 r.1) 328 8 (r.2.1 + 16 * b2n x.unsure)) 352 32 r.2.2.1)
    384 64 r.2.2.2

/-- The ring position after one. -/
def Queue.after (q : Queue) (i : Nat) : Nat := if i + 1 = q.ctx.ringEntries then 0 else i + 1

/-- The head stays at a PARTIAL descriptor of a reset or a disable. -/
def Desc.sticks (x : Desc) : Bool := x.status.isNone && x.bad == [] && (x.cut == some 1 || x.cut == some 3)

/-- How the writes of a queue are made: as they come, as those that a RELEASE checks again, or not performed (R281). -/
inductive Writing where
  | plain
  | again
  | discard
  deriving DecidableEq, Repr

/-- Write the record or write-back of a descriptor that has ended, and take it out of execution. -/
def Dev.retireOne (w : Writing) (e : Nat) (q : Queue) (x : Desc) (d : Dev) : Dev :=
  let o := q.op x
  let r := x.outcome o
  let a : PieceAcc := { id := 0, inst := q.inst, qid := q.qid, entry := x.entry, piece := 0, part := AccPart.record, line := 0 }
  let d := (if r.1 = 3 then d.count Obj.partialCompletions 1 else d).event (0xC300 + e) 0x42 1 { master := instMaster q.inst }
  let d := if w = .discard then d
           else if q.ctx.format = 0 then d.storeFor (w == .again) e a (q.ctx.complBase + 16 * x.entry) 16 (x.record o)
           else d.storeFor (w == .again) e a (q.ctx.ringBase + 64 * x.entry) 64 (x.writeBack o)
  d.setQueue q.inst q.qid fun k => { k with exec := k.exec.drop 1 }

/-- The head after a descriptor has left: past it, unless it is the first that stays there. -/
def Queue.pass (x : Desc) (q : Queue) : Queue :=
  if q.stuck then q
  else if x.sticks then { q with head := x.entry, headPhase := x.phase, stuck := true }
  else { q with head := q.after x.entry, headPhase := if q.after x.entry = 0 then !x.phase else x.phase }

/-- The queue may write nothing now: its instance is IMPOUNDED at the engine's checker, where its writes are held (R255), an earlier
record or head word is not at its home yet (R236), or the mode is Salvage (R259). -/
def Dev.writesWait (d : Dev) (e i qid : Nat) : Bool := d.frozenOn e i || d.storing i qid || d.mode == 5

/-- Ended descriptors leave in ring order, each record after the one before it is at its home. Only the first write can have been
held, so only it is checked again. -/
def Dev.retireN (w : Writing) (e i qid : Nat) : Nat → Dev → Dev
  | 0, d => d
  | n + 1, d =>
    match d.queue i qid with
    | none => d
    | some q => match q.exec.head? with
      | none => d
      | some x =>
        if !x.ended (q.op x) ∨ (w ≠ .discard ∧ d.writesWait e i qid = true) then d
        else
          ((d.retireOne w e q x).setQueue i qid fun k => { k.pass x with
            headDue := true, noticeDue := k.noticeDue || (q.op x).notify }).retireN (if w = .discard then w else .plain) e i qid n

/-- The head word: the first entry that has not completed, and its expected phase. -/
def Queue.headWord (q : Queue) : Nat := q.head + b2n q.headPhase * 2 ^ 32

/-- A head word that is due is written. -/
def Dev.writeHead (w : Writing) (i qid : Nat) (d : Dev) : Dev :=
  let e := d.engineOf i qid
  match d.queue i qid with
  | none => d
  | some k =>
    if !k.headDue ∨ d.writesWait e i qid then d
    else (d.setQueue i qid fun k => { k with headDue := false }).storeFor (w == .again) e
      { id := 0, inst := i, qid := qid, entry := k.head, piece := 0, part := AccPart.head, line := 0 } k.ctx.headAddr 8 k.headWord

/-- The vector that a notice asks for is raised, once the head word that covers its record is at its home. -/
def Dev.raiseNotice (i qid : Nat) (d : Dev) : Dev :=
  match d.queue i qid with
  | none => d
  | some k =>
    if !k.noticeDue ∨ k.headDue ∨ d.storing i qid then d
    else (d.setQueue i qid fun k => { k with noticeDue := false }).msix i k.ctx.vector

/-- Records in ring order, then the head word that covers them, then the MSI-X vector, each when the writes before it are at their
homes (R236). -/
def Dev.retireAs (w : Writing) (i qid : Nat) (d : Dev) : Dev :=
  match d.queue i qid with
  | none => d
  | some q =>
    let held := (q.exec.head?.map fun x => x.ended (q.op x)).getD false
    ((d.retireN w (d.engineOf i qid) i qid q.exec.length).writeHead (if held then .plain else w) i qid).raiseNotice i qid

def Dev.retire (i qid : Nat) (d : Dev) : Dev := d.retireAs .plain i qid

/-- The records and the head word of a queue that are held are discarded: their writes are not performed (R281). -/
def Dev.discardRecords (i qid : Nat) (d : Dev) : Dev :=
  match d.queue i qid with
  | none => d
  | some q => (d.retireN .discard (d.engineOf i qid) i qid q.exec.length).setQueue i qid fun k =>
      { k with headDue := false, noticeDue := false }

/-- A write of a queue is held at the checker of its engine: a record that is ready, or else a head word that is due. -/
def Dev.holdsStore (d : Dev) (q : Queue) : Bool :=
  d.frozenOn (d.engineOf q.inst q.qid) q.inst && !d.storing q.inst q.qid &&
    (q.headDue || (q.exec.head?.map fun x => x.ended (q.op x)).getD false)

/-- The accesses of a master that are held beside messages: of an instance, and event records. -/
def Dev.heldStores (d : Dev) (m : Nat) : Nat :=
  (d.crane.queues.filter fun q => instMaster q.inst == m && d.holdsStore q).length +
    (d.crane.ringWork.filter fun p => d.funcMaster p.1 == m && d.frozenOn (d.engineOf p.1 0) p.1).length

/-! Stops and validation (R243, R244, R247). -/

/-- The event of a queue that stops, to the managers and to the instance's ring: a STATE_CHANGE of INST_VIEW, since the
spec gives it no type of its own (DESIGN CHOICE, log entry 105). -/
def Dev.queueEvent (i e : Nat) (payload : Nat) (d : Dev) : Dev :=
  d.raiseTo [i] (info (sourceId 13 e) 0x8002 0 (0x1000 + i) (Obj.instView / 256 + Obj.instView % 256 * 2 ^ 16 + payload * 2 ^ 128))

/-- Instance, queue, index and code of a malformed entry: the subject of a function 7 decision. -/
def queueSubject (i qid index code : Nat) : Nat := i + qid * 2 ^ 16 + index * 2 ^ 32 + code * 2 ^ 64

/-- The head word of a queue that has stopped with no descriptor in execution names the entry at which it stands (R243). -/
def Dev.stoppedHead (i qid : Nat) (d : Dev) : Dev :=
  match d.queue i qid with
  | none => d
  | some q => if q.exec = [] then ((d.setQueue i qid fun k => { k with headDue := true }).writeHead .plain i qid).raiseNotice i qid else d

/-- The queue enters ERROR at an entry. Earlier descriptors complete, and then the head names it. -/
def Dev.queueError (i qid index code : Nat) (d : Dev) : Dev :=
  ((d.setQueue i qid fun q => { q with state := .error, errIndex := index, errCode := code, cache := [] }).queueEvent i
    (d.engineOf i qid) (queueSubject i qid index code)).stoppedHead i qid

/-- A malformed entry: ERROR in hardware mode; PAUSED, with a decision, in host-assisted mode. -/
def Dev.badEntry (i qid index : Nat) (phase : Bool) (raw code : Nat) (d : Dev) : Dev :=
  let d := d.count Obj.validationFailures 1
  let subj := queueSubject i qid index code
  let src := sourceId 13 (d.engineOf i qid)
  let pause := d.setQueue i qid fun q =>
    { q with state := .paused, paused := index, pausedRaw := raw, cache := [], fetch := index, phase := phase }
  if !d.assisted 7 then d.queueError i qid index code
  else if d.canHold 7 then pause.hold [i] src 7 subj 0
  else (d.overflow src 7 subj).queueError i qid index code

/-- A queue is held at an entry: the operation of a decision about it is still open (R244). -/
def Dev.pausedAt (d : Dev) (i qid index : Nat) : Bool :=
  ((d.queue i qid).map fun q => q.state == .paused && q.paused == index).getD false

/-- R244: ACCEPT: the entry is fetched again. -/
def Dev.valAccept (i qid : Nat) (d : Dev) : Dev := d.setQueue i qid fun q => { q with state := .running, fetch := q.paused }

/-- ALTERNATIVE: a record with status SKIPPED, and the queue runs on from the next entry. -/
def Dev.valSkip (i qid : Nat) (d : Dev) : Dev :=
  (d.setQueue i qid fun q => { q with
    state := .running, exec := q.exec ++ [{ entry := q.paused, phase := q.phase, raw := q.pausedRaw, status := some 2 }]
    fetch := q.after q.paused, phase := if q.after q.paused = 0 then !q.phase else q.phase }).retire i qid

/-! Rounds (R228). -/

/-- The engine may start something: it is active, not in a window (Table 14.3), and its bucket is at 0 or more. -/
def Dev.engineWindow (d : Dev) (e : Nat) : Bool :=
  [1, 2].any fun c => d.get (Obj.classState c) == 1 &&
    (let src := d.get (Obj.firstSource c)
     let g := src / 1024
     (g == 13 && src % 1024 == e) || g == 9 || g == 11 || g == 21 || (g == 8 && decide (192 ≤ src % 1024)))

def Dev.engineMay (d : Dev) (e : Nat) : Bool := !d.engineWindow e && decide (0 ≤ (d.engine e).bucket)

/-- The page is a Private berth's, or of a span whose Basin is UP (R218). -/
def Dev.spanRuns (d : Dev) (g : Mig) : Bool :=
  match d.berthOfIndex g.index, d.spanOfIndex g.index with
  | none, some b => d.basinState b == 1
  | _, _ => true

/-- The migration's page is copied now: not being fenced at its start, nor finished, nor with a home of the bale's lines fenced, nor
of a span whose Basin is not UP (R218). -/
def Dev.migRuns (d : Dev) (g : Mig) : Bool :=
  !g.copying && !g.finishing && !g.failed && !d.fenced g.index && !d.baleFenced g && d.spanRuns g

/-- The read and the write of each line of a bale are checked as the engine's own (R262, R265), then the reads start. A refused one is
failed as a failed write is, and the engine's own work stops (R277, R280). -/
def Dev.checkBale (e : Nat) (g : Mig) (d : Dev) : Dev :=
  let own := some (OwnWork.bale g.slot)
  let src := poolAddr g.srcDev g.srcPage (1024 * g.current)
  let dst := poolAddr g.dstDev g.dstPage (1024 * g.current)
  let r := d.internalAccess (engineInput e) (engineMaster e) 1 (if g.reversing then dst else src) 1024 own
  if r.2.isNone then r.1.baleFailed g 0 3
  else
    let w := r.1.internalAccess (engineInput e) (engineMaster e) 2 (if g.reversing then src else dst) 1024 own
    if w.2.isNone then w.1.baleFailed g 0 3 else w.1.startReads g

/-- Step 1: each migration of the engine starts one bale, which the governor meters (R321). -/
def Dev.stepBales (e : Nat) (d : Dev) : Dev :=
  let start (g : Mig) (d : Dev) : Dev :=
    (((d.setMig g.slot fun g => { g with copying := true }).event (0xC300 + e) 0x41 65536 { master := engineMaster e }).debitEngine
      e 65536).checkBale e g
  let d := d.abortFailed
  (d.pool.migs.filter (·.engine == e)).foldl (fun d g => if d.engineMay e && d.migRuns g && !d.metered then start g d else d) d

/-- The next page of a queue of ranges that is still in ZEROING, and the queue after it. -/
def Dev.popZero (d : Dev) : Nat → List (Nat × Nat × Nat) → Option ((Nat × Nat) × List (Nat × Nat × Nat))
  | 0, _ => none
  | _ + 1, [] => none
  | n + 1, (m, p, k) :: rest =>
    let next := if k ≤ 1 then rest else (m, p + 1, k - 1) :: rest
    if d.pageState m p = 2 ∧ d.get (Obj.memdevEnable m) = 1 ∧ k ≠ 0 then some ((m, p), next) else d.popZero n next

/-- A page that an engine zeroes has so many units begun. -/
def Dev.setZeroing (m p e units : Nat) (d : Dev) : Dev :=
  d.setCrane fun c => { c with zeroing := c.zeroing.map fun y => if y.1 = m ∧ y.2.1 = p then (m, p, units, e) else y }

/-- A unit of zeroing begins: its writes are checked as the engine's own (R262, R265); a refused one is failed as a failed write is (R277),
and the page with it. -/
def Dev.zeroLines (e m p unit : Nat) (d : Dev) : Dev :=
  let r := d.internalAccess (engineInput e) (engineMaster e) 2 (poolAddr m p (1024 * unit)) 1024 (some (.zero m p))
  if r.2.isNone then effPageZeroDone m p false (r.1.setZeroing m p e 32) else (r.1.setZeroing m p e (unit + 1)).debitEngine e 65536

/-- One unit of zeroing on an engine: of the page it has begun, or of the next in order. -/
def Dev.zeroUnit (e : Nat) (d : Dev) : Dev :=
  if !d.engineMay e then d
  else match d.crane.zeroing.find? fun z => z.2.2.2 == e && decide (z.2.2.1 < 32) with
    | some z => d.zeroLines e z.1 z.2.1 z.2.2.1
    | none => match d.popZero ((d.crane.zeroQueue.map (·.2.2)).sum + d.crane.zeroQueue.length + 1) d.crane.zeroQueue with
      | some (p, rest) => (d.setCrane fun c => { c with
          zeroQueue := rest, zeroing := c.zeroing ++ [(p.1, p.2, 0, e)] }).zeroLines e p.1 p.2 0
      | none => d

/-- Step 2: up to ZERO_TURN units, until the engine's master is IMPOUNDED (R280). -/
def Dev.stepZero (e : Nat) (d : Dev) : Dev := d.forEach (List.range (d.get Obj.zeroTurn)) fun _ d => if d.impounded (engineMaster e) then d else d.zeroUnit e

/-- Pieces in flight on an engine. -/
def Dev.flyingOn (d : Dev) (e : Nat) : Nat :=
  ((d.crane.queues.map fun q => (q.exec.map fun x => (x.flyingOn e).length).sum)).sum

/-- The queue is polled. -/
def Dev.served (d : Dev) (q : Queue) : Bool := (q.state == .running || q.state == .destroying) && !d.queueHeld q.inst q.qid

/-- The queue's descriptors go on: of one that has stopped in ERROR or PAUSED, the earlier ones complete (R243, R244), those
fetched before a fetch fault among them. -/
def Dev.worked (d : Dev) (q : Queue) : Bool := d.served q || ((q.state == .error || q.state == .paused) && !d.queueHeld q.inst q.qid)

/-- The administrative queue of the large model. -/
def Dev.isAdmin (d : Dev) (q : Queue) : Bool := q.qid == 0 && (d.inst q.inst).model == 1

/-- The first cached entry may start: fewer than 8 in execution; with FENCE, or on the administrative queue, only after
every earlier descriptor. -/
def Dev.mayStartEntry (d : Dev) (q : Queue) : Bool :=
  match q.cache with
  | [] => false
  | c :: _ => decide (q.exec.length < 8) &&
      (q.exec == [] || !((opOf q.ctx.format c.2.2).fence || d.isAdmin q))

/-- ENTRY_START (R236, R242): the first cached entry is taken and validated. -/
def Dev.startEntry (q : Queue) (d : Dev) : Dev :=
  match q.cache with
  | [] => d
  | c :: rest =>
    let d := d.setQueue q.inst q.qid fun k => { k with cache := rest }
    let code := validate q.ctx.format (d.isAdmin q) c.2.2
    if code ≠ 0 then d.badEntry q.inst q.qid c.1 c.2.1 c.2.2 code
    else (d.setQueue q.inst q.qid fun k => { k with
      exec := k.exec ++ [{ entry := c.1, phase := c.2.1, raw := c.2.2 }] }).retire q.inst q.qid

/-- Change the descriptor of an entry. -/
def Dev.setDesc (i qid entry : Nat) (f : Desc → Desc) (d : Dev) : Dev :=
  d.setQueue i qid fun q => { q with exec := q.exec.map fun x => if x.entry = entry then f x else x }

/-- One part of a piece is checked and decoded: passed, with its check and CACHE; or the status and subcode it ends with. -/
inductive PartCheck where
  | ok (chk cache : Nat)
  | bad (status sub : Nat)
  deriving DecidableEq, Repr

def Dev.checkPart (e i kind addr : Nat) (d : Dev) : Dev × PartCheck :=
  match d.craneCheck e i kind addr with
  | .fail cause region => (d.violate (d.craneChecker false e) (instMaster i) cause kind region addr true, .bad 4 0)
  | .pass region cache _ =>
    match (d.slotOfInst i).map fun h => d.decodeHpa h addr with
    | some (.key _ _) =>
      let r := d.openCheck (d.craneChecker false e) (instMaster i) region (kind != 1)
      (r.1, .ok r.2 cache)
    | some (.fault code _) => (d, .bad 5 code)
    | some (.remote _ _) => (d, .bad 5 15)
    | none => (d, .bad 5 1)

/-- The parts of a piece: kind and address (R225). -/
def COp.parts (o : COp) (off : Nat) : List (Nat × Nat) :=
  (if o.readsSrc then [(1, o.src + off)] else []) ++ (if o.readsDst then [(1, o.dst + off)] else []) ++
  (if o.writesDst then [(2, o.dst + off)] else [])

/-- Check the parts in turn, up to the first that is refused: the check and CACHE of each. -/
def Dev.checkParts (e i : Nat) : List (Nat × Nat) → List (Nat × Nat) → Dev → Dev × List (Nat × Nat) × Option (Nat × Nat)
  | [], l, d => (d, l, none)
  | p :: rest, l, d => match d.checkPart e i p.1 p.2 with
    | (d, .ok chk cache) => d.checkParts e i rest (l ++ [(chk, cache)])
    | (d, .bad st sub) => (d, l, some (st, sub))

/-- A part of the next piece lies in a strict region (R273). -/
def Dev.strictPiece (d : Dev) (e i : Nat) (o : COp) (off : Nat) : Bool :=
  (o.parts off).any fun p => match d.craneCheck e i p.1 p.2 with
    | .pass _ _ strict => strict
    | .fail _ _ => false

/-- The data that a piece of an operation writes. -/
def COp.writes (o : COp) (off n src : Nat) : Nat :=
  if o.op = 1 then src else if o.op = 2 then fillBytes o.arg off n else 0

/-- The cacheability that the check of a piece delivered for a part of it (R266): parts stand in the order of `COp.parts`. -/
def Desc.cacheOf (x : Desc) (o : COp) (k part : Nat) : Nat :=
  (Tab.get [] x.caches k).getD (if part = 0 then 0 else if part = 1 then b2n o.readsSrc else b2n o.readsSrc + b2n o.readsDst) 0

/-- The accesses of a piece in flight. -/
def Dev.accsOf (d : Dev) (i qid entry k : Nat) : List PieceAcc :=
  d.crane.accs.filter fun x => x.inst == i && x.qid == qid && x.entry == entry && x.piece == k && decide (x.part < AccPart.ring)

/-- The bytes that accesses of a part of a piece have read: n bytes from an address. -/
def bytesRead (l : List PieceAcc) (part addr n : Nat) : Nat :=
  let v := (l.filter (·.part == part)).foldl (fun v x => v + x.data * 2 ^ (512 * (x.line - addr / 64))) 0
  bytesAt v (addr % 64) n

/-- A poisoned line was read in a range of the source from an offset of the piece on. -/
def poisonIn (l : List PieceAcc) (src lo hi : Nat) : Bool :=
  l.any fun x => x.part == 0 && x.poison && decide (64 * x.line < src + hi ∧ src + lo < 64 * x.line + 64)

/-- The reads of a piece have all ended well, and its writes go to the homes of their lines (R225): every destination line whose
source was poisoned is written poisoned (R230). -/
def Dev.sendWrites (q : Queue) (x : Desc) (k : Nat) (d : Dev) : Dev :=
  let o := q.op x
  let p := (o.pieces.drop k).headD (0, 0)
  let l := d.accsOf q.inst q.qid x.entry k
  let dst := o.dst + p.1
  if !o.writesDst || l.any (fun a => a.part == 2 || !a.ended || a.status != 0) then d
  else
    let v := o.writes p.1 p.2 (bytesRead l 0 (o.src + p.1) p.2)
    let attr := x.cacheOf o k 2
    let bad (line : Nat) : Bool := poisonIn l (o.src + p.1) (64 * line - dst) (min p.2 (64 * line + 64 - dst))
    d.forEach (linesOf dst p.2) fun line d =>
      d.openAcc { id := 0, inst := q.inst, qid := q.qid, entry := x.entry, piece := k, part := 2, line := line } attr
        { lineWrite dst p.2 v line with poison := bad line }

/-- A read of a line for a function. -/
def lineRead : Access := { host := 0, tag := 0, key := 0, index := 0, op := .uncachedRd }

/-- The reads of a piece go to the homes of their lines; a piece that reads nothing writes at once. -/
def Dev.sendReads (q : Queue) (x : Desc) (k : Nat) (d : Dev) : Dev :=
  let o := q.op x
  let p := (o.pieces.drop k).headD (0, 0)
  let read (part addr : Nat) (d : Dev) : Dev :=
    d.forEach (linesOf addr p.2) fun line d =>
      d.openAcc { id := 0, inst := q.inst, qid := q.qid, entry := x.entry, piece := k, part := part, line := line } (x.cacheOf o k part)
        lineRead
  let d := if o.readsSrc then read 0 (o.src + p.1) d else d
  let d := if o.readsDst then read 1 (o.dst + p.1) d else d
  d.sendWrites q x k

/-- PIECE_ISSUE (R225): the next piece of a descriptor; a part that is refused ends it at once. -/
def Dev.issuePiece (e : Nat) (q : Queue) (x : Desc) (d : Dev) : Dev :=
  let o := q.op x
  let p := (o.pieces.drop x.issued).headD (0, 0)
  let w : Who := { master := instMaster q.inst, addr := (if o.readsSrc then o.src else o.dst) + p.1 }
  let d := (d.event (0xC300 + e) 0x40 1 w).event (0xC300 + e) 0x41 p.2 { w with addr := 0 }
  let d := (d.debitEngine e p.2).setInst q.inst fun y => { y with
    buckets := Tab.set 65536 y.buckets e (y.bucket e - p.2), bytes := y.bytes + p.2 }
  let r := d.checkParts e q.inst (o.parts p.1) []
  match r.2.2 with
  | none =>
    let f (y : Desc) : Desc := { y with
      issued := y.issued + 1, starts := Tab.set 0 y.starts x.issued d.time
      engines := Tab.set 0 y.engines x.issued e, checks := y.checks ++ r.2.1.map fun c => (x.issued, c.1)
      caches := Tab.set [] y.caches x.issued (r.2.1.map (·.2)) }
    (r.1.setDesc q.inst q.qid x.entry f).sendReads q (f x) x.issued
  | some b => ((r.2.1.foldl (fun d c => d.closeCheck c.1) r.1).setDesc q.inst q.qid x.entry fun y => { y with
      issued := y.issued + 1, finished := y.finished ++ [x.issued], bad := y.bad ++ [(x.issued, b)] }).retire q.inst q.qid

/-- The first descriptor in ring order with a piece that may be issued. -/
def Dev.nextDesc (d : Dev) (e : Nat) (q : Queue) : Option Desc :=
  q.exec.find? fun x => !x.stopped (q.op x) &&
    !(decide (x.flying ≠ []) && d.strictPiece e q.inst (q.op x) ((((q.op x).pieces.drop x.issued).headD (0, 0)).1))

/-- One turn of a queue: up to n pieces, which the governor meters (R321), starting entries as it goes. -/
def Dev.turnN (e i qid : Nat) : Nat → Nat → Dev → Dev
  | 0, _, d => d
  | _ + 1, 0, d => d
  | f + 1, n + 1, d =>
    match d.queue i qid with
    | none => d
    | some q =>
      if !(d.worked q && d.engineMay e && decide (0 ≤ (d.inst i).bucket e) && decide (d.flyingOn e < 64)) then d
      else match d.nextDesc e q with
        | some x => if d.metered then d else (d.issuePiece e q x).turnN e i qid f n
        | none => if d.mayStartEntry q then (d.startEntry q).turnN e i qid f (n + 1) else d

/-- The administrative queue of a large-model instance comes before the instance's other queues (R240). -/
def Dev.adminFirst (d : Dev) (l : List Nat) : List Nat :=
  l.foldl (fun acc k =>
    let a := k / 4096 * 4096
    if acc.contains k then acc
    else if (d.inst (k / 4096)).model = 1 ∧ a ≠ k ∧ l.contains a ∧ !acc.contains a then acc ++ [a, k] else acc ++ [k]) []

/-- The queues of an engine in order of instance and queue, from the one after that which started the last round. -/
def Dev.roundOrder (d : Dev) (e : Nat) : List Nat :=
  let mine := d.crane.queues.filter fun q => d.engineOf q.inst q.qid == e && d.worked q
  let keys := mine.map fun q => 4096 * q.inst + q.qid
  let l := (keys.mergeSort (· ≤ ·))
  let st := (d.engine e).start
  l.filter (decide <| st ≤ ·) ++ l.filter (decide <| · < st)

/-- Step 3: every queue gets WEIGHT turns of up to BURST pieces. The round starts one queue after the one that started the last; a
large-model instance's administrative queue has its turns before those of the instance's queue that is next. -/
def Dev.stepQueues (e : Nat) (d : Dev) : Dev :=
  let l := d.roundOrder e
  let order := (d.adminFirst l).map fun k => (k / 4096, k % 4096)
  let d := match l.head? with
    | some k => d.setEngine e fun x => { x with start := k + 1 }
    | none => d
  order.foldl (fun d k => match d.queue k.1 k.2 with
    | some q => d.forEach (List.range q.ctx.weight) fun _ d => d.turnN e k.1 k.2 (q.ctx.burst + 8) q.ctx.burst
    | none => d) d

/-! Instance reset (R256). -/

/-- A piece of the instance is in flight. -/
def Dev.instFlying (d : Dev) (i : Nat) : Bool :=
  d.crane.queues.any fun q => q.inst == i && q.exec.any fun x => decide (x.flying ≠ [])

/-- What is left of a descriptor's pieces is lost: no piece is in flight any more. -/
def Desc.abandon (x : Desc) : Desc := { x with uncertain := x.uncertain || decide (x.flying ≠ []), finished := List.range x.issued }

/-- A descriptor in execution that has not ended is cut short, for a reason of Table 8.4. -/
def Queue.cutAll (why : Nat) (q : Queue) : List Desc :=
  q.exec.map fun x => if x.ended (q.op x) then x else { x with cut := some (x.cut.getD why) }

/-- Checks of a queue's pieces in flight. -/
def Queue.openChecks (q : Queue) : List Nat := q.exec.flatMap fun x => x.checks.map (·.2)

/-- Pieces in flight are lost: each counts as not completed, and only the pieces before the first of them count as done. -/
def Desc.cutOff (x : Desc) : Desc :=
  let n := ((List.range x.issued).takeWhile x.finished.contains).length
  { x with uncertain := x.uncertain || decide (x.flying ≠ []), issued := n, finished := List.range n }

/-- The configuration of Table 8.14 in a value, over what an instance holds. -/
def Inst.configured (v : Nat) (x : Inst) : Inst :=
  { x with bound := bitAt v 16, quay := byteAt v 3, function := bytesAt v 4 2, model := byteAt v 6, share := byteAt v 7
           maxQueues := bytesAt v 8 2, berthMask := bytesAt v 10 2, quota := bytesAt v 12 4 }

/-- The Table 8.14 record of an instance. -/
def Inst.config (x : Inst) (i : Nat) : Nat :=
  i + b2n x.bound * 2 ^ 16 + x.quay * 2 ^ 24 + x.function * 2 ^ 32 + x.model * 2 ^ 48 + x.share * 2 ^ 56 +
    (x.nextMaxQueues.getD x.maxQueues) * 2 ^ 64 + x.berthMask * 2 ^ 80 + x.quota * 2 ^ 96

/-- The function's registers after its reset (R251, R256, Table 8.12): the configuration of Table 8.14 is kept. -/
def Inst.cleared (x : Inst) : Inst :=
  { bound := x.bound, quay := x.quay, function := x.function, model := x.model, share := x.share, berthMask := x.berthMask
    maxQueues := x.nextMaxQueues.getD x.maxQueues, quota := x.quota, bytes := x.bytes, shares := x.shares }

/-- A resource-change event (0x8006) of an instance, with its Table 8.14 record. -/
def Dev.resourceRecord (d : Dev) (i : Nat) : Event :=
  { info (sourceId 13 0) 0x8006 0 (0x1000 + i) ((d.inst i).config i) with time := d.time }

/-- It goes to the instance. -/
def Dev.resourceEvent (i : Nat) (d : Dev) : Dev := d.ringWrite i (d.resourceRecord i)

/-- The prefixes of an IMPOUNDED instance's descriptors, which no record reports, go to the managers (R256): one event for each
(DESIGN CHOICE, log entry 105). -/
def Dev.prefixEvents (i : Nat) (d : Dev) : Dev :=
  (d.crane.queues.filter (·.inst == i)).foldl (fun d q => q.exec.foldl (fun d x =>
    d.raise (info (sourceId 13 (d.engineOf i q.qid)) 0x8002 0 (0x1000 + i) (Obj.instView / 256 + Obj.instView % 256 * 2 ^ 16 +
      queueSubject i q.qid x.entry (x.prefixLen (q.op x)) * 2 ^ 128))) d) d

/-- A record, a head word or a vector of the instance is still to come. -/
def Dev.instWrites (d : Dev) (i : Nat) : Bool :=
  d.crane.queues.any fun q => q.inst == i && (q.exec != [] || q.headDue || q.noticeDue || d.storing i q.qid)

/-- Step 4: every queue ABSENT and the function as after reset; held event records of the function are discarded (R282). A MAX_QUEUES that
now takes effect is reported to the ring that the function had (R252), and the end of the reset to the managers. -/
def Dev.endReset (i : Nat) (d : Dev) : Dev :=
  let frozen := d.impounded (instMaster i)
  let d := if frozen then d.prefixEvents i else d
  let d := if (d.inst i).nextMaxQueues.isSome ∧ !frozen then d.ringStore false i (d.resourceRecord i) else d
  let d := ((d.dropAccs fun x => x.inst == i && x.part != AccPart.event).setCrane fun c => { c with
    queues := c.queues.filter (·.inst != i), ringWork := c.ringWork.filter (·.1 != i) }).setInst i Inst.cleared
  d.queueEvent i (d.engineOf i 0) i

/-- Step 3: PARTIAL records and head words; the reset ends when they are at their homes. For an IMPOUNDED instance none is written, and
none in Salvage (R259). -/
def Dev.finishReset (i : Nat) (d : Dev) : Dev :=
  let qs := d.crane.queues.filter (·.inst == i)
  let d := qs.foldl (fun d q => (q.openChecks.foldl (fun d c => d.closeCheck c) d).setQueue i q.qid fun k =>
    { k with exec := k.exec.map fun x => { x.abandon with checks := [] } }) d
  let d := qs.foldl (fun d q => d.retire i q.qid) d
  if d.instWrites i && !d.impounded (instMaster i) && d.mode != 5 then d else d.endReset i

/-- Steps 1 and 2: fetching and starts stop, and descriptors in execution issue no further piece. -/
def Dev.resetInst (i : Nat) (d : Dev) : Dev :=
  if !(d.inst i).bound then d
  else
    let d := (d.setInst i fun x => { x with resetting := true }).setCrane fun c => { c with queues := c.queues.map fun q =>
      if q.inst = i then { q with cache := [], exec := q.cutAll 1 } else q }
    let d := { d with modes := { d.modes with decisions := d.modes.decisions.filter fun x => !(x.fn == 7 && x.subject % 2 ^ 16 == i) } }
    if d.instFlying i then d else d.finishReset i

/-- After a piece ends: records that can be written, the end of a disable, the end of a reset. -/
def Dev.settleQueue (i qid : Nat) (d : Dev) : Dev :=
  let d := if (d.inst i).resetting then d else d.retire i qid
  let d := match d.queue i qid with
    | some q => if q.state = .disabling ∧ q.exec = [] then
        ((d.setQueue i qid fun k => { k with state := .disabled, headDue := true }).writeHead .plain i qid).raiseNotice i qid
      else d
    | none => d
  if (d.inst i).resetting && !d.instFlying i then d.finishReset i else d

/-- A verdict on a malformed entry (Table 2.7), while its queue is still PAUSED there (R244): 0 ACCEPT, 1 REJECT or expiry, 2
ALTERNATIVE. -/
def Dev.ruleEntry (subject verdict : Nat) (d : Dev) : Dev :=
  let i := subject % 2 ^ 16
  let q := subject / 2 ^ 16 % 2 ^ 16
  let index := subject / 2 ^ 32 % 2 ^ 32
  if d.pausedAt i q index then
    (match verdict with
      | 0 => d.valAccept i q
      | 1 => d.queueError i q index (subject / 2 ^ 64)
      | _ => d.valSkip i q).settleQueue i q
  else d

/-- INST_RESET. -/
def actInstReset : Act :=
  { check := fun _ v _ => if v < 4096 then Status.success else Status.badValue
    effect := fun _ v _ d => d.resetInst v }

def execInstReset (c : Call) (v : Nat) (s : State) : Host.Outcome State Fault Refusal :=
  writeRow actInstReset c Obj.instReset v s

/-- The instances on a quay. -/
def Dev.instsOn (d : Dev) (q : Nat) : List Nat := (d.crane.insts.filter fun p => p.2.bound && p.2.quay == q).map (·.1)

/-- A frame's registers return to their reset values: WR_ERROR, LAST_CODE and DISCARDS of its windows (R424, R256). -/
def Dev.resetWindows (q : Nat) (d : Dev) : Dev :=
  let f (p : Nat × Win) : Nat × Win :=
    if d.get (Obj.winQuay p.1) = q then
      (p.1, { p.2 with wrError := false, lastCode := 0, errOffset := 0, discards := 0, holding := none }) else p
  d.setSide fun x => { x with wins := x.wins.map f }

/-- The registers of unbound functions return to their reset values. -/
def Dev.clearFuncs (p : Nat → Nat → Bool) (d : Dev) : Dev :=
  let mine (k : Nat) : Bool := decide (4096 ≤ k) && p ((k - 4096) / 257) ((k - 4096) % 257)
  d.setCrane fun c => { c with insts := c.insts.filter (!mine ·.1), ringWork := c.ringWork.filter (!mine ·.1) }

/-- Every function of a quay is reset with its PF: the instances bound to them, and the sideband windows. -/
def Dev.resetQuayFuncs (q : Nat) (d : Dev) : Dev :=
  ((d.forEach (d.instsOn q) Dev.resetInst).resetWindows q).clearFuncs fun k _ => k == q

/-- A clear of VF Enable resets the VFs. -/
def Dev.clearVfs (q : Nat) (d : Dev) : Dev :=
  (d.forEach ((d.instsOn q).filter fun i => (d.inst i).function != 0) Dev.resetInst).clearFuncs fun k f => k == q && f != 0

/-- FUNCTION_LEVEL_RESET: of the PF, it resets the VFs' instances with its own. -/
def effFunctionLevelReset (f : FuncReset) (d : Dev) : Dev :=
  match f with
  | .vfEnable q => d.clearVfs q
  | .function i =>
    let x := d.inst i
    if i.val < 4096 && !x.bound then d
    else if x.function = 0 then d.resetQuayFuncs x.quay
    else if x.bound then d.resetInst i
    else d.clearFuncs fun q g => q == x.quay && g == x.function

def execFunctionLevelReset (f : FuncReset) (s : State) : Host.Outcome State Fault Refusal := liveLift (effFunctionLevelReset f) s

/-- INST_DRAIN_EXPIRY: pieces still in flight leave their descriptors UNCERTAIN. -/
def effInstDrainExpiry (i : Nat) (d : Dev) : Dev :=
  if (d.inst i).resetting then
    (d.setCrane fun c => { c with queues := c.queues.map fun q =>
      if q.inst = i then { q with exec := q.exec.map Desc.cutOff } else q }).finishReset i
  else d

def execInstDrainExpiry (inst : Fin 4096) (s : State) : Host.Outcome State Fault Refusal :=
  liveLift (effInstDrainExpiry inst) s

/-! Pieces (R230, R236). -/

/-- The offsets in an operand, from the start of a line of it on but not below 0. -/
def offsetIn (base line : Nat) : Nat := 64 * line - base

/-- RESULT of POISON (R230): the offset of the first destination line written poisoned; of an operation that writes none, of the
first poisoned line of an operand that it reads. -/
def COp.poisonOffset (o : COp) (l : List PieceAcc) : Option Nat :=
  let hits := if o.writesDst then (l.filter fun x => x.part == 2 && poisonIn l o.src (offsetIn o.dst x.line) (64 * x.line + 64 - o.dst)).map
      fun x => offsetIn o.dst x.line
    else (l.filter (·.poison)).map fun x => offsetIn (if x.part = 0 then o.src else o.dst) x.line
  hits.min?

/-- Every access of a piece has ended; one that ended by a timer counts as a timeout of the engine (R436): with the first failure in the order of its accesses, or with what was read (Table 8.4). -/
def Dev.endPiece (q : Queue) (x : Desc) (k : Nat) (d : Dev) : Dev :=
  let o := q.op x
  let p := (o.pieces.drop k).headD (0, 0)
  let l := d.accsOf q.inst q.qid x.entry k
  let d := ((x.checks.filter (·.1 == k)).map (·.2)).foldl (fun d c => d.closeCheck c) d
  let e := 16 + x.engineOf k
  let d := if l.any (·.late) then d.initTimeout e else d.initDone e p.2 (Tab.get 0 x.starts k)
  let d := d.setCrane fun c => { c with accs := c.accs.filter fun a => !l.contains a }
  let wrote := if l.any (·.part == 2) then [k] else []
  let bad := ((l.find? (·.status != 0)).map fun a => (k, a.status, a.sub)).toList
  let at' := (o.poisonOffset l).toList ++ x.poisonAt.toList
  d.setDesc q.inst q.qid x.entry fun y => { y with
    finished := y.finished ++ [k], checks := y.checks.filter (·.1 != k), wrote := y.wrote ++ wrote, bad := y.bad ++ bad
    srcs := Tab.set 0 y.srcs k (bytesRead l 0 (o.src + p.1) p.2), dsts := Tab.set 0 y.dsts k (bytesRead l 1 (o.dst + p.1) p.2)
    poisonAt := at'.min? }

/-- PIECE_COMPLETE (R230) at the engine on which the piece was issued: it waits until every access of the piece has completed at its home slice (R236). -/
def effPieceComplete (i qid entry k e : Nat) (d : Dev) : Dev :=
  match d.queue i qid with
  | none => d
  | some q => match q.exec.find? fun x => x.entry == entry && (x.flyingOn e).contains k with
    | none => d
    | some x =>
      let d := d.sendWrites q x k
      let l := d.accsOf i qid entry k
      let sent := !(q.op x).writesDst || l.any fun a => a.part == 2 || a.status != 0
      if sent && l.all (·.ended) then (d.endPiece q x k).settleQueue i qid else d

def execPieceComplete (inst : Fin 4096) (qid : Nat) (entry : Nat) (piece : Nat) (engine : Fin 16) (s : State) :
    Host.Outcome State Fault Refusal := liveLift (effPieceComplete inst qid entry piece engine) s

/-! Polling (R233, R235). -/

/-- The entry is posted in a format for an expected phase. -/
def posted (format : Nat) (phase : Bool) (raw : Nat) : Bool := if format = 0 then bitAt raw 15 == phase else bitAt raw 31

/-- A posted entry goes into the cache, and the fetch position moves on. -/
def Queue.fetched (q : Queue) (r : Nat) : Queue :=
  { q with cache := q.cache ++ [(q.fetch, q.phase, r)], fetch := q.after q.fetch
           phase := if q.after q.fetch = 0 then !q.phase else q.phase }

/-- What a read of 64 bytes for an instance comes to at the home of their line. -/
inductive HomeRead where
  | got (v : Option Nat)
  | memory
  | waits
  deriving DecidableEq, Repr

/-- The home can answer a read of a line at once (R142, R146): it is active, and has no transaction, request or victim of the line, no
host that owns it, and no fence of its page. -/
def Dev.lineFree (d : Dev) (s k : Nat) : Bool :=
  let x := d.slice s
  !x.txs.any (·.key == k) && !x.conflict.any (·.2.acc.key == k) && !x.alloc.any (·.2.acc.key == k) && !x.door.any (·.key == k) &&
    !x.victims.any (·.key == k) && !x.dir.any (fun e => e.key == k && e.hs == .excl) && !d.fenced (d.indexOf k) &&
    d.get (Obj.sliceState s) == 0

/-- A read of 64 bytes for an instance: the home's own copy, or an error (`got none`); the memory, when nothing comes before it there;
else it waits for the home like any other access. -/
def Dev.homeRead (d : Dev) (i hpa : Nat) : HomeRead :=
  match (d.slotOfInst i).map fun h => d.decodeHpa h hpa with
  | some (.key k _) =>
    let s := d.homeOf k
    if hpa % 64 ≠ 0 ∨ !d.lineFree s k then .waits
    else match d.ownCopy s k with
      | some l => .got (if l.poison then none else some l.data)
      | none => if isBasinKey k ∧ d.basinState (basinOfKey k) ≠ 1 then .got none
                else if entryValid (d.entryFor s (d.indexOf k)) && !entryMigrating (d.entryFor s (d.indexOf k)) then .memory
                else .waits
  | _ => .got none

/-- The lines of 64 bytes at an address are read for a queue outside pieces. -/
def Dev.openReads (x : PieceAcc) (attr hpa : Nat) (d : Dev) : Dev :=
  d.forEach (linesOf hpa 64) fun l d => d.openAcc { x with line := l } attr lineRead

/-- The accesses of a queue of a kind outside pieces. -/
def Dev.sideAccs (d : Dev) (i qid part : Nat) : List PieceAcc :=
  d.crane.accs.filter fun x => x.inst == i && x.qid == qid && x.part == part

/-- What the reads of 64 bytes at an address came to: an error, or their data. -/
def readOf (l : List PieceAcc) (hpa : Nat) : Option Nat :=
  if l.any fun x => x.poison || x.status != 0 then none
  else some (bytesAt (l.foldl (fun v x => v + x.data * 2 ^ (512 * (x.line - hpa / 64))) 0) (hpa % 64) 64)

/-- A read at the fetch position ended with an error: the queue stops there with FETCH_FAULT; what was fetched before runs. -/
def Dev.fetchFault (i qid : Nat) (d : Dev) : Dev :=
  match d.queue i qid with
  | none => d
  | some q => ((d.setQueue i qid fun x => { x with state := .error, errIndex := q.fetch, errCode := 8 }).queueEvent i
      (d.engineOf i qid) (queueSubject i qid q.fetch 8)).stoppedHead i qid

/-- What a poll reads at the fetch position: an entry or an error, nothing that is posted, or a read that waits at its home. -/
inductive RingRead where
  | entry (v : Option Nat)
  | nothing
  | waits
  deriving DecidableEq, Repr

/-- `mem` is what the memory holds from the fetch position on, where the home reads it at once, up to the first entry that is not
posted (DESIGN CHOICE, log entry 103); with none given, the read waits for the memory's answer. -/
def Dev.entryRead (d : Dev) (q : Queue) (mem : Option (List (Option Nat))) : RingRead :=
  match d.homeRead q.inst (q.ctx.ringBase + 64 * q.fetch), mem with
  | .got v, _ => .entry v
  | .memory, some (v :: _) => .entry v
  | .memory, some [] => .nothing
  | _, _ => .waits

/-- The entry that a ring read returned is taken when it is posted for the fetch position; a failed read stops the queue (R242). The
second result says that fetching goes on. -/
def Dev.takeEntry (q : Queue) (v : Option Nat) (d : Dev) : Dev × Bool :=
  match v with
  | none => (d.fetchFault q.inst q.qid, false)
  | some r => if posted q.ctx.format q.phase r then (d.setQueue q.inst q.qid fun q => q.fetched r, true) else (d, false)

/-- Entries are read one by one from the fetch position on, each checked as the instance's read and counted as a poll (R235), up to
the first that is not posted, or whose read ends with an error, or until 8 are cached. A read that waits at its home goes on when
it is over. -/
def Dev.pollN (i qid : Nat) : Nat → Option (List (Option Nat)) → Dev → Dev
  | 0, _, d => d
  | n + 1, l, d =>
    match d.queue i qid with
    | none => d
    | some q =>
      let e := d.engineOf i qid
      let k := d.craneChecker false e
      let a := q.ctx.ringBase + 64 * q.fetch
      if 8 ≤ q.cache.length ∨ d.sideAccs i qid AccPart.ring ≠ [] then d
      else match d.craneCheck e i 1 a with
        | .fail cause region => (d.violate k (instMaster i) cause 1 region a true).fetchFault i qid
        | .pass region cache _ =>
          let d := d.event (0xC300 + e) 0x43 1 { master := instMaster i }
          match d.entryRead q l with
          | .entry v =>
            let r := d.takeEntry q v
            if r.2 then r.1.pollN i qid n (l.map List.tail) else r.1
          | .nothing => d
          | .waits =>
            let r := d.openCheck k (instMaster i) region false
            r.1.openReads { id := 0, inst := i, qid := qid, entry := q.fetch, piece := 0, part := AccPart.ring, line := 0, chk := r.2 }
              cache a

/-- A poll of a queue that is served and holds fewer than 8 fetched entries. -/
def Dev.pollQueue (i qid : Nat) (l : List (Option Nat)) (d : Dev) : Dev :=
  match d.queue i qid with
  | none => d
  | some q => if d.served q then d.pollN i qid 8 (some l) else d

/-- Ring reads of a queue that waited are over: the entry is taken, unless the fetch position has moved or the queue is not served any
more, and the next ones are read. -/
def Dev.pollGoesOn (i qid : Nat) (d : Dev) : Dev :=
  let l := d.sideAccs i qid AccPart.ring
  if l = [] ∨ l.any (!·.ended) then d
  else
    let d := d.dropAccs l.contains
    match d.queue i qid with
    | none => d
    | some q =>
      if !d.served q ∨ !l.all (·.entry == q.fetch) then d
      else
        let r := d.takeEntry q (readOf l (q.ctx.ringBase + 64 * q.fetch))
        if r.2 then r.1.pollN i qid 7 none else r.1

/-! Control blocks (R237, R247). -/

/-- Cached entries that have not started are discarded, and fetching resumes at the first of them. -/
def Queue.discard (q : Queue) : Queue :=
  match q.cache with
  | [] => { q with invalHead := q.fetch }
  | c :: _ => { q with cache := [], fetch := c.1, phase := c.2.1, invalHead := c.1 }

/-- INVALIDATE: in a queue that reads RUNNING or PAUSED. -/
def effInvalidate (i qid : Nat) (d : Dev) : Dev :=
  match d.queue i qid with
  | none => d
  | some q => if (q.state = .running ∨ q.state = .paused) ∧ !d.queueHeld i qid then
      (d.setQueue i qid fun q => q.discard).count Obj.entryInvalidations q.cache.length
    else d

def execInvalidate (inst : Fin 4096) (qid : Nat) (s : State) : Host.Outcome State Fault Refusal :=
  liveLift (effInvalidate inst qid) s

/-- DISABLE of a W128 queue: no new start, each descriptor in execution is cut to PARTIAL, and when all are written back
the queue is DISABLED. -/
def effDisable (i qid : Nat) (d : Dev) : Dev :=
  match d.queue i qid with
  | none => d
  | some q =>
    if q.ctx.format = 1 ∧ q.state ≠ .disabling ∧ q.state ≠ .disabled then
      (d.setQueue i qid fun q => { q.discard with
        state := .disabling, invalHead := q.invalHead, exec := q.cutAll 3 }).settleQueue
        i qid
    else d

def execDisable (inst : Fin 4096) (qid : Nat) (s : State) : Host.Outcome State Fault Refusal :=
  liveLift (effDisable inst qid) s

/-- DISABLE_CLEAR: a DISABLED queue runs from the published head. -/
def effDisableClear (i qid : Nat) (d : Dev) : Dev :=
  d.setQueue i qid fun q => if q.state = .disabled then
    { q with stuck := false, state := .running, fetch := q.head, phase := q.headPhase, errCode := 0, errIndex := 0 } else q

def execDisableClear (inst : Fin 4096) (qid : Nat) (s : State) : Host.Outcome State Fault Refusal :=
  liveLift (effDisableClear inst qid) s

/-! Contexts and models (R238 to R241). -/

/-- A context passes (R238). -/
def ctxOk (c : QContext) : Bool :=
  decide (c.ringBase % 4096 = 0) && [8, 16, 32, 64, 128, 256, 512, 1024, 2048, 4096, 8192, 16384, 32768, 65536].contains c.ringEntries &&
  (if c.format = 0 then decide (c.complBase % 4096 = 0) else c.complBase == 0) &&
  decide (c.headAddr % 8 = 0 ∧ 64 ≤ c.pollInterval ∧ c.pollInterval ≤ 1000000 ∧ 1 ≤ c.weight ∧ c.weight ≤ 16 ∧ 1 ≤ c.burst ∧
    c.burst ≤ 255 ∧ c.format ≤ 1 ∧ c.vector ≤ 255) && c.rsvdZero

/-- A queue as it is created. -/
def newQueue (i qid : Nat) (c : QContext) : Queue :=
  if ctxOk c then { inst := i, qid := qid, ctx := c, state := .running }
  else { inst := i, qid := qid, ctx := c, state := .error, errCode := 7, errIndex := 0xFFFFFFFF }

/-- The queues that CRANE_ENABLE sets up: in the small model those whose RING_ENTRIES is not 0, in the large model queue
0. -/
def Inst.firstQueues (x : Inst) (i : Nat) : List Queue :=
  if x.model = 0 then
    (((x.contexts.take x.maxQueues).zipIdx).filter fun p => p.1.ringEntries != 0).map fun p => newQueue i p.2 p.1
  else match x.admin with
    | some c => [newQueue i 0 c]
    | none => []

/-- The registers that the host writes in whatever state (Table 8.12). -/
def Inst.writeRegs (r : FuncRegs) (x : Inst) : Inst :=
  { x with mboxVector := r.mboxVector % 256, capVector := r.capVector % 256, evtBase := r.evtBase, evtEntries := r.evtEntries
           evtVector := r.evtVector % 256, evtHead := r.evtHead, m2hValid := x.m2hValid && !r.clearM2h
           evtOverflow := x.evtOverflow && !r.clearOverflow, recoveryLoss := x.recoveryLoss && !r.clearLoss
           msixTable := r.msix.foldl (fun t p => Tab.set (2 ^ 96) t p.1 p.2) x.msixTable }

/-- The contexts, which the host may write only while CRANE_ENABLE is 0 (R239). -/
def Inst.writeContexts (r : FuncRegs) (x : Inst) : Inst := { x with admin := r.admin, contexts := r.contexts.take 64 }

/-- Pending vectors that are masked no longer are raised. -/
def Dev.sendPending (i : Nat) (d : Dev) : Dev :=
  d.forEach ((maskBits (d.inst i).pba 256).filter fun v => !bitAt ((d.inst i).msixEntry v) 96) fun v d =>
    (d.setInst i fun x => { x with pba := setBit x.pba v false }).msix i v

/-- A number names a function whose registers the host reaches: that of a bound instance, or of a function with none. -/
def Dev.isFunc (d : Dev) (i : Nat) : Bool := (d.inst i).bound || (decide (4096 ≤ i) && (d.boundTo (d.inst i).quay (d.inst i).function).isNone)

/-- The registers that the host writes in a function with no instance bound: those outside the Crane registers, which ignore writes
(R249). -/
def Inst.writeUnbound (r : FuncRegs) (x : Inst) : Inst :=
  { x with capVector := r.capVector % 256, evtBase := r.evtBase, evtEntries := r.evtEntries, evtVector := r.evtVector % 256
           evtHead := r.evtHead, msixTable := r.msix.foldl (fun t p => Tab.set (2 ^ 96) t p.1 p.2) x.msixTable }

/-- CRANE_ENABLE: with the registers that the host has written. Once set, contexts are ignored until the next function
reset. -/
def effCraneEnable (i : Nat) (r : FuncRegs) (d : Dev) : Dev :=
  if 4096 ≤ i then (if d.isFunc i then (d.setInst i (Inst.writeUnbound r)).sendPending i else d)
  else if !(d.inst i).bound ∨ (d.inst i).resetting then d
  else
    let d := (d.setInst i (Inst.writeRegs r)).sendPending i
    if (d.inst i).enable then d
    else
      let d := d.setInst i fun x => { x.writeContexts r with enable := true }
      d.setCrane fun c => { c with queues := c.queues ++ (d.inst i).firstQueues i }

def execCraneEnable (inst : Fin 36992) (r : FuncRegs) (s : State) : Host.Outcome State Fault Refusal :=
  liveLift (effCraneEnable inst r) s

/-- The administrative command in execution on queue 0, with its opcode. -/
def Dev.adminCmd (d : Dev) (i op : Nat) : Option Desc :=
  if (d.inst i).model = 1 ∧ !d.queueHeld i 0 then
    (d.queue i 0).bind fun q => match q.exec.head? with
      | some x => if byteAt x.raw 0 = op ∧ x.status.isNone ∧ x.cut.isNone then some x else none
      | none => none
  else none

/-- An administrative command ends with a status of Table 8.10. -/
def Dev.endAdmin (i : Nat) (x : Desc) (st : Nat) (d : Dev) : Dev :=
  (d.setDesc i 0 x.entry fun y => { y with status := some st }).settleQueue i 0

/-- The status of CREATE_QUEUE. -/
def Dev.createStatus (d : Dev) (i : Nat) (ctx : Option QContext) : Nat :=
  match ctx with
  | none => 20
  | some c =>
    if !ctxOk c ∨ c.queueId = 0 ∨ 4095 < c.queueId then 16
    else if (d.queue i c.queueId).isSome then 17
    else if (d.inst i).maxQueues ≤ (d.crane.queues.filter fun q => q.inst == i && q.qid != 0).length then 19
    else 0

/-- Table 8.7 in 64 bytes, and back. -/
def ctxOf (r : Nat) : QContext :=
  { ringBase := bytesAt r 0 8, ringEntries := bytesAt r 8 4, complBase := bytesAt r 16 8, headAddr := bytesAt r 24 8
    pollInterval := bytesAt r 32 4, weight := byteAt r 36, burst := byteAt r 37, format := byteAt r 38, vector := byteAt r 39
    queueId := bytesAt r 40 2, rsvdZero := bytesAt r 12 4 == 0 && bytesAt r 42 22 == 0 }

def ctxRaw (c : QContext) : Nat :=
  c.ringBase % 2 ^ 64 + c.ringEntries % 2 ^ 32 * 2 ^ 64 + c.complBase % 2 ^ 64 * 2 ^ 128 + c.headAddr % 2 ^ 64 * 2 ^ 192 +
    c.pollInterval % 2 ^ 32 * 2 ^ 256 + c.weight % 256 * 2 ^ 288 + c.burst % 256 * 2 ^ 296 + c.format % 256 * 2 ^ 304 +
    c.vector % 256 * 2 ^ 312 + c.queueId % 2 ^ 16 * 2 ^ 320

/-- QSTATE of a queue (Table 8.8). -/
def Dev.queueCode (d : Dev) (q : Queue) : Nat :=
  if d.queueHeld q.inst q.qid then 7
  else match q.state with
    | .absent => 0 | .running => 1 | .error => 2 | .paused => 3 | .disabling => 4 | .disabled => 5 | .destroying => 6

/-- The control block of a queue (Table 8.13); INVALIDATE reads 0, since an invalidation is done at once. -/
def Dev.controlBlock (d : Dev) (q : Queue) : Nat :=
  b2n (q.state == .disabling || q.state == .disabled) +
    (d.queueCode q + q.cache.length * 2 ^ 4 + q.errCode * 2 ^ 8) * 2 ^ 32 + q.errIndex * 2 ^ 64 + q.invalHead * 2 ^ 96

/-- CREATE_QUEUE ends with the context it has read; none when the read ended with an error. -/
def Dev.endCreate (i : Nat) (x : Desc) (ctx : Option QContext) (d : Dev) : Dev :=
  let st := d.createStatus i ctx
  (match st, ctx with
   | 0, some c => d.setCrane fun k => { k with queues := k.queues ++ [newQueue i c.queueId c] }
   | _, _ => d).endAdmin i x st

/-- CREATE_QUEUE: the read of the context is checked as the instance's, and goes to the home of its line; `mem` is what the memory holds
there, where the home reads it at once (log entry 103). -/
def effCreateQueue (i : Nat) (mem : Option QContext) (d : Dev) : Dev :=
  match d.adminCmd i 0x80 with
  | none => d
  | some x =>
    let a := bytesAt x.raw 8 8
    let k := d.craneChecker false (d.engineOf i 0)
    if d.sideAccs i 0 AccPart.context ≠ [] then d
    else match d.craneCheck (d.engineOf i 0) i 1 a with
      | .fail cause region => (d.violate k (instMaster i) cause 1 region a true).endAdmin i x 20
      | .pass region cache _ => match d.homeRead i a with
        | .got v => d.endCreate i x (v.map ctxOf)
        | .memory => d.endCreate i x mem
        | .waits =>
          let r := d.openCheck k (instMaster i) region false
          r.1.openReads { id := 0, inst := i, qid := 0, entry := x.entry, piece := 0, part := AccPart.context, line := 0, chk := r.2 } cache a

def execCreateQueue (inst : Fin 4096) (ctx : Option QContext) (s : State) : Host.Outcome State Fault Refusal :=
  liveLift (effCreateQueue inst ctx) s

/-- DESTROY_QUEUE: the queue is DESTROYING; one in ERROR is ABSENT at once (R241). -/
def effDestroyQueue (i qid : Nat) (d : Dev) : Dev :=
  match d.adminCmd i 0x81 with
  | none => d
  | some x =>
    if bytesAt x.raw 4 2 ≠ qid then d
    else match (if qid = 0 then none else d.queue i qid) with
      | none => d.endAdmin i x 18
      | some q => (if q.state = .error then d.dropQueue i qid
                   else d.setQueue i qid fun k => { k with state := .destroying }).endAdmin i x 0

def execDestroyQueue (inst : Fin 4096) (qid : Nat) (s : State) : Host.Outcome State Fault Refusal :=
  liveLift (effDestroyQueue inst qid) s

/-- An administrative command whose accesses waited goes on when they are over: a context has been read, or a result written. -/
def Dev.adminGoesOn (i : Nat) (d : Dev) : Dev :=
  let c := d.sideAccs i 0 AccPart.context
  let r := d.sideAccs i 0 AccPart.result
  match d.adminCmd i 0x80, d.adminCmd i 0x82 with
  | some x, _ =>
    if c = [] ∨ c.any (!·.ended) then d
    else (d.dropAccs c.contains).endCreate i x ((readOf c (bytesAt x.raw 8 8)).map ctxOf)
  | none, some x =>
    if r = [] ∨ r.any (!·.ended) then d else (d.dropAccs r.contains).endAdmin i x (if r.any (·.status != 0) then 20 else 0)
  | none, none => d

/-- QUERY_QUEUE: the 64 B result at the command's HPA is the control block and, from byte 16 on, the context, whose last 16 bytes
are reserved and do not fit (DESIGN CHOICE, log entry 104); CONTEXT_FAULT when the write ends with an error (`ok` false, or as Customs,
the decoder or its home ends it). The command ends when the result is at its home. -/
def effQueryQueue (i qid : Nat) (ok : Bool) (d : Dev) : Dev :=
  match d.adminCmd i 0x82 with
  | none => d
  | some x =>
    if bytesAt x.raw 4 2 ≠ qid then d
    else match (if qid = 0 then none else d.queue i qid) with
      | none => d.endAdmin i x 18
      | some q =>
        let a := bytesAt x.raw 8 8
        let v := d.controlBlock q + ctxRaw q.ctx % 2 ^ 384 * 2 ^ 128
        if d.sideAccs i 0 AccPart.result ≠ [] then d
        else match d.craneCheck (d.engineOf i 0) i 2 a with
          | .fail cause region => (d.violate (d.craneChecker false (d.engineOf i 0)) (instMaster i) cause 2 region a true).endAdmin i x 20
          | .pass _ _ _ =>
            if !ok then d.endAdmin i x 20
            else (d.storeFor false (d.engineOf i 0)
              { id := 0, inst := i, qid := 0, entry := x.entry, piece := 0, part := AccPart.result, line := 0 } a 64 v).adminGoesOn i

def execQueryQueue (inst : Fin 4096) (qid : Nat) (ok : Bool) (s : State) : Host.Outcome State Fault Refusal :=
  liveLift (effQueryQueue inst qid ok) s

/-- QUEUE_DESTROY_DONE: no descriptor is in execution, the records and the head word of the last ones are at their homes (R236), and a
poll found nothing posted. -/
def effQueueDestroyDone (i qid : Nat) (d : Dev) : Dev :=
  match d.queue i qid with
  | some q =>
    if q.state = .destroying ∧ q.exec = [] ∧ q.cache = [] ∧ d.sideAccs i qid AccPart.ring = [] ∧
        !(q.headDue || q.noticeDue || d.storing i qid) then d.dropQueue i qid else d
  | none => d

def execQueueDestroyDone (inst : Fin 4096) (qid : Nat) (s : State) : Host.Outcome State Fault Refusal :=
  liveLift (effQueueDestroyDone inst qid) s

/-! What waits for accesses goes on (R224, R236). -/

/-- A queue whose accesses may be over: reads of its ring, writes that its pieces send, records and the head word, and the
administrative command. -/
def Dev.queueGoesOn (q : Queue) (d : Dev) : Dev :=
  let d := q.exec.foldl (fun d x => x.flying.foldl (fun d k => d.sendWrites q x k) d) d
  ((if q.qid = 0 then d.adminGoesOn q.inst else d).settleQueue q.inst q.qid).pollGoesOn q.inst q.qid

def Dev.craneGoOn (d : Dev) : Dev := d.crane.queues.foldl (fun d q => d.queueGoesOn q) d.sweepStores

/-- ENGINE_ROUND: bales, zeroing, queues. The device's own work waits while the engine's master is IMPOUNDED (R280), and
stops in Salvage (R259). In Lull descriptors wait (R36). -/
def effEngineRound (e : Nat) (d : Dev) : Dev :=
  if d.get (Obj.engineState e) = 0 ∧ d.coreOn ∧ d.mode ≠ 5 then
    let d := (d.takeShares e).craneGoOn
    let d := if d.impounded (engineMaster e) then d else (d.stepBales e).stepZero e
    if d.power = 1 then d else d.stepQueues e
  else d

def execEngineRound (e : Fin 16) (s : State) : Host.Outcome State Fault Refusal := liveLift (effEngineRound e) s

/-! The mailbox (R251). -/

/-- A mailbox message in its half: the reserved bits of its header are not kept (R5, R251). -/
def mailbox (msg : Nat) : Nat := setBits (msg % 2 ^ 16384) 32 32 0

/-- H2M_POST: the event goes to the managers (R251) and to the instance's ring (R250). With no instance bound, MBOX_CTL ignores the post,
and only the half is written (R249). -/
def effH2mPost (i msg : Nat) (d : Dev) : Dev :=
  if 4096 ≤ i then (if d.isFunc i then d.setInst i fun x => { x with h2m := mailbox msg } else d)
  else if (d.inst i).bound && !(d.inst i).h2mPost then
    (d.setInst i fun x => { x with h2m := mailbox msg, h2mPost := true }).raiseTo [i]
      (info (sourceId 13 0) 0x8005 0 (0x1000 + i) (i + bits msg 16 16 * 2 ^ 16))
  else d

def execH2mPost (inst : Fin 36992) (msg : Nat) (s : State) : Host.Outcome State Fault Refusal :=
  liveLift (effH2mPost inst msg) s

/-- MBOX_H2M_ACK. -/
def actMboxAck : Act :=
  { check := fun _ v _ => if v < 4096 then Status.success else Status.badValue
    effect := fun _ v _ d => d.setInst v fun x => { x with h2mPost := false } }

def execMboxH2mAck (c : Call) (v : Nat) (s : State) : Host.Outcome State Fault Refusal :=
  writeRow actMboxAck c Obj.mboxH2mAck v s

/-- MBOX_M2H. -/
def actMboxM2h : Act :=
  { check := fun _ v d => if 4096 ≤ bits v 0 16 then Status.badValue else if (d.inst (bits v 0 16)).m2hValid then Status.busy
                          else Status.success
    effect := fun _ v _ d => (d.setInst (bits v 0 16) fun x => { x with m2h := mailbox (bits v 64 16384), m2hValid := true }).msix
      (bits v 0 16) (d.inst (bits v 0 16)).mboxVector }

def execMboxM2h (c : Call) (v : Nat) (s : State) : Host.Outcome State Fault Refusal :=
  writeRow actMboxM2h c Obj.mboxM2h v s

/-! Capacity (R253, R254). -/

/-- Pages counted against an instance (R253). -/
def Dev.instUsed (d : Dev) (i : Nat) : Nat :=
  match d.slotOfInst i with
  | none => 0
  | some h => ((maskBits (d.inst i).berthMask 16).map fun j => d.get (Obj.mappedPages (16 * h + j))).sum

/-- The function's own checks of a request: 4 REFUSED outside service modes, 3 BAD_REQUEST, 2 QUOTA; else those of R194. An unbound PF
is limited by the slot alone; an unbound VF has no berth to name (DESIGN CHOICE, log entry 116). -/
def Dev.instCapCheck (d : Dev) (i req : Nat) : Nat :=
  let a := capArg req
  if !d.service then 4
  else match d.slotOfInst i with
    | none => 3
    | some h =>
      let st := d.capCheck (some h) req
      if 4096 ≤ i then (if (d.inst i).function = 0 then st else 3)
      else if st = 3 ∨ !bitAt (d.inst i).berthMask (a.target % 16) then 3
      else if (d.inst i).quota - d.instUsed i < a.pages then 2 else st

/-- CAP_REQ as it is kept: the reserved bits of Table 7.5 are not (R5). -/
def capReg (req : Nat) : Nat := setBits (req % 2 ^ 96) 25 7 0

/-- CAP_REQUEST: GO with RELEASE = 0; ignored while a request is open. -/
def effCapRequest (i req : Nat) (d : Dev) : Dev :=
  if !d.isFunc i ∨ (d.inst i).capGo then d
  else
    let d := d.setInst i fun x => { x with capReq := capReg req, capGo := true, capRelease := false }
    let st := d.instCapCheck i req
    if st ≠ 0 then d.answerCap (.inst i) (capResponse st [])
    else
      let d' := d.capAsk (d.slotOfInst i) req (.inst i)
      match d.capNow (d.slotOfInst i) req (.inst i) with
      | some r => d'.answerCap (.inst i) r
      | none => d'

def execCapRequest (inst : Fin 36992) (req : Nat) (s : State) : Host.Outcome State Fault Refusal :=
  liveLift (effCapRequest inst req) s

/-- CAP_RELEASE: GO with RELEASE = 1, of pages of berths 8 to 15 of the slot. -/
def effCapRelease (i req : Nat) (d : Dev) : Dev :=
  if !d.isFunc i ∨ (d.inst i).capGo then d
  else
    let d := d.setInst i fun x => { x with capReq := capReg req, capGo := true, capRelease := true }
    let n := bits req 0 16
    let ok := ((d.inst i).bound || (d.inst i).function == 0) && decide (some (n / 16) = d.slotOfInst i ∧ 8 ≤ n % 16 ∧ bits req 16 16 = 0 ∧ bits req 96 32 = 0) &&
      d.inBerth n (bits req 64 32) (bits req 32 32)
    if ok then (d.unmap n (bits req 64 32) (bits req 32 32)).answerCap (.inst i) (capResponse 0 [])
    else d.answerCap (.inst i) (capResponse 3 [])

def execCapRelease (inst : Fin 36992) (req : Nat) (s : State) : Host.Outcome State Fault Refusal :=
  liveLift (effCapRelease inst req) s

/-! Instances (R252). -/

/-- Queue contexts that an instance holds. -/
def Inst.held (x : Inst) : Nat := if !x.bound then 0 else if x.model = 0 then x.maxQueues else x.maxQueues + 1

/-- Contexts of all bound instances but one. -/
def Dev.contextsBut (d : Dev) (i : Nat) : Nat := ((d.crane.insts.filter (·.1 != i)).map fun p => p.2.held).sum

/-- The status of INST_CONFIG. -/
def checkInstConfig (v : Nat) (d : Dev) : Nat :=
  let i := bytesAt v 0 2
  let x := d.inst i
  let y := x.configured v
  if 4095 < i ∨ 127 < y.quay ∨ 256 < y.function ∨ 1 < y.model ∨ y.share < 1 ∨ 100 < y.share ∨ y.maxQueues < 1 ∨
      (if y.model = 0 then 64 else 4095) < y.maxQueues ∨ 134217728 < y.quota ∨ d.role y.quay ≠ 1 ∨
      (d.crane.insts.any fun p => p.1 != i && p.2.bound && p.2.quay == y.quay && p.2.function == y.function) then Status.badValue
  else if x.enable ∧ (x.bound ≠ y.bound ∨ x.quay ≠ y.quay ∨ x.function ≠ y.function ∨ x.model ≠ y.model ∨
      x.berthMask ≠ y.berthMask) then Status.busy
  else if 16384 < d.contextsBut i + y.held then Status.resourceLimit
  else Status.success

/-- The registers of a function that are not of its instance's configuration (Table 8.12). -/
def Inst.regs (r x : Inst) : Inst :=
  { x with h2m := r.h2m, h2mPost := r.h2mPost, m2h := r.m2h, m2hValid := r.m2hValid, mboxVector := r.mboxVector, capReq := r.capReq
           capResp := r.capResp, capGo := r.capGo, capRelease := r.capRelease, capVector := r.capVector, evtBase := r.evtBase
           evtEntries := r.evtEntries, evtVector := r.evtVector, evtHead := r.evtHead, evtTail := r.evtTail
           evtOverflow := r.evtOverflow, recoveryLoss := r.recoveryLoss, admin := r.admin, contexts := r.contexts
           msixTable := r.msixTable, pba := r.pba }

/-- A function's registers are those of another number from now on: its waiting event records and its capacity request with them. -/
def Dev.renumber (i j : Nat) (d : Dev) : Dev :=
  let r := d.inst i
  let d := (d.setInst j (Inst.regs r)).setInst i (Inst.regs {})
  (d.setCrane fun c => { c with
    ringWork := c.ringWork.map (fun p => if p.1 = i then (j, p.2) else p)
    accs := c.accs.map fun x => if x.inst = i ∧ x.part = AccPart.event then { x with inst := j } else x }).setPool fun p => { p with
      caps := p.caps.map fun x => if x.asker = .inst i then { x with asker := .inst j } else x }

/-- Binding keeps a function's registers: they are the instance's while it is bound to it (DESIGN CHOICE, log entry 116). -/
def Dev.rebind (i : Nat) (x y : Inst) (d : Dev) : Dev :=
  let same := x.bound == y.bound && x.quay == y.quay && x.function == y.function
  let d := if x.bound && !same then (d.setInst i (Inst.regs x)).renumber i (funcOf x.quay x.function) else d
  if y.bound && !same then d.renumber (funcOf y.quay y.function) i else d

/-- INST_CONFIG (R252): a new SHARE is taken by the next round on each engine (R228). A resource-change event goes to the instance when
LIMITS, QUOTA_PAGES or BERTH_MASK changes. -/
def actInstConfig : Act :=
  { check := fun _ v d => checkInstConfig v d
    effect := fun _ v _ d =>
      let i := bytesAt v 0 2
      let x := d.inst i
      let y := x.configured v
      let y := if x.enable && x.model == 0 then { y with maxQueues := x.maxQueues
                                                         nextMaxQueues := if y.maxQueues = x.maxQueues then none else some y.maxQueues }
               else y
      let old : Tab Nat := (List.range 16).foldl (fun t e => Tab.set 0 t e (x.shareOn e)) []
      let d := (d.setInst i fun _ => { y with shares := if x.bound then old else [] }).rebind i x y
      if x.model ≠ y.model ∨ x.share ≠ y.share ∨ x.maxQueues ≠ y.maxQueues ∨ x.quota ≠ y.quota ∨ x.berthMask ≠ y.berthMask then
        d.resourceEvent i
      else d }

def execInstConfig (c : Call) (v : Nat) (s : State) : Host.Outcome State Fault Refusal :=
  writeRow actInstConfig c Obj.instConfig v s

/-! The registers of a function as the host reads them (Tables 8.12 and 8.13, R249, R253). -/

/-- LIMITS: MODEL, QUEUE_LIMIT, SHARE and the active engines. -/
def Dev.limitsReg (d : Dev) (i : Nat) : Nat :=
  let x := d.inst i
  (d.activeEngineCount + x.share * 2 ^ 8 + x.maxQueues * 2 ^ 16 + x.model * 2 ^ 31) % 2 ^ 32

/-- FUNC_STATUS: RUNNING, IMPOUNDED, HELD_BY_MODE, EVT_OVERFLOW, RECOVERY_LOSS. -/
def Dev.funcStatus (d : Dev) (i : Nat) : Nat :=
  let x := d.inst i
  b2n (x.enable && !d.instHeld i) + 2 * b2n (d.impounded (d.funcMaster i)) + 4 * b2n (!d.service) + 8 * b2n x.evtOverflow +
    16 * b2n x.recoveryLoss

/-- BERTH_RANGE k of a PF: berth 8 + k of its slot, in the layout of its HDM decoder (R181). -/
def Dev.berthRange (d : Dev) (i k : Nat) : Nat :=
  match d.slotOfInst i with
  | some h =>
    let n := 16 * h + 8 + k
    if (d.inst i).function ≠ 0 then 0
    else d.get (Obj.berthBase n) % 2 ^ 64 + d.get (Obj.berthLimit n) % 2 ^ 64 * 2 ^ 64 + d.get (Obj.mappedPages n) % 2 ^ 32 * 2 ^ 128 +
      (d.get (Obj.berthEnable n) + 2 * d.get (Obj.berthKind n)) * 2 ^ 160
  | none => 0

/-- The queue context at a place of BAR0: QUEUE_CONTEXT q of the small model. -/
def Dev.contextReg (d : Dev) (i q : Nat) : Nat := if (d.inst i).model = 0 then ((d.inst i).contexts[q]?.map ctxRaw).getD 0 else 0

/-- The control block of queue q: in BAR0 for the small model, at offset 16q of BAR2 for the large one. -/
def Dev.controlReg (d : Dev) (i q : Nat) : Nat := ((d.queue i q).map d.controlBlock).getD 0

/-- What a host reads in BAR0 at the offset of a register of Table 8.12; reserved offsets read 0, and so does every Crane register of
a function that no instance is bound to (R249), but for FUNC_STATUS bit 1 of an unbound PF whose slot is IMPOUNDED (R280). -/
def Dev.bar0 (d : Dev) (i off : Nat) : Nat :=
  let x := d.inst i
  if !x.bound ∧ off = 0x0018 then 2 * b2n (x.function == 0 && (d.slotOfInst i).isSome && d.impounded (d.funcMaster i))
  else if !x.bound ∧ (off ≤ 0x100 ∨ (0x2000 ≤ off ∧ off < 0x4000)) then 0
  else match off with
    | 0x0000 => i + b2n x.bound * 2 ^ 31
    | 0x0004 => d.limitsReg i
    | 0x0008 => x.quota
    | 0x000C => d.instUsed i
    | 0x0010 => x.berthMask
    | 0x0014 => b2n x.enable
    | 0x0018 => d.funcStatus i
    | 0x001C => b2n x.h2mPost + 2 * b2n x.m2hValid + x.mboxVector * 2 ^ 8
    | 0x0100 => (x.admin.map ctxRaw).getD 0
    | 0x0400 => x.capReq
    | 0x0410 => x.capResp
    | 0x0420 => b2n x.capGo + 2 * b2n x.capRelease + x.capVector * 2 ^ 8
    | 0x1000 => x.evtBase
    | 0x1008 => x.evtEntries
    | 0x100C => x.evtVector
    | 0x1010 => x.evtHead
    | 0x1014 => x.evtTail
    | 0x4000 => x.h2m
    | 0x4800 => x.m2h
    | 0xF000 => x.pba
    | _ =>
      if 0x0800 ≤ off ∧ off < 0x0900 ∧ off % 32 = 0 then d.berthRange i ((off - 0x0800) / 32)
      else if 0x2000 ≤ off ∧ off < 0x3000 ∧ off % 64 = 0 then d.contextReg i ((off - 0x2000) / 64)
      else if 0x3000 ≤ off ∧ off < 0x3400 ∧ off % 16 = 0 ∧ x.model = 0 then d.controlReg i ((off - 0x3000) / 16)
      else if 0xE000 ≤ off ∧ off < 0xF000 ∧ off % 16 = 0 then x.msixEntry ((off - 0xE000) / 16)
      else 0

/-! Release of an IMPOUNDED master (R255, R281). -/

/-- What RELEASE does about master `m` (R281): its held requests are checked again, or discarded with their answer; an
instance's held records and head words, its held event records, and those of an unbound PF whose slot was held, follow. -/
def Dev.afterRelease (m : Nat) (discard : Bool) (d : Dev) : Dev :=
  let held := d.crane.queues.filter d.holdsStore
  let d := d.release m (b2n discard)
  let rings (i : Nat) (d : Dev) : Dev :=
    if discard then d.setCrane fun c => { c with ringWork := c.ringWork.filter (·.1 != i) } else d.ringAgain i
  if 0x1000 ≤ m ∧ m < 0x2000 then
    let i := m - 0x1000
    let d := (held.filter (·.inst == i)).foldl (fun d q =>
      if discard then d.discardRecords q.inst q.qid else d.retireAs .again q.inst q.qid) d
    let d := rings i d
    (d.crane.queues.filter (·.inst == i)).foldl (fun d q => d.settleQueue q.inst q.qid) d
  else if m < 64 then
    match (d.localQuay m).bind d.pfOf with
    | some i => if i < 4096 then d else rings i d
    | none => d
  else d

/-- RELEASE: the held accesses of an instance are checked again, so its records that wait are written; DISCARD performs none of
them. -/
def actRelease : Act :=
  { check := fun _ v d => checkRelease v d
    effect := fun _ v _ d => d.afterRelease (bits v 0 16) (bits v 16 8 == 1) }

def execReleaseRecheck (c : Call) (v : Nat) (s : State) : Host.Outcome State Fault Refusal :=
  writeRow actRelease c Obj.release v s

def execReleaseDiscard (c : Call) (v : Nat) (s : State) : Host.Outcome State Fault Refusal :=
  writeRow actRelease c Obj.release v s

/-! Engines leave and return (R226, R257 to R259). -/

/-- Cached entries of the queues on an engine are discarded, to be fetched again. -/
def Dev.dropCaches (e : Nat) (d : Dev) : Dev :=
  let f (q : Queue) : Queue := if d.engineOf q.inst q.qid = e then { q.discard with invalHead := q.invalHead } else q
  d.setCrane fun c => { c with queues := c.queues.map f }

/-- A descriptor is in execution on an engine: its queue runs there and it has not ended, or a piece of it is in flight there. -/
def Dev.runsOn (d : Dev) (e : Nat) (q : Queue) (x : Desc) : Bool :=
  decide (x.flyingOn e ≠ []) || (d.engineOf q.inst q.qid == e && !x.ended (q.op x))

/-- R258: pieces in flight on a fenced engine are lost; each descriptor in execution there completes PARTIAL with SUBCODE
2. -/
def Dev.loseEngine (e : Nat) (d : Dev) : Dev :=
  let mine := d.crane.queues.flatMap fun q => (q.exec.filter (d.runsOn e q)).map fun x => (q, x)
  let cut (q : Queue) (x : Desc) : Desc := if d.runsOn e q x then { x.cutOff with cut := some 2, checks := [] } else x
  let f (q : Queue) : Queue := { q with exec := q.exec.map (cut q) }
  let d := mine.foldl (fun d p => p.2.checks.foldl (fun d c => d.closeCheck c.2) d) d
  let lost (x : PieceAcc) : Bool := mine.any fun p => p.1.inst == x.inst && p.1.qid == x.qid && p.2.entry == x.entry
  (d.dropCaches e).setCrane fun c => { c with queues := c.queues.map f, accs := c.accs.filter (!lost ·) }

/-- The records of queues that an engine has lost are written by the engines that take their slots. -/
def Dev.settleAll (d : Dev) : Dev := d.crane.queues.foldl (fun d q => d.settleQueue q.inst q.qid) d

/-- Zeroing and migrations of an engine go on elsewhere (R218, R257, R398): zeroing starts the page's units again; the bale
being copied starts again. -/
def Dev.moveWork (e : Nat) (d : Dev) : Dev :=
  let z := d.crane.zeroing.filter (·.2.2.2 == e)
  let mine := d.pool.migs.filter (·.engine == e)
  let d := d.endOwn fun w => match w with
    | .zero m p => z.any fun y => y.1 == m && y.2.1 == p
    | .bale s => mine.any (·.slot == s)
  let d := d.setCrane fun c => { c with
    zeroing := c.zeroing.filter (·.2.2.2 != e), zeroQueue := z.map (fun y => (y.1, y.2.1, 1)) ++ c.zeroQueue }
  (d.pool.migs.filter (·.engine == e)).foldl (fun d g => d.setMig g.slot fun g =>
    { g with engine := d.engineAfter (e + 1), copying := false }) d

/-- R259: a recovery reset clears every instance without records, and sets RECOVERY_LOSS where it was bound. -/
def Dev.clearInsts (d : Dev) : Dev :=
  d.setCrane fun c => { c with
    queues := [], accs := [], ringWork := []
    insts := (c.insts.filter fun p => decide (p.1 < 4096)).map fun p => (p.1, { p.2.cleared with recoveryLoss := p.2.bound }) }

end Sys2Proof.Machine
end

