-- ==== Sys2Proof/Machine/Down.lean ====
section
/-!
DEFINITION. Declarations of DOWN and what starts a link (R49 to R53, R85 to R100, R117, R182, R183).
-/

namespace Sys2Proof.Machine

open Sys2Proof

/-! IDE streams as a declaration of DOWN leaves them (R354). -/

/-- A stream of a quay: 0 the link stream, 1 to 4 the selective streams. -/
def Dev.stream (d : Dev) (q k : Nat) : IdeStream := Tab.get {} d.bw.streams (8 * q + k)

/-- Selective streams that are SECURE, and the objects that show a quay's streams (Table 12.18). -/
def Dev.showIde (q : Nat) (d : Dev) : Dev :=
  d.putAll [(Obj.ideLinkState q, (d.stream q 0).st), (Obj.ideActiveKeySet q, (d.stream q 0).active),
            (Obj.ideSelStreams q, ([1, 2, 3, 4].filter fun k => (d.stream q k).st == 2).length)]

/-- Change a stream. -/
def Dev.setIde (q k : Nat) (f : IdeStream → IdeStream) (d : Dev) : Dev :=
  (d.setBw fun b => { b with streams := Tab.set {} b.streams (8 * q + k) (f (d.stream q k)) }).showIde q

/-- A stream's keys are zeroised and it reads INSECURE; one that never had a key stays NONE. -/
def IdeStream.drop (x : IdeStream) : IdeStream := if x.st = 0 then x else { st := 3, active := x.active }

/-- Every stream of a quay becomes INSECURE, and its IDE_KM session ends. -/
def Dev.insecure (q : Nat) (d : Dev) : Dev :=
  (d.forEach [0, 1, 2, 3, 4] (fun k d => d.setIde q k IdeStream.drop)).setBw fun b => { b with km := b.km.filter (· != q) }

/-- The stream becomes INSECURE, and discards its flits from now on (R354). -/
def IdeStream.fail (x : IdeStream) : IdeStream := { x.drop with failed := true }

/-! The declaration (R88, R89). -/

/-- A request of the device's own ends with the timeout outcome of Table 4.4, or with another failure. -/
def Dev.failOrig (ini : Initiator) (cause : Nat) (d : Dev) : Dev :=
  match ini with
  | .mem id => match d.accOf id with
    | some a => d.memFailed a cause
    | none => d
  | .walk s line => d.endWalk s line false
  | .harbour op => d.send (.proto 3 op 1 0)

/-- Every request of the device's own on a quay ends at once; the quay's tags have no stale generation (R89, R95). -/
def Dev.endOrigs (q : Nat) (d : Dev) : Dev :=
  let mine := (d.net.orig.filter (·.quay == q)).map (·.ini) ++ (d.net.waiting.filter (·.quay == q)).map (·.ini)
  let held := d.net.waiting.filter fun w => w.quay == q && !w.made && decide (16 ≤ w.unit ∧ w.unit < 144)
  let d := held.foldl (fun d w => d.freeMsg (w.unit - 16) w.msg) d
  let d := d.setNet fun n => { n with
    orig := n.orig.filter (·.quay != q), waiting := n.waiting.filter (·.quay != q)
    tags := n.tags.filterMap fun p => if p.1 / 8192 = q then
      (if p.2.next = 0 then none else some (p.1, { p.2 with stale := [] })) else some p }
  mine.foldl (fun d i => d.failOrig i 2) d

/-- Forwarded requests in the replay buffer are discarded, and those forwarded to the quay have completed for barriers
(R89, Table 9.7). -/
def Dev.endForwards (q : Nat) (d : Dev) : Dev :=
  let lost := ((d.quay q).replay.flatMap (·.items)).filter lostForward
  let checks := (d.customs.forwarded.filter (·.egress == q)).map (·.check)
  checks.foldl (fun d c => d.closeCheck c) ((d.count Obj.flushRequestDrops lost.length).closeChecks lost)

/-- The space of what a quay has received before is not credited any more (R79, R80). -/
def Dev.spent (q : Nat) (d : Dev) : Dev :=
  let mark (f : CoreFlit) : CoreFlit :=
    if (d.portsOf q).contains f.inp then { f with items := f.items.map ({ · with made := true }) } else f
  d.setNet fun n => { n with voq := n.voq.map mark, backlog := n.backlog.map mark, egress := n.egress.map mark }

/-- The quay's record after a declaration: only its PERST input and generation steps are kept. -/
def Quay.down (by' : DownBy) (k : Quay) : Quay :=
  { downBy := by', perst := k.perst, genBase := k.genBase, stepGens := true }

/-- Migrations whose target device has left READY are aborted (R217). -/
def Dev.abortLost (d : Dev) : Dev :=
  (d.pool.migs.filter fun g => d.devState g.dstDev == 2).foldl (fun d g => d.abortMig g) d

/-- The condition on which a quay that is already DOWN trains after another declaration (R89): a command or hardware
action outlasts presence. -/
def DownBy.again (old new : DownBy) : DownBy :=
  match old, new with
  | .command, .presence => .command
  | _, b => b

/-- An enumeration assigns the window of a quay's partner in management space (R262, R264); the spec gives no addresses (free values,
log entry 115), apart from every other quay's. A partner that is gone has none. -/
def Dev.assignWindow (q : Nat) (done : Bool) (d : Dev) : Dev :=
  let first := q * 2 ^ 44 + d.draw % 2 ^ 43
  let w := if done then [(q, first, first + d.drawn.draw % 2 ^ 43)] else []
  (if done then d.drawn.drawn else d).setCustoms fun c => { c with windows := c.windows.filter (·.1 != q) ++ w }

/-- The enumeration of the memory devices on a quay is complete, or is to be done again (R183). -/
def Dev.enumerate (q : Nat) (done : Bool) (d : Dev) : Dev :=
  let mine := (List.range 64).filter fun i => d.get (Obj.memdevQuay i) == q
  (d.assignWindow q done).setPool fun p => { p with enumerated := mine.foldl (fun m i => setBit m i done) p.enumerated }

/-- R89: a quay is declared down. One that is DOWN already changes only the condition on which it trains. A WIDTH_REQUEST that is
still pending reads FAILED (DESIGN CHOICE, log entry 99: the spec names no status). -/
def Dev.declareDown (q : Nat) (by' : DownBy) (d : Dev) : Dev :=
  if d.qstate q = 1 then d.setQuay q fun k => { k with downBy := k.downBy.again by' }
  else if d.qstate q = 0 ∨ d.qstate q = 5 then d
  else
    let d := d.leaveUp q 1
    let d := d.putIf ((d.quay q).wreq.isSome) (Obj.widthRequestStatus q) 4
    let d := (d.endForwards q).flushQuay q
    let d := d.setQuay q (Quay.down by')
    let d := (d.endOrigs q).discardHeld q
    let d := { d with modes := { d.modes with decisions := d.modes.decisions.filter fun x => !(x.fn == 5 && x.subject == q) } }
    let d := d.enumerate q false
    let d := (d.abortLost).insecure q
    d.resetQuayFuncs q

/-- The objects of a quay that a device commit of a declaration changes. -/
def downObjs (q : Nat) : List Nat := [Obj.quayState q, Obj.currentRate q, Obj.currentWidth q, Obj.protocol q, Obj.laneReversed q]

/-- A declaration that the device makes by itself is a commit of its own (R89, R303). -/
def Dev.downByDevice (q : Nat) (by' : DownBy) (d : Dev) : Dev := d.devCommit (downObjs q) (Dev.declareDown q by')

/-! Commands and events that declare a quay down or let it train. -/

/-- QUAY_DOWN. -/
def actQuayDown : Act :=
  { check := fun _ v d => if v < 128 ∧ d.qstate v ≠ 0 ∧ d.qstate v ≠ 5 then Status.success else Status.badValue
    effect := fun _ v n d => d.marking (downObjs v) n (Dev.declareDown v .command) }

def execQuayDown (c : Call) (v : Nat) (s : State) : Host.Outcome State Fault Refusal := writeRow actQuayDown c Obj.quayDown v s

/-- The slot whose quay this is has lost presence. -/
def Dev.slotAbsent (d : Dev) (q : Nat) : Bool :=
  (List.range 48).any fun s => d.slotQuayNow s == q && d.get (Obj.slotState s) == 0

/-- The quay has a slot. -/
def Dev.slotsOf (d : Dev) (q : Nat) : List Nat := (List.range 48).filter fun s => d.slotQuayNow s == q

/-- QUAY_RELEASE (R89, R105): a released quay still waits for presence where it is missing. -/
def actQuayRelease : Act :=
  { check := fun _ v d => if 128 ≤ v ∨ d.qstate v = 0 ∨ d.qstate v = 5 then Status.badValue
                          else if d.qstate v = 1 then Status.success else Status.wrongMode
    effect := fun _ v _ d => (d.setQuay v fun k => { k with
      downBy := if d.role v = 2 ∧ d.slotAbsent v then .presence else .none }).tryTrain v }

def execQuayRelease (c : Call) (v : Nat) (s : State) : Host.Outcome State Fault Refusal :=
  writeRow actQuayRelease c Obj.quayRelease v s

/-- HOST_PERST_ASSERT (R88). -/
def effHostPerstAssert (q : Nat) (d : Dev) : Dev :=
  let d := d.setQuay q fun k => { k with perst := true }
  if d.role q = 1 ∧ d.qstate q ≠ 0 then d.downByDevice q .presence else d

def execHostPerstAssert (q : Fin 128) (s : State) : Host.Outcome State Fault Refusal := liveLift (effHostPerstAssert q) s

/-- HOST_PERST_DEASSERT (R382): presence of the host returns, and its quay enters Detect. -/
def effHostPerstDeassert (q : Nat) (d : Dev) : Dev :=
  (d.setQuay q fun k => { k with perst := false, downBy := if k.downBy = .presence then .none else k.downBy }).tryTrain q

def execHostPerstDeassert (q : Fin 128) (s : State) : Host.Outcome State Fault Refusal := liveLift (effHostPerstDeassert q) s

/-- HOT_RESET_RECEIVED (R88). -/
def effHotResetReceived (q : Nat) (d : Dev) : Dev :=
  if d.role q = 1 ∧ d.qstate q ≠ 0 then d.downByDevice q .presence else d

def execHotResetReceived (q : Fin 128) (s : State) : Host.Outcome State Fault Refusal := liveLift (effHotResetReceived q) s

/-! Links start (R47, R53, R67, R77, R85 to R87, R97). -/

/-- A DOWN Host quay whose partner ended a hot reset or link disable trains again. -/
def Dev.wakes (d : Dev) (q : Nat) : Bool :=
  d.qstate q == 1 && d.role q == 1 && (d.quay q).downBy == .presence && !(d.quay q).perst && d.wharfRuns (q / 4) && d.coreOn

/-- LINK_UP is possible: the quay trains, or is HELD. One on its way through a retrain of the device's own, or held for a verdict of
function 5, reads UP too when its link returns (R85); in the second case its traffic waits on (R68). -/
def Dev.linksUp (d : Dev) (q : Nat) : Bool :=
  d.coreOn && d.wharfRuns (q / 4) && !d.scanned && (d.qstate q == 2 || d.qstate q == 4 || d.wakes q)

/-- The protocol that a quay and its partner settle on (R47, R53 to R57): CXL only as both ends offer it, with 68 B flits toward a
partner that offers only CXL 1.1; CXL that both ends run is never given up for PCIe at 128 GT/s; flits are used wherever both ends
support them, 256 B flits before 68 B ones. -/
def settledProtocol (offer role cap : Nat) (r : TrainResult) : Nat :=
  let common := commonCxl offer role r
  let p := if r.cxl11 ∧ 4 ≤ r.protocol then 3 else r.protocol
  let p := if p ≤ 2 ∧ 6 ≤ min r.rate cap then listMax p common else p
  let p := if p = 3 ∧ r.flit ∧ !r.cxl11 then listMax 3 common else p
  if p = 1 ∨ p = 2 then (if r.flit then 2 else 1) else p

/-- What training settled: the rate within what the protocol allows and the effective cap, and the settings that take effect at a
training (R78). -/
def Quay.trained (r : TrainResult) (p top cap burst : Nat) (sris bi : Bool) (k : Quay) : Quay :=
  { k with l0 := true, rate := min top cap, topRate := top, protocol := p, l0p := r.l0p, burst := r.burst
           tagBits := r.tagBits, downBy := .none, ownBurst := burst, sris := sris, bi := bi, retrain := none }

/-- The lanes after a training. A link that had been up takes each lane that failed in Recovery as failed, with its event (R66);
a quay on its first training takes them as its failed lanes, counted without lane reversal. -/
def Dev.trainedLanes (q failed : Nat) (held : Bool) (d : Dev) : Dev :=
  if held then d.retrainLanes q failed
  else (d.setQuay q fun k => { k with rev := false, warned := 0, warnRun := [], failRun := [] }).put (Obj.failedLanes q)
    (failed % 2 ^ d.cfgWidth q)

/-- Training of a quay that was not UP reaches a width: a Fabric quay first awaits its identity check (R97). -/
def Dev.firstUp (q : Nat) (d : Dev) : Dev :=
  if d.role q = 3 then d else (d.enterUp q).checkMinWidth q (d.quay q).width

/-- A link that was HELD is back: a retrain on its way is over, with a narrower width counted (R68); lanes that were in electrical idle,
all of them after a DL_Down, have had their burst (R61). -/
def Dev.heldUp (q w : Nat) (old : Quay) (d : Dev) : Dev :=
  let d := if old.dlDown || old.wakes (d.cfgWidth q) w (d.quay q).rev then d.exitIdle q w else d
  (((d.count (Obj.degradeCount q) (b2n (decide (w < old.width)))).enterUp q).checkMinWidth q w).reviewRequest q w

/-- The link trains: lanes, width, and what else training settles; a preset is asked for in equalisation (R64). A retrain on its way
takes the width it set out to reach. With no working width, or none that the role allows, the quay clears its FAILED_LANES and goes on training with every lane (R67; for a Fabric quay
below x4 DESIGN CHOICE, log entry 99). -/
def Dev.train (q p : Nat) (r : TrainResult) (d : Dev) : Dev :=
  let held := d.qstate q == 4
  let d := ((if d.qstate q = 1 then d.leaveUp q 2 else d).setQuay q fun k => { k with partnerMax := r.partnerMax }).trainedLanes q
    r.failed held
  let old := d.quay q
  match d.settled q (((old.retrain.filter fun _ => held).map fun g => g.want (d.cfgWidth q) old.width).getD (d.cfgWidth q)) with
  | none => d.put (Obj.failedLanes q) 0
  | some (w, rev) =>
    let offer := d.get (Obj.cxlOffer q)
    let d := (d.takeWidth q w rev).setQuay q (Quay.trained r p (linkTop offer (d.role q) p r) (d.rateCap q) (d.get (Obj.eiExitBurst q))
      (d.get (Obj.clocking q) == 1) (r.bi && bitAt offer 4 && decide (4 ≤ p)))
    let d := d.askPreset q r
    if held then d.heldUp q w old else d.firstUp q

/-- LINK_UP (R85): the LTSSM reaches L0. A Fabric quay whose partner does not offer port-based routing stays DOWN, with Type 4
(R53); one that was HELD stays so (DESIGN CHOICE, log entry 112). -/
def effLinkUp (q : Nat) (r : TrainResult) (d : Dev) : Dev :=
  let p := settledProtocol (d.get (Obj.cxlOffer q)) (d.role q) (d.rateCap q) r
  if !d.linksUp q then d
  else if d.role q = 3 ∧ !r.pbr then
    if d.qstate q = 4 then d else (d.downByDevice q .none).err { typ := 4, inst := q, unit := q }
  else if protocolOffered (d.get (Obj.cxlOffer q)) (d.role q) p then d.train q p r else d

def execLinkUp (q : Fin 128) (r : TrainResult) (s : State) : Host.Outcome State Fault Refusal := liveLift (effLinkUp q r) s

/-- A request of the device's own ends as timed out (R91). -/
def Dev.timeOut (o : Orig) (d : Dev) : Dev := ((d.noteTimeout o).expireOrig o).failOrig o.ini 1

/-- R87 at a DL_Up: the replay buffer goes out again, and atomic requests of the device's own that were in it end as timed
out. -/
def Dev.resendHeld (q : Nat) (d : Dev) : Dev := (d.lostAtomics q).foldl (fun d o => d.timeOut o) (d.resendReplay q)

/-- DL_UP (R79, R87, R97): credits are advertised; a Fabric quay sends its identity and awaits the partner's; any other
resends its replay buffer. -/
def effDlUp (q : Nat) (d : Dev) : Dev :=
  if (d.quay q).dlDown ∧ (d.quay q).l0 then
    let d := d.spent q
    let d := (d.setQuay q fun k => { k with dlDown := false, credits := [], returns := [] }).advertise q
    if d.role q = 3 then (d.setQuay q fun k => { k with awaitId := true }).send (.link q (.identity (d.get Obj.fabricId)))
    else d.resendHeld q
  else d

def execDlUp (q : Fin 128) (s : State) : Host.Outcome State Fault Refusal := liveLift (effDlUp q) s

/-- The identity check fails: the quay is declared down as by a hardware action, with Type 4 at the first DL_Up and Type 5
after a hold (Table 4.6). -/
def Dev.identityFails (q : Nat) (first : Bool) (d : Dev) : Dev :=
  (d.downByDevice q .command).err { typ := if first then 4 else 5, inst := q, unit := q, alt := b2n first }

/-- R97, Table 4.6: the check ends with the partner found. -/
def Dev.judgePartner (q : Nat) (p : Partner) (d : Dev) : Dev :=
  let k := d.quay q
  if !k.awaitId || !k.l0 then d
  else
    let d := d.setQuay q fun k => { k with awaitId := false, partner := p }
    if p = .w512 (d.get Obj.fabricId) then d.identityFails q (!k.beenUp)
    else if !k.beenUp then ((d.enterUp q).checkMinWidth q k.width)
    else if p = k.partner then d.resendHeld q
    else d.identityFails q false

/-- FABRIC_IDENTITY_MESSAGE. -/
def effFabricIdentityMessage (q id : Nat) (d : Dev) : Dev := d.judgePartner q (.w512 id)

def execFabricIdentityMessage (q : Fin 128) (id : Nat) (s : State) : Host.Outcome State Fault Refusal :=
  liveLift (effFabricIdentityMessage q id) s

/-- FABRIC_IDENTITY_TIMEOUT: no message has come within 1 ms. -/
def effFabricIdentityTimeout (q : Nat) (d : Dev) : Dev := d.judgePartner q .other

def execFabricIdentityTimeout (q : Fin 128) (s : State) : Host.Outcome State Fault Refusal :=
  liveLift (effFabricIdentityTimeout q) s

/-- FLIT_RECEIVED (R81), on a link that carries flits. A flit that fails its integrity check under IDE is Type 11, and it and later
ones of its stream are discarded (R354). -/
def effFlitReceived (q : Nat) (f : RxFlit) (d : Dev) : Dev :=
  if !d.linkOn q ∨ (d.stream q f.stream).failed then d
  else if f.crcOk ∧ !f.ideOk ∧ (d.stream q f.stream).st = 2 then
    ((d.setIde q f.stream IdeStream.fail).count (Obj.ideIntegrityFails q) 1).err { typ := 11, inst := q, unit := q }
  else d.receiveFlit q f

def execFlitReceived (q : Fin 128) (f : RxFlit) (s : State) : Host.Outcome State Fault Refusal := liveLift (effFlitReceived q f) s

/-! Cutting wharves and giving roles (R49 to R53, R78). -/

/-- Show a quay number under the present cut: ABSENT when no quay takes it. -/
def Dev.showCut (q : Nat) (d : Dev) : Dev :=
  if d.positions q = 0 then d.putAll [(Obj.quayState q, 0), (Obj.configWidth q, 0)]
  else d.putAll [(Obj.quayState q, 1), (Obj.configWidth q, d.cfgWidth q)]

/-- Every quay number of a wharf. -/
def wharfQuays (w : Nat) : List Nat := [4 * w, 4 * w + 1, 4 * w + 2, 4 * w + 3]

/-- The wharf's quays train under the new setting; a wharf with a used quay starts if its reference is present. -/
def Dev.retrainWharf (w : Nat) (d : Dev) : Dev :=
  if d.coreOn && d.get (Obj.refclkStatus (w / 4)) == 1 && d.get (Obj.wharfState w) == 0 then d.startWharf w
  else d.forEach (d.quaysOfWharf w) Dev.tryTrain

/-- R51: every quay of a wharf goes DOWN, the setting changes, and the quays train again. A MIN_WIDTH above the new CONFIG_WIDTH stays
as it is (DESIGN CHOICE, log entry 112). -/
def Dev.recut (w : Nat) (f : Dev → Dev) (d : Dev) : Dev :=
  let d := d.forEach (wharfQuays w) (fun q d => d.declareDown q .recut)
  ((f d).forEach (wharfQuays w) Dev.showCut).retrainWharf w

/-- NARROW returns to None where the cut takes a number wider than x4 (R50). -/
def Dev.unnarrow (w : Nat) (d : Dev) : Dev :=
  d.forEach (wharfQuays w) (fun q d => d.putIf (decide (1 < d.positions q)) (Obj.narrow q) 0)

/-- BIFURCATION_WRITE. -/
def actBifurcation (w : Nat) : Act :=
  { check := fun _ _ d => checkSlipway d
    effect := fun _ v _ d => d.recut w fun d => (d.put (Obj.bifurcation w) v).unnarrow w }

def execBifurcationWrite (c : Call) (w : Fin 32) (v : Nat) (s : State) : Host.Outcome State Fault Refusal :=
  writeRow (actBifurcation w) c (Obj.bifurcation w) v s

/-- NARROW_WRITE (R50, R53): refused on a quay wider than x4, and other than None on a Fabric quay. -/
def actNarrow (q : Nat) : Act :=
  { check := fun _ v d => if v ≠ 0 ∧ (1 < d.positions q ∨ d.role q = 3) then Status.badValue else checkSlipway d
    effect := fun _ v _ d => d.recut (q / 4) fun d => d.put (Obj.narrow q) v }

def execNarrowWrite (c : Call) (q : Fin 128) (v : Nat) (s : State) : Host.Outcome State Fault Refusal :=
  writeRow (actNarrow q) c (Obj.narrow q) v s

/-- Quay numbers whose ROLE is Host. -/
def Dev.hostRoles (d : Dev) : Nat := ((List.range 128).filter fun q => d.role q == 1).length

/-- ROLE_WRITE (R51 to R53, R78): at most 64 Host quays; Fabric is never narrowed; CXL_OFFER takes the role's default. -/
def actRole (q : Nat) : Act :=
  { check := fun _ v d =>
      if v = 3 ∧ d.get (Obj.narrow q) ≠ 0 then Status.badValue
      else if d.mode ≠ 0 then Status.wrongMode
      else if v = 1 ∧ d.role q ≠ 1 ∧ 64 ≤ d.hostRoles then Status.resourceLimit
      else Status.success
    effect := fun _ v _ d => d.recut (q / 4) fun d =>
      d.putAll [(Obj.role q, v), (Obj.cxlOffer q, if v = 3 then 0x3D else 0x1F)] }

def execRoleWrite (c : Call) (q : Fin 128) (v : Nat) (s : State) : Host.Outcome State Fault Refusal :=
  writeRow (actRole q) c (Obj.role q) v s

/-! Requests of the device's own end (R91, R94). -/

/-- ORIGINATED_REQUEST_EXPIRY (R91). -/
def effOriginatedRequestExpiry (q slot gen : Nat) (d : Dev) : Dev :=
  match d.origAt q slot gen with
  | none => d
  | some o => (d.timeOut o).issueWaiting q

def execOriginatedRequestExpiry (q : Fin 128) (slot gen : Nat) (s : State) : Host.Outcome State Fault Refusal :=
  liveLift (effOriginatedRequestExpiry q slot gen) s

/-- The initiator of a request takes its response. -/
def Dev.takeResponse (ini : Initiator) (r : MemRsp) (d : Dev) : Dev :=
  match ini with
  | .mem id => match d.accOf id, r with
    | some a, .data v => d.memDone a v false
    | some a, .poison => d.memDone a 0 true
    | some a, .done => d.memDone a 0 false
    | some a, .notPerformed => d.memFailed a 3
    | none, _ => d
  | .walk s line => d.endWalk s line (match r with | .data _ => true | .done => true | _ => false)
  | .harbour op => d.send (.proto 3 op 0 (match r with | .data v => v | _ => 0))

/-- The space of a response of the device's own requests is free when it is taken (R80): its channel and data bytes. -/
def Dev.freeResponse (q slot : Nat) (r : MemRsp) (d : Dev) : Dev :=
  let n := match r with | .data _ | .poison => 64 | _ => 0
  d.returnCredit q (if 4096 ≤ slot then .completion else if n = 0 then .s2mNdr else .s2mDrs) 1 n

/-- The data bytes of a response. -/
def rspLen : MemRsp → Nat
  | .data _ | .poison => 64
  | _ => 0

/-- The message of a response on its channel. -/
def rspMsg (q slot : Nat) (r : MemRsp) : Msg :=
  { chan := if 4096 ≤ slot then .completion else if rspLen r = 0 then .s2mNdr else .s2mDrs, len := rspLen r, size := rspLen r, tag := slot
    source := q, poison := decide (r = .poison), data := match r with | .data v => v | _ => 0 }

/-- A request's initiator still awaits its response. -/
def Dev.awaits (d : Dev) : Initiator → Bool
  | .mem id => (d.accOf id).isSome
  | .walk s line => d.pool.walks.any fun w => w.slice == s && w.line == line
  | .harbour _ => true

/-- The crossbar input, output and stream on which a response reaches the initiator of its request: a home slice, or the
Harbourmaster. A request of R103, which a quay's message caused, is ended where its response arrives. -/
def Dev.wayTo (d : Dev) (q cls : Nat) (c : Chan) : Initiator → Option (Nat × Nat × Option Nat)
  | .mem id => ((d.accOf id).filter fun a => decide (a.slice < 16)).map fun a => ((d.toSlice (16 + q) a.slice).1, (d.toSlice (16 + q) a.slice).2, none)
  | .walk s _ => some ((d.toSlice (16 + q) s).1, (d.toSlice (16 + q) s).2, none)
  | .harbour _ => some (d.toMgmt q 192 cls c)

/-- A response reaches its initiator (R94, R436). -/
def Dev.endResponse (o : Orig) (r : MemRsp) (d : Dev) : Dev :=
  if d.awaits o.ini then (d.noteDone o).takeResponse o.ini r else d

/-- ORIGINATED_RESPONSE (R94): a response that matches a request frees its tag slot and crosses the core to the initiator, in the
response class of the request's level (R108). -/
def effOriginatedResponse (q slot gen : Nat) (r : MemRsp) (d : Dev) : Dev :=
  match d.origAt q slot gen with
  | some o =>
    let m := rspMsg q slot r
    let d := (d.payloadIn q (rspLen r) {}).dropOrig o
    (match d.wayTo q (4 + o.level) m.chan o.ini with
      | some p => d.enqueue p.1 p.2.1 (4 + o.level) p.2.2 { msg := m, rsp := some (o, r) }
      | none => (d.freeResponse q slot r).endResponse o r).issueWaiting q
  | none => (d.freeResponse q slot r).lateOrUnexpected q slot gen

def execOriginatedResponse (q : Fin 128) (slot gen : Nat) (r : MemRsp) (s : State) : Host.Outcome State Fault Refusal :=
  liveLift (effOriginatedResponse q slot gen r) s

/-- The level of a PBR message in transit (R108): a CXL.mem response has that of the request it answers, if the request came this
way (otherwise its quay's MEM_LEVEL, DESIGN CHOICE, log entry 101). -/
def Dev.transitLevel (d : Dev) (q id : Nat) (m : Msg) : Nat :=
  if m.chan = .s2mNdr ∨ m.chan = .s2mDrs then
    match Tab.get 0 d.net.passed (65536 * id + m.tag) with
    | 0 => d.levelOf q m
    | n + 1 => n
  else d.levelOf q m

/-- The level of a CXL.mem request in transit is kept until its response has passed. -/
def Dev.notePassed (id level : Nat) (m : Msg) (d : Dev) : Dev :=
  match m.chan with
  | .m2sReq | .m2sRwD => d.setNet fun n => { n with passed := Tab.set 0 n.passed (65536 * m.source + m.tag) (level + 1) }
  | .s2mNdr | .s2mDrs => d.setNet fun n => { n with passed := Tab.set 0 n.passed (65536 * id + m.tag) 0 }
  | _ => d

/-- PBR_FLIT_ROUTE (R98 to R100): a PBR flit that arrived on a Fabric quay and is for another device. -/
def effPbrFlitRoute (q id : Nat) (m : Msg) (d : Dev) : Dev :=
  if d.isUp q ∧ d.role q = 3 ∧ id ≠ d.get Obj.fabricId ∧ m.len ≤ 4096 ∧ (isResponse m.chan ∨ (!d.ideStops q ∧ !(d.metered && meteredMsg m))) then
    let level := d.transitLevel q id m
    let i : Item := { msg := { m with dest := id }, pbr := true }
    (d.notePassed id level m).routePbr (arriving q q level d.time i) i
  else d

/-- A core of the Harbourmaster that carries on: neither fenced nor IMPOUNDED. -/
def Dev.freeCore (d : Dev) : Option Nat :=
  (List.range 8).find? fun k => !bitAt (d.get Obj.fencedCores) k && !d.impounded (0x2010 + k)

/-- An enumeration ends with a core's read of the window it assigned, through port 192 (R262, R265, R266): the one memory request of
the Harbourmaster that the spec's commands show (DEDUCED, log entry 122). One that Customs refuses is an error to the firmware
(Table 9.8), and the enumeration is not done. -/
def Dev.probe (q : Nat) (d : Dev) : Dev :=
  match d.mgmtWindows.find? (·.1 == q), d.freeCore with
  | some w, some k =>
    let r := d.internalAccess 192 (0x2010 + k) 1 (w.2.1 * 4096) 1 none
    match r.2 with
    | some id => r.1.closeCheck id
    | none => r.1.enumerate q false
  | some _, none => d.enumerate q false
  | none, _ => d

/-- ENUMERATION_DONE (R183): the memory devices behind the quay become READY. -/
def effEnumerationDone (q : Nat) (d : Dev) : Dev :=
  if d.role q = 2 ∧ d.alive q then (d.enumerate q true).probe q else d

def execEnumerationDone (q : Fin 128) (s : State) : Host.Outcome State Fault Refusal := liveLift (effEnumerationDone q) s

/-! The arbiter's evaluation and the delivery to a slice (R117, R273). -/

/-- An earlier write of the same master and region is still open: a strict request waits (R273). -/
def Dev.strictWaits (d : Dev) (a : Access) : Bool :=
  a.strict && ((d.customs.opened.find? (·.id == a.chk)).map fun o =>
    d.customs.opened.any fun p => p.write && decide (p.id < o.id) && p.master == o.master && p.region == o.region).getD false

/-- A delivered request reaches its slice: a read of a private line, or a clean eviction, is taken at once; a write to a
private line and a request for a Basin line are in the slice's channel until their own commands take them; a strict
request waits there too. -/
def Dev.deliver (s : Nat) (a : Access) (d : Dev) : Dev :=
  if (isBasinKey a.key && a.op != .cleanEvict) || isWrite a.op || d.strictWaits a then
    d.setNet fun n => { n with inbox := n.inbox ++ [{ slice := s, acc := a }] }
  else d.arrive s a

/-- Reads of a slice that waited for strict order and need not wait any longer. -/
def Dev.retryStrict (s : Nat) (d : Dev) : Dev :=
  let l := d.net.inbox.filter fun i => i.slice == s && i.acc.strict && !isBasinKey i.acc.key && !isWrite i.acc.op
  l.foldl (fun d i => if d.strictWaits i.acc then d else (d.takeInbox i.acc).arrive s i.acc) d

/-- What an output delivers: requests to their slice, and responses to the initiators of their requests. -/
def Dev.deliverAll (o : Nat) (l : List Item) (d : Dev) : Dev :=
  let d := (l.filterMap (·.rsp)).foldl (fun d p => d.endResponse p.1 p.2) d
  match sliceOfPort o with
  | none => d
  | some s => (l.filterMap (·.acc)).foldl (fun d a => d.deliver s a) (d.retryStrict s)

/-- HANDSHAKE_EVALUATION of an output. -/
def effHandshakeEvaluation (o : Nat) (d : Dev) : Dev := (d.evaluate o).1.deliverAll o (d.evaluate o).2

def execHandshakeEvaluation (out : Fin 196) (s : State) : Host.Outcome State Fault Refusal :=
  liveLift (effHandshakeEvaluation out) s

end Sys2Proof.Machine
end

