-- ==== Sys2Proof/Machine/Slots.lean ====
section
/-!
DEFINITION. Slot power and backplane pre-charge (R331 to R338).
-/

namespace Sys2Proof.Machine

open Sys2Proof

/-! A slot channel: its record and its flags (Table 11.6, SLOT_FLAGS). -/

def Dev.slotCh (d : Dev) (s : Nat) : SlotCh := Tab.get {} d.tide.slots s

def Dev.setSlot (s : Nat) (f : SlotCh → SlotCh) (d : Dev) : Dev :=
  d.setTide fun t => { t with slots := Tab.set {} t.slots s (f (d.slotCh s)) }

abbrev Flag.present : Nat := 0
abbrev Flag.seated : Nat := 1
abbrev Flag.good : Nat := 2
abbrev Flag.warn : Nat := 3
abbrev Flag.perst : Nat := 4
abbrev Flag.limit : Nat := 5
abbrev Flag.timer : Nat := 6

def Dev.flag (d : Dev) (s i : Nat) : Bool := bitAt (d.get (Obj.slotFlags s)) i

def Dev.setFlag (s i : Nat) (b : Bool) (d : Dev) : Dev := d.put (Obj.slotFlags s) (setBit (d.get (Obj.slotFlags s)) i b)

/-- SLOT_STATE: 0 EMPTY, 1 SEATING, 2 READY_OFF, 3 DECIDING, 4 WAIT_SUPPLY, 5 RAMPING, 6 POWERED, 7 TRIPPED, 8 RETRY_WAIT,
9 LATCHED_OFF. -/
def Dev.slotState (d : Dev) (s : Nat) : Nat := d.get (Obj.slotState s)

/-- The gate is on: RAMPING or POWERED. -/
def Dev.gateOn (d : Dev) (s : Nat) : Bool := d.slotState s == 5 || d.slotState s == 6

/-- SLOT_PERST_N is asserted or deasserted. -/
def Dev.slotPerst (s : Nat) (on : Bool) (d : Dev) : Dev := (d.setFlag s Flag.perst on).send (.pin (Pin.perst s) (b2n !on))

/-- SLOT_PWRWARN_N is asserted or deasserted. -/
def Dev.slotWarn (s : Nat) (on : Bool) (d : Dev) : Dev := (d.setFlag s Flag.warn on).send (.pin (Pin.warn s) (b2n !on))

/-- The cool-down of 500 ms starts (R336). -/
def Dev.cool (s : Nat) (d : Dev) : Dev :=
  d.setSlot s fun c => { c with cooling := true, coolEnd := d.time + 500000000 }

/-- The gate turns off and the slot takes a state in which PERST is asserted; a gate that was on and has spent time in
current limit since starts the cool-down (R336). -/
def Dev.gateOff (s st : Nat) (d : Dev) : Dev :=
  let d := if d.gateOn s ∧ (d.slotCh s).limited then d.cool s else d
  let d := if d.gateOn s then d.send (.pin (Pin.gate s) 0) else d
  let d := ((d.setFlag s Flag.good false).setFlag s Flag.limit false).setFlag s Flag.timer false
  ((d.put (Obj.slotState s) st).slotPerst s true).setSlot s fun c => { c with limited := false, perstDue := false }

/-- The quay of a slot; none when it has none. -/
def Dev.quayOfSlot (d : Dev) (s : Nat) : Option Nat :=
  if d.slotQuayNow s = 0xFF then none else some (d.slotQuayNow s)

/-- The quay of a slot whose power goes is HELD, as in R85. -/
def Dev.holdSlotQuay (s : Nat) (d : Dev) : Dev :=
  match d.quayOfSlot s with
  | some q => if d.isUp q then (d.holdLink q).setQuay q fun k => { k with dlDown := true } else d
  | none => d

/-- The same while the recovery loader runs or the ROM holds the device: the channels run, and nothing reports or reaches a quay. -/
def Dev.quietly (f : Dev → Dev) (d : Dev) : Dev := { d with man := (f d).man, tide := (f d).tide, sent := (f d).sent }

/-- A change of a slot or backplane channel, which runs in every state but Off (R337). -/
def slotLift (f : Dev → Dev) (s : State) : Host.Outcome State Fault Refusal :=
  lift (fun d => if d.powered then f d else if d.boot = .off then d else d.quietly f) s

/-- SLOT_QUAY and SLOT_AUTO_ON are taken as a ramp starts, or the device (R339). -/
def Dev.takeSlot (s : Nat) (d : Dev) : Dev :=
  d.setSlot s fun c => { c with quay := d.get (Obj.slotQuay s), auto := d.get (Obj.slotAutoOn s) }

/-! Presence and seating. -/

/-- SLOT_PRESENCE: EMPTY to SEATING; the quay that presence loss took down may train again (R89). -/
def effSlotPresence (s : Nat) (d : Dev) : Dev :=
  if d.slotState s = 0 then
    let d := ((d.put (Obj.slotState s) 1).setFlag s Flag.present true).setFlag s Flag.perst true
    let d := d.setSlot s fun c => { c with steady := d.flag s Flag.seated }
    match d.quayOfSlot s with
    | some q => (d.setQuay q fun k => { k with downBy := if k.downBy = .presence then .none else k.downBy }).tryTrain q
    | none => d
  else d

def execSlotPresence (s : Fin 48) (st : State) : Host.Outcome State Fault Refusal := slotLift (effSlotPresence s) st

/-- SLOT_PRESENCE_LOST: to EMPTY; a pending decision closes, retries are cancelled, and the quay is declared down. -/
def effSlotPresenceLost (s : Nat) (d : Dev) : Dev :=
  if d.slotState s = 0 then d
  else
    let d := ((d.gateOff s 0).setFlag s Flag.present false).setFlag s Flag.warn false
    let d := d.setSlot s fun c => { c with retries := 0, steady := false, rate := none }
    let d := { d with modes := { d.modes with decisions := d.modes.decisions.filter fun x => !(x.fn == 6 && x.subject == s) } }
    match d.quayOfSlot s with
    | some q => if d.role q = 2 then d.downByDevice q .presence else d
    | none => d

def execSlotPresenceLost (s : Fin 48) (st : State) : Host.Outcome State Fault Refusal := slotLift (effSlotPresenceLost s) st

/-- SLOT_SEAT_EDGE: an edge restarts the debounce; the short pins breaking on a powered slot removes its power. -/
def effSlotSeatEdge (s : Nat) (low : Bool) (d : Dev) : Dev :=
  let d := (d.setFlag s Flag.seated low).setSlot s fun c => { c with steady := low }
  if d.gateOn s ∧ !low then (d.slotWarn s true).gateOff s 1 else d

def execSlotSeatEdge (s : Fin 48) (low : Bool) (st : State) : Host.Outcome State Fault Refusal :=
  slotLift (effSlotSeatEdge s low) st

/-- Function 6 holds the slot, or its expiry default applies at once when it can hold no more (R42): READY_OFF. -/
def Dev.decideSlot (s : Nat) (d : Dev) : Dev :=
  if d.canHold 6 then (d.put (Obj.slotState s) 3).hold [] (sourceId 6 s) 6 s (d.get (Obj.rampRate s))
  else (d.put (Obj.slotState s) 2).overflow (sourceId 6 s) 6 s

/-- SEAT_DEBOUNCE_END (R332): the pins have been low and steady, and no cool-down runs. -/
def effSeatDebounceEnd (s : Nat) (d : Dev) : Dev :=
  if d.slotState s = 1 ∧ (d.slotCh s).steady ∧ !(d.slotCh s).cooling then
    if (d.slotCh s).auto = 0 then d.put (Obj.slotState s) 2
    else if d.assisted 6 then d.decideSlot s
    else d.put (Obj.slotState s) 4
  else d

def execSeatDebounceEnd (s : Fin 48) (st : State) : Host.Outcome State Fault Refusal := slotLift (effSeatDebounceEnd s) st

/-- A verdict of function 6 (R333), or its expiry: ramp, with a rate of its own if one is given, or READY_OFF. -/
def Dev.slotVerdict (s : Nat) (ramp : Bool) (rate : Option Nat) (d : Dev) : Dev :=
  if d.slotState s = 3 then
    if ramp then (d.put (Obj.slotState s) 4).setSlot s fun c => { c with rate := rate } else d.put (Obj.slotState s) 2
  else d

/-! Power on and off. -/

/-- SLOT_POWER off: PERST asserted, then the gate off; the quay is HELD. -/
def Dev.slotOff (s st : Nat) (d : Dev) : Dev := if d.gateOn s then ((d.slotPerst s true).gateOff s st).holdSlotQuay s else d

/-- SLOT_POWER: on moves READY_OFF to WAIT_SUPPLY; off acts on a slot whose gate is on. -/
def actSlotPower (s : Nat) : Act :=
  { check := fun _ v _ => if v ≤ 1 then Status.success else Status.badValue
    effect := fun _ v _ d =>
      if v = 1 then (if d.slotState s = 2 then d.put (Obj.slotState s) 4 else d) else d.slotOff s 2 }

def execSlotPowerOn (c : Call) (s : Fin 48) (st : State) : Host.Outcome State Fault Refusal :=
  writeRow (actSlotPower s) c (Obj.slotPower s) 1 st

def execSlotPowerOff (c : Call) (s : Fin 48) (st : State) : Host.Outcome State Fault Refusal :=
  writeRow (actSlotPower s) c (Obj.slotPower s) 0 st

/-- The supply of a slot is ON (R338): an external one always. -/
def Dev.supplyOn (d : Dev) (s : Nat) : Bool :=
  let p := d.get (Obj.slotSupply s)
  p == 0 || d.get (Obj.bpState (p - 1)) == 2

/-- SLOT_RAMP_START: the ramp takes its settings; the rate of a verdict is for this ramp only (R333, R339). -/
def effSlotRampStart (s : Nat) (d : Dev) : Dev :=
  if d.slotState s = 4 ∧ d.supplyOn s then
    let rate := (d.slotCh s).rate.getD (d.get (Obj.rampRate s))
    let d := (d.put (Obj.slotState s) 5).setSlot s fun c => { c with rate := none, limited := false, supply := d.get (Obj.slotSupply s) }
    let d := d.takeSlot s
    ((if d.flag s Flag.warn then d.slotWarn s false else d).setFlag s Flag.perst true).send (.pin (Pin.gate s) rate)
  else d

def execSlotRampStart (s : Fin 48) (st : State) : Host.Outcome State Fault Refusal := slotLift (effSlotRampStart s) st

/-- SLOT_POWER_GOOD (R335): a ramp in whose settle no fault timer runs gives power-good, and PERST_DELAY starts once the core
rails are up; in POWERED the output is back in the window, and a cleared timer's warning ends. -/
def effSlotPowerGood (s : Nat) (d : Dev) : Dev :=
  if d.flag s Flag.timer then d
  else if d.slotState s = 5 then
    ((d.put (Obj.slotState s) 6).setFlag s Flag.good true).setSlot s fun c => { c with perstDue := d.coreOn }
  else if d.slotState s = 6 ∧ d.flag s Flag.warn then d.slotWarn s false
  else d

def execSlotPowerGood (s : Fin 48) (st : State) : Host.Outcome State Fault Refusal := slotLift (effSlotPowerGood s) st

/-- PERST_DELAY_EXPIRY (R335): SLOT_PERST_N is deasserted. -/
def effPerstDelayExpiry (s : Nat) (d : Dev) : Dev :=
  if d.slotState s = 6 ∧ (d.slotCh s).perstDue ∧ d.coreOn then
    (d.slotPerst s false).setSlot s fun c => { c with perstDue := false }
  else d

def execPerstDelayExpiry (s : Fin 48) (st : State) : Host.Outcome State Fault Refusal := slotLift (effPerstDelayExpiry s) st

/-! Current limit and trips (R334, R335). -/

/-- SLOT_CURRENT_LIMIT: the fault timer runs; while power-good is given the warning is asserted at once. -/
def effSlotCurrentLimit (s : Nat) (d : Dev) : Dev :=
  if d.gateOn s then
    let d := ((d.setFlag s Flag.limit true).setFlag s Flag.timer true).setSlot s fun c => { c with limited := true }
    if d.flag s Flag.good then d.slotWarn s true else d
  else d

def execSlotCurrentLimit (s : Fin 48) (st : State) : Host.Outcome State Fault Refusal := slotLift (effSlotCurrentLimit s) st

/-- SLOT_CURRENT_RECOVER: below the limit for 100 µs, the timer stops and clears. -/
def effSlotCurrentRecover (s : Nat) (d : Dev) : Dev := (d.setFlag s Flag.limit false).setFlag s Flag.timer false

def execSlotCurrentRecover (s : Fin 48) (st : State) : Host.Outcome State Fault Refusal := slotLift (effSlotCurrentRecover s) st

/-- A trip (R334): the gate turns off, PERST is asserted, the trip is counted, and Type 12 takes the quay down. RETRY_LIMIT
is taken at the trip (R339). -/
def Dev.trip (s : Nat) (d : Dev) : Dev :=
  let d := (d.setSlot s fun c => { c with limited := true, limit := d.get (Obj.retryLimit s) }).gateOff s 7
  ((d.count (Obj.tripCount s) 1).put (Obj.lastTripTime s) d.time).err
    { typ := 12, inst := s, unit := d.slotQuayNow s }

/-- FAULT_TIMER_EXPIRY. -/
def effFaultTimerExpiry (s : Nat) (d : Dev) : Dev := if d.gateOn s ∧ d.flag s Flag.timer then d.trip s else d

def execFaultTimerExpiry (s : Fin 48) (st : State) : Host.Outcome State Fault Refusal := slotLift (effFaultTimerExpiry s) st

/-- SLOT_HARD_TRIP: a current above twice the limit. -/
def effSlotHardTrip (s : Nat) (d : Dev) : Dev := if d.gateOn s then d.trip s else d

def execSlotHardTrip (s : Fin 48) (st : State) : Host.Outcome State Fault Refusal := slotLift (effSlotHardTrip s) st

/-- SLOT_COOLDOWN_END: a tripped slot goes to RETRY_WAIT, or to LATCHED_OFF with Type 13 when no retry remains. -/
def effSlotCooldownEnd (s : Nat) (d : Dev) : Dev :=
  if (d.slotCh s).cooling then
    let c := d.slotCh s
    let d := d.setSlot s fun c => { c with cooling := false }
    if d.slotState s = 7 then
      if c.limit = 255 ∨ c.retries < c.limit then d.put (Obj.slotState s) 8
      else (d.put (Obj.slotState s) 9).err { typ := 13, inst := s, unit := s }
    else d
  else d

def execSlotCooldownEnd (s : Fin 48) (st : State) : Host.Outcome State Fault Refusal := slotLift (effSlotCooldownEnd s) st

/-- RETRY_DELAY_EXPIRY: the slot retries. -/
def effRetryDelayExpiry (s : Nat) (d : Dev) : Dev :=
  if d.slotState s = 8 then (d.put (Obj.slotState s) 4).setSlot s fun c => { c with retries := c.retries + 1 } else d

def execRetryDelayExpiry (s : Fin 48) (st : State) : Host.Outcome State Fault Refusal := slotLift (effRetryDelayExpiry s) st

/-- SLOT_RESET_FAULT: LATCHED_OFF to READY_OFF; in any other state it changes nothing. -/
def actSlotResetFault (s : Nat) : Act :=
  { effect := fun _ _ _ d =>
      if d.slotState s = 9 then (d.put (Obj.slotState s) 2).setSlot s fun c => { c with retries := 0 } else d }

def execSlotResetFault (c : Call) (s : Fin 48) (v : Nat) (st : State) : Host.Outcome State Fault Refusal :=
  writeRow (actSlotResetFault s) c (Obj.slotResetFault s) v st

/-- SLOT_INPUT_LOW (R337): the slot's input is below PWRWARN_LEVEL. -/
def effSlotInputLow (s : Nat) (d : Dev) : Dev := d.slotWarn s true

def execSlotInputLow (s : Fin 48) (st : State) : Host.Outcome State Fault Refusal := slotLift (effSlotInputLow s) st

/-! Backplane channels (R338). BP_STATE: 0 OFF, 1 PRECHARGE, 2 ON, 3 COOLDOWN, 4 FAULT. -/

/-- A channel takes a state and drives its paths; when it leaves ON, the slots it supplies are turned off and wait for their
supply. -/
def Dev.setBp (b st : Nat) (d : Dev) : Dev :=
  let was := d.get (Obj.bpState b)
  let d := (d.put (Obj.bpState b) st).send (.pin (Pin.bp b) (if st ≤ 2 then st else 0))
  if was = 2 ∧ st ≠ 2 then
    d.forEach ((List.range 48).filter fun s => d.gateOn s && (d.slotCh s).supply == b + 1) (fun s d => d.slotOff s 4)
  else d

/-- BP_ENABLE_WRITE: 1 starts pre-charge; 0 opens both paths at its commit. -/
def actBpEnable (b : Nat) : Act :=
  { effect := fun _ v _ d =>
      let d := d.put (Obj.bpEnable b) v
      if v = 0 then d.setBp b 0 else if d.get (Obj.bpState b) = 0 then d.setBp b 1 else d }

def execBpEnableWrite (c : Call) (b : Fin 2) (v : Nat) (s : State) : Host.Outcome State Fault Refusal :=
  writeRow (actBpEnable b) c (Obj.bpEnable b) v s

/-- BP_PRECHARGE_DONE: the bypass closes, and the channel reads ON. -/
def effBpPrechargeDone (b : Nat) (d : Dev) : Dev := if d.get (Obj.bpState b) = 1 then d.setBp b 2 else d

def execBpPrechargeDone (b : Fin 2) (s : State) : Host.Outcome State Fault Refusal := slotLift (effBpPrechargeDone b) s

/-- BP_PRECHARGE_EXPIRY: the path opens, and COOLDOWN starts. -/
def effBpPrechargeExpiry (b : Nat) (d : Dev) : Dev := if d.get (Obj.bpState b) = 1 then d.setBp b 3 else d

def execBpPrechargeExpiry (b : Fin 2) (s : State) : Host.Outcome State Fault Refusal := slotLift (effBpPrechargeExpiry b) s

/-- BP_COOLDOWN_END: FAULT, with Type 14. -/
def effBpCooldownEnd (b : Nat) (d : Dev) : Dev :=
  if d.get (Obj.bpState b) = 3 then (d.setBp b 4).err { typ := 14, inst := b, unit := b } else d

def execBpCooldownEnd (b : Fin 2) (s : State) : Host.Outcome State Fault Refusal := slotLift (effBpCooldownEnd b) s

/-- BP_OVERCURRENT: the bypass opens, and the channel reads FAULT. -/
def effBpOvercurrent (b : Nat) (d : Dev) : Dev :=
  if d.get (Obj.bpState b) = 2 then
    ((d.setBp b 4).count (Obj.bpTripCount b) 1).err { typ := 14, inst := b, unit := b }
  else d

def execBpOvercurrent (b : Fin 2) (s : State) : Host.Outcome State Fault Refusal := slotLift (effBpOvercurrent b) s

/-- BP_RESET_FAULT restarts PRECHARGE from FAULT. -/
def actBpResetFault (b : Nat) : Act := { effect := fun _ _ _ d => if d.get (Obj.bpState b) = 4 then d.setBp b 1 else d }

def execBpResetFault (c : Call) (b : Fin 2) (v : Nat) (s : State) : Host.Outcome State Fault Refusal :=
  writeRow (actBpResetFault b) c (Obj.bpResetFault b) v s

end Sys2Proof.Machine
end

