-- ==== Sys2Proof/Machine/Rehash.lean ====
section
/-!
DEFINITION. Slots of HOME_MAP and ENGINE_MAP change holder (R138, R139, R226), and what a slice or engine that parks,
returns or is lost takes with it (R32, R257, R395 to R398).
-/

namespace Sys2Proof.Machine

open Sys2Proof

/-! The maps (R138). -/

/-- The 256 bytes of a map. -/
def mapList (v : Nat) : List Nat := (List.range 256).map (byteAt v)

/-- How many slots a unit holds. -/
def slotsHeld (l : List Nat) (u : Nat) : Nat := (l.filter (· == u)).length

/-- The unit that holds the fewest slots; ties go to the lowest number. -/
def fewestSlots (l us : List Nat) : Option Nat :=
  us.foldl (fun best u => match best with
    | none => some u
    | some b => if slotsHeld l u < slotsHeld l b then some u else some b) none

/-- The slots of a unit are given away in increasing order, each to the unit that holds the fewest. -/
def giveSlots (leaver : Nat) (us : List Nat) : List Nat → List Nat → List Nat
  | l, [] => l
  | l, i :: rest =>
    if l.getD i 0 = leaver then
      match fewestSlots l us with
      | some u => giveSlots leaver us (l.set i u) rest
      | none => l
    else giveSlots leaver us l rest

/-- A map after a unit has left: `us` are the units that stay. -/
def mapWithout (v leaver : Nat) (us : List Nat) : Nat := packBytes (giveSlots leaver us (mapList v) (List.range 256))

/-- A unit takes back every slot i with i mod 16 equal to its number. -/
def mapBack (v u : Nat) : Nat := packBytes ((mapList v).zipIdx.map fun p => if p.2 % 16 = u then u else p.1)

/-- Slices that are ACTIVE, but for one. -/
def Dev.activeSlices (d : Dev) (but : Nat) : List Nat :=
  (List.range 16).filter fun s => d.get (Obj.sliceState s) == 0 && s != but

/-- Engines that are ACTIVE, but for one. -/
def Dev.activeEngines (d : Dev) (but : Nat) : List Nat :=
  (List.range 16).filter fun e => d.get (Obj.engineState e) == 0 && e != but

/-! Requests follow their line to its new home. -/

/-- The slice a queued request must go to: the home of a private line now. -/
def Dev.homeNow (d : Dev) (s : Nat) (a : Access) : Nat := if isBasinKey a.key then s else d.homeOf a.key

/-- A core flit toward a slice, with its requests sent to their homes: those of one home stay packed together (R10). The space it
holds is not credited twice (R112). -/
def Dev.rehomed (d : Dev) (f : CoreFlit) : List CoreFlit :=
  match sliceOfPort f.out with
  | none => [f]
  | some s =>
    let home (i : Item) : Nat := (i.acc.map (d.homeNow s)).getD s
    let part (h : Nat) : CoreFlit := { f with out := 128 + 4 * h + f.inp % 4, items := f.items.filter (home · == h) }
    match (f.items.map home).eraseDups with
    | [] => [f]
    | h :: rest =>
      if isResponse f.ch then [f]
      else part h :: rest.map fun h => { part h with
        reserved := 1, shared := 0, items := (part h).items.map fun i => { i with made := i.made || decide (f.reserved = 0) } }

/-- Items whose space has been credited already. -/
def credited (l : List Item) : List Item := l.map fun i => { i with made := true }

/-- A waiting unit of header-only messages takes those of another behind it (R10). It keeps one cell, a reserved one where either holds
one, and no space is credited twice (R112). -/
def CoreFlit.merge (f g : CoreFlit) : CoreFlit :=
  if f.shared ≠ 0 ∧ g.shared ≠ 0 then { f with items := f.items ++ g.items }
  else if f.shared = 0 then { f with items := f.items ++ if g.shared = 0 then g.items else credited g.items }
  else { f with reserved := g.reserved, shared := 0, items := credited f.items ++ g.items }

/-- Two units toward a slice are of one FIFO and fit one unit. -/
def CoreFlit.joins (f g : CoreFlit) : Bool :=
  packable f && packable g && f.stream.isNone && g.stream.isNone && decide (f.items.length + g.items.length ≤ 4)

/-- The unit that comes last of another's FIFO. -/
def lastOfFifo (l : List CoreFlit) (g : CoreFlit) : Option CoreFlit :=
  (l.filter fun f => f.inp == g.inp && f.out == g.out && f.cls == g.cls && f.ch == g.ch).getLast?

/-- Units toward slices are packed again, in order. -/
def repacked (l : List CoreFlit) : List CoreFlit :=
  l.foldl (fun acc g => match (if (sliceOfPort g.out).isSome then lastOfFifo acc g else none).filter (·.joins g) with
    | some f => replaceFlit f (f.merge g) acc
    | none => acc ++ [g]) []

/-- Requests in VOQs and slice channels go to the homes of their lines. -/
def Dev.rehome (d : Dev) : Dev :=
  d.setNet fun n => { n with
    voq := repacked (n.voq.flatMap d.rehomed)
    backlog := repacked (n.backlog.flatMap d.rehomed)
    inbox := n.inbox.map fun i => { i with slice := d.homeNow i.slice i.acc } }

/-! Lines that move (R139). -/

/-- A slice is busy with a line of the set `p`: open or waiting requests, walks, lines in M or in the victim buffer, and
write-backs. -/
def Dev.busyFor (d : Dev) (p : Nat → Bool) : Bool :=
  (List.range 16).any (fun s =>
    (d.slice s).txs.any (fun t => p t.key) || (d.slice s).conflict.any (fun c => p c.1) ||
    (d.slice s).alloc.any (fun c => p c.2.acc.key) || (d.slice s).door.any (fun a => p a.key) ||
    (d.slice s).victims.any (fun l => p l.key) ||
    (d.slice s).lines.any (fun l => l.st == LineState.m && p l.key)) ||
  d.pool.walks.any (fun w => w.waiting.any fun a => p a.key) || d.pool.walkQueue.any (fun w => p w.2.key) ||
  d.pool.accesses.any fun a => kindOf a == 1 && a.write && p a.key

/-- Every line in M of the set is written back by its slice, unless that is fenced. -/
def Dev.backLines (p : Nat → Bool) (d : Dev) : Dev :=
  let l := d.ableSlices.flatMap fun s =>
    ((d.slice s).lines.filter fun l => l.st == LineState.m && p l.key && !d.cleaning s l.key && !d.writing s l.key).map fun l => (s, l)
  l.foldl (fun d p => d.writeBackLine p) d

/-- Every line of the set is invalidated. -/
def Dev.dropKeys (p : Nat → Bool) (d : Dev) : Dev :=
  (d.forEach (List.range 16) fun s d => d.setSlice s fun x => { x with lines := x.lines.filter fun l => !p l.key }).setPool
    fun x => { x with prefetched := x.prefetched.filter fun y => !p y.2 }

/-- A private line whose home is slice s. -/
def Dev.atHome (d : Dev) (s k : Nat) : Bool := !isBasinKey k && d.homeOf k == s

/-- A private line whose slot slice s takes back. -/
def Dev.comingHome (d : Dev) (s k : Nat) : Bool := !isBasinKey k && foldKey k % 16 == s && d.homeOf k != s

/-! Parking and its end (R32, R257). -/

/-- Something is open in a slice: a transaction, or a request that waits in it. -/
def Slice.working (x : Slice) : Bool :=
  decide (x.txs ≠ []) || decide (x.conflict ≠ []) || decide (x.alloc ≠ []) || decide (x.door ≠ [])

/-- The slice's lines are all written back, and it gives its slots away, with those of its engine. The accesses counted in its
translation cache are folded (R219); the directory entries of Basins that are not UP stay for their reset walk (R171). -/
def Dev.parkSlice (s : Nat) (d : Dev) : Dev :=
  let d := ((d.tlb s).foldl (fun d t => d.foldCount t) d).setTlb s fun _ => []
  let d := d.setSlice s fun x => { dir := x.dir, lru := x.lru }
  let d := d.putAll [(Obj.sliceState s, 2), (Obj.homeMap, mapWithout (d.get Obj.homeMap) s (d.activeSlices s))]
  let d := if d.get (Obj.engineState s) = 3 then d else
    (((d.dropCaches s).putAll [(Obj.engineState s, 2), (Obj.engineMap, mapWithout (d.get Obj.engineMap) s (d.activeEngines s))]).moveWork
      s)
  d.rehome.admitHeld

/-- The slice is ACTIVE again and takes back its slots; so does its engine, unless that is fenced. -/
def Dev.returnSlice (s : Nat) (d : Dev) : Dev :=
  let d := d.dropKeys (d.comingHome s)
  let d := d.putAll [(Obj.sliceState s, 0), (Obj.homeMap, mapBack (d.get Obj.homeMap) s)]
  let d := if d.get (Obj.engineState s) = 3 then d
    else d.putAll [(Obj.engineState s, 0), (Obj.engineMap, mapBack (d.get Obj.engineMap) s)]
  d.rehome.admitHeld

/-! Fences (R258, R395 to R399). -/

/-- Running Harbourmaster cores: neither fenced nor IMPOUNDED. -/
def Dev.runningCores (d : Dev) : Nat :=
  ((List.range 8).filter fun k => !bitAt (d.get Obj.fencedCores) k && !d.impounded (0x2010 + k)).length

/-- Some slice, or engine, other than one is ACTIVE or PARKED. -/
def Dev.otherSlice (d : Dev) (s : Nat) : Bool :=
  (List.range 16).any fun i => i != s && (d.get (Obj.sliceState i) == 0 || d.get (Obj.sliceState i) == 2)

def Dev.otherEngine (d : Dev) (e : Nat) : Bool :=
  (List.range 16).any fun i => i != e && (d.get (Obj.engineState i) == 0 || d.get (Obj.engineState i) == 2)

/-- A unit that can be fenced. -/
inductive FenceUnit where
  | slice (s : Nat) | engine (e : Nat) | core (k : Nat)
  deriving DecidableEq, Repr

/-- The unit reads fenced already, or is absent. -/
def Dev.isFenced (d : Dev) : FenceUnit → Bool
  | .slice s => d.sliceFenced s
  | .engine e => d.engineFenced e
  | .core k => bitAt (d.get Obj.fencedCores) k

/-- R399 allows the fence. -/
def Dev.mayFence (d : Dev) : FenceUnit → Bool
  | .slice s => d.otherSlice s && (d.engineFenced s || d.otherEngine s)
  | .engine e => d.otherEngine e
  | .core k => decide (2 ≤ d.runningCores - b2n (!d.impounded (0x2010 + k)))

/-- The lowest parked engine takes over when no other is ACTIVE. -/
def Dev.wakeEngine (d : Dev) : Dev :=
  if d.activeEngines 16 ≠ [] then d
  else match (List.range 16).find? (fun e => d.get (Obj.engineState e) == 2) with
    | some e => d.putAll [(Obj.engineState e, 0), (Obj.engineMap, mapBack (d.get Obj.engineMap) e)]
    | none => d

/-- An engine is fenced (R258, R398): its pieces are lost, its slots given away, its work moved. -/
def Dev.fenceEngine (e : Nat) (d : Dev) : Dev :=
  if d.engineFenced e then d
  else
    let d := d.loseEngine e
    let d := (d.putAll [(Obj.engineState e, 3), (Obj.fencedEngines, setBit (d.get Obj.fencedEngines) e true)]).wakeEngine
    let d := d.put Obj.engineMap (mapWithout (d.get Obj.engineMap) e (d.activeEngines e))
    (d.moveWork e).settleAll

/-- The lowest parked slice becomes ACTIVE when no other is. -/
def Dev.wakeSlice (d : Dev) : Dev :=
  if d.activeSlices 16 ≠ [] then d
  else match (List.range 16).find? (fun s => d.get (Obj.sliceState s) == 2) with
    | some s => d.returnSlice s
    | none => d

/-- Requests for Basin lines queued toward a slice are answered at ingress (Table 14.6 step 2). -/
def Dev.answerQueued (s : Nat) (d : Dev) : Dev :=
  let basinReq (i : Item) : Bool := (i.acc.map fun a => isBasinKey a.key).getD false
  let hit (f : CoreFlit) : Bool := sliceOfPort f.out == some s && !isResponse f.ch
  let gone := ((d.net.voq ++ d.net.backlog).filter hit).flatMap fun f =>
    (f.items.filter basinReq).filterMap fun i => i.acc.map fun a => (f, i, a)
  let without (l : List CoreFlit) : List CoreFlit :=
    (l.map fun f => if hit f then { f with items := f.items.filter (!basinReq ·) } else f).filter (·.items ≠ [])
  let d := d.setNet fun n => { n with voq := without n.voq, backlog := without n.backlog }
  let d := gone.foldl (fun d x => (((d.creditItem x.1 x.2.1).refuseAccess (16 + x.2.2.quay) x.2.2).rejectWrite x.2.2)) d
  d.forEach (d.net.backlog.map (·.inp)).eraseDups Dev.landWaiting

/-- The dirty mirror of a slice (R397): its lines in M and in its victim buffer, with their writers. -/
def Slice.mirror (x : Slice) : List (Nat × Nat) :=
  ((x.lines.filter fun l => l.st == LineState.m) ++ x.victims).map fun l => (l.key, l.writer)

/-- A snoop to a slice that is fenced is answered as by a slice without a copy (R22): a directed one goes on to the slices of the
home set (R151). -/
def Dev.snoopsLost (s : Nat) (d : Dev) : Dev :=
  let lost := d.coh.snoops.filter fun r => r.target == s && !d.sliceFenced r.home
  let one (d : Dev) (r : RingSnoop) : Dev :=
    let rest := if r.kind = .directed then d.peersOf r.home r.key else []
    ((d.ringSend r.home r.key .read rest).setTx r.home r.key fun t => { t with ring := t.ring.erase s ++ rest }).pump r.home
  lost.foldl one (d.setCoh fun c => { c with snoops := c.snoops.filter fun r => r.target != s })

/-- Steps 1 and 2 of Table 14.6. A parked slice has nothing to lose. -/
def Dev.fenceSlice (s : Nat) (d : Dev) : Dev :=
  if d.sliceFenced s then d
  else
    let parked := d.get (Obj.sliceState s) == 2
    let mirror := (d.slice s).mirror
    let d := d.fenceEngine s
    let d := d.putAll [(Obj.sliceState s, 4), (Obj.fencedSlices, setBit (d.get Obj.fencedSlices) s true)]
    let d := d.setModes fun m => { m with unpark := m.unpark.filter (· != s), lullParked := m.lullParked.filter (· != s) }
    let d := d.forEach ((List.range 64).filter fun b => d.basinState b == 1 && (d.homeSet b).contains s)
      (fun b d => d.basinDown b (0x3000 + s))
    let d := d.forEach ((List.range 64).filter fun b => (d.basin b).enabling && (d.nextSet b).contains s)
      (fun b d => d.setBasin b fun x => { x with enabling := false })
    let d := (d.answerQueued s).snoopsLost s
    if parked then d.wakeSlice.nextUnpark
    else ((d.setFaults fun f => { f with fencing := f.fencing ++ [{ slice := s, mirror := mirror, time := d.time }] }).wakeSlice).nextUnpark

/-- A request open to a fenced slice ends with the answer of Table 14.5; a host's write is reported to its writer slot. A copy read
of a migration is not answered: its bale waits for the rehash (R218). -/
def Dev.synthAnswer (a : Access) (d : Dev) : Dev :=
  if a.copyOf.isSome then d
  else
  let d := ((d.count Obj.synthResponses 1).pieceLate a).pieceFails (if isWrite a.op then 8 else 0) 0 a |>.refuseAccess (16 + a.quay) a
  if isWrite a.op ∧ !a.internal then
    let wt := !isBasinKey a.key && (d.policyOf a == 0)
    d.reportFail (if isBasinKey a.key then 3 else if wt then 1 else 2) 1 a.host 0xFF a.berth a.hpa 0
  else d

/-- The requests that a slice holds and that have had no response. -/
def Slice.unanswered (x : Slice) (s : Nat) : List Access :=
  (((x.txs.filter fun t => !t.answered s).filterMap Tx.req) ++ x.conflict.map (·.2) ++ x.alloc.map (·.2)).map (·.acc) ++ x.door

/-- The write that an access of a slice carries straight to memory for a request (R158, R172). -/
def throughOf (s : Nat) (m : MemAcc) : Option Access :=
  match m.goal with
  | .cross x | .flushWrite x => if m.slice = s ∧ (!x.internal ∨ x.piece.isSome) then some x else none
  | _ => none

/-- The requests that a slice holds or carries to memory, or that the crossbar has delivered to it. -/
def Dev.openTo (d : Dev) (s : Nat) : List Access :=
  ((d.slice s).unanswered s) ++ ((d.net.inbox.filter (·.slice == s)).map (·.acc)) ++
    ((d.pool.walks.filter (·.slice == s)).flatMap (·.waiting)) ++ ((d.pool.walkQueue.filter (·.1 == s)).map (·.2)) ++
    d.pool.accesses.filterMap (throughOf s)

/-- Everything the slice held is gone; its open memory accesses have nobody to answer, and bales wait no more for copy reads in
it. -/
def Dev.loseSlice (s : Nat) (d : Dev) : Dev :=
  let gone := (d.pool.accesses.filter (·.slice == s)).map (·.id)
  let reads := (d.openTo s).filterMap fun a => a.copyOf.map fun g => (g, a.key)
  let d := (d.setSlice s fun _ => {}).setTlb s fun _ => []
  let d := d.setNet fun n => { n with inbox := n.inbox.filter (·.slice != s) }
  let d := d.setCoh fun c => { c with snoops := c.snoops.filter (·.home != s), answers := c.answers.filter (·.home != s) }
  let d := d.setPool fun p => { p with
    walks := p.walks.filter (·.slice != s), walkQueue := p.walkQueue.filter (·.1 != s)
    accesses := p.accesses.filter (·.slice != s), hints := p.hints.filter (·.1 != s)
    prefetched := p.prefetched.filter (·.1 != s)
    migs := p.migs.map fun g => { g with waits := g.waits.filter fun k => !reads.contains (g.slot, k) }
    fences := p.fences.map fun f => { f with lines := f.lines.filter (·.1 != s) } }
  (gone.foldl (fun d id => d.flushed id) d).closeStaleVictims

/-- Step 4: each line of the mirror is written poisoned by its new home, unless its page is no longer mapped. -/
def Dev.poisonMirror (m : List (Nat × Nat)) (d : Dev) : Dev :=
  m.foldl (fun d p => d.poisonWrite (d.homeOf p.1) p.1 0) d

/-- FENCE_LOSS (Table 14.9) to each writer slot of a mirror, by its PF's ring, and to the managers. -/
def Dev.fenceLoss (f : Fencing) (m : List (Nat × Nat)) (d : Dev) : Dev :=
  let slots := (List.range 64).filter fun h => m.any fun p => p.2 == h
  slots.foldl (fun d h =>
    d.raiseTo ((d.localQuay h).bind d.pfOf).toList
      (info (sourceId 10 f.slice) 0x8008 0 h
        (f.slice + h * 2 ^ 8 + (m.filter fun p => p.2 == h).length * 2 ^ 32 + f.time * 2 ^ 64))) d

/-- Step 3 of Table 14.6: the requests open to the slice end. -/
def Dev.endOpen (f : Fencing) (d : Dev) : Dev :=
  let open' := d.openTo f.slice
  let marked (x : Fencing) : Fencing := if x.slice = f.slice then { x with ended := true } else x
  let d := d.setFaults fun x => { x with fencing := x.fencing.map marked }
  open'.foldl (fun d a => d.synthAnswer a) (d.loseSlice f.slice)

/-- Steps 4 and 5. Lines whose page is not mapped are skipped (R397). -/
def Dev.endFencing (f : Fencing) (d : Dev) : Dev :=
  let d := d.setFaults fun x => { x with fencing := x.fencing.erase f }
  let d := d.put Obj.homeMap (mapWithout (d.get Obj.homeMap) f.slice (d.activeSlices f.slice))
  let m := f.mirror.filter fun p => entryValid (d.ledgerAt (d.indexOf p.1))
  let d := ((d.poisonMirror m).put Obj.fencePoisonedLines m.length).rehome
  (d.fenceLoss f m).admitHeld

/-- Type 39 (R399): the group of the unit, and its number. -/
def fenceErr : FenceUnit → Err
  | .slice s => { typ := 39, inst := s, alt := 0 }
  | .engine e => { typ := 39, inst := e, alt := 1 }
  | .core k => { typ := 39, inst := k, alt := 2 }

/-- A unit is fenced, whatever R399 says. -/
def Dev.fenceNow (u : FenceUnit) (d : Dev) : Dev :=
  match u with
  | .slice s => d.fenceSlice s
  | .engine e => d.fenceEngine e
  | .core k => d.put Obj.fencedCores (setBit (d.get Obj.fencedCores) k true)

/-- A fence as a hardware action: one that R399 forbids raises Type 39 instead. -/
def Dev.fence (u : FenceUnit) (d : Dev) : Dev :=
  if d.isFenced u then d else if d.mayFence u then d.fenceNow u else d.err (fenceErr u)

end Sys2Proof.Machine
end

