-- ==== Sys2Proof/Machine/Faults.lean ====
section
/-!
DEFINITION. The collector, its windows and hardware actions, decisions that expire, and entry to Salvage (R383 to R407, R41,
R42, R44).
-/

namespace Sys2Proof.Machine

open Sys2Proof

/-! Conditions (Table 14.4). -/

/-- The actions of Table 14.2 by code. -/
abbrev Action.none : Nat := 0
abbrev Action.quayDown : Nat := 1
abbrev Action.basinDown : Nat := 2
abbrev Action.fence : Nat := 3
abbrev Action.salvage : Nat := 4
abbrev Action.impound : Nat := 5

/-- A row of Table 14.4: source group, class, windowed, action, the actions an ALTERNATIVE may name, and whether it has a
report of its own. -/
structure ErrRow where
  group : Nat
  cls : Nat
  windowed : Bool := false
  action : Nat := Action.none
  allowed : List Nat := []
  report : Bool := false
  deriving DecidableEq, Repr

/-- One of several groups. -/
def altOf (alt : Nat) (l : List Nat) : Nat := l.getD alt (l.headD 0)

/-- Table 14.4. A type that it does not list is Correctable, or Contained when its block says so (alt 1). -/
def errRow (e : Err) : ErrRow :=
  match e.typ with
  | 1 | 2 => { group := 1, cls := 0 }
  | 3 => { group := 2, cls := 1, windowed := true, action := Action.quayDown, allowed := [Action.none] }
  | 4 => { group := 2, cls := 0, action := if e.alt = 1 then Action.quayDown else Action.none }
  | 5 => { group := 2, cls := 1, action := Action.quayDown }
  | 6 | 7 | 8 => { group := 2, cls := 0 }
  | 9 => { group := 3, cls := 1 }
  | 10 => { group := 4, cls := 1 }
  | 11 => { group := 5, cls := 1, windowed := true, action := Action.quayDown, allowed := [Action.none] }
  | 12 => { group := 6, cls := 1, windowed := true, action := Action.quayDown, allowed := [Action.none] }
  | 13 => { group := 6, cls := 1 }
  | 14 => { group := 7, cls := 1 }
  | 15 => { group := 8, cls := 1, windowed := true, allowed := [Action.none]
            action := if e.inst < 128 then Action.quayDown else Action.fence }
  | 16 => { group := 8, cls := 2, windowed := true, action := Action.salvage, allowed := [Action.none] }
  | 17 => { group := 8, cls := 0 }
  | 18 | 19 => { group := 9, cls := 0 }
  | 20 => { group := 9, cls := 2, windowed := true, action := Action.salvage, allowed := [Action.none] }
  | 21 | 22 => { group := 10, cls := 0 }
  | 23 => { group := 10, cls := 1, windowed := true, action := Action.fence, allowed := [Action.basinDown, Action.none] }
  | 24 => { group := altOf e.alt [10, 13, 18], cls := 1, action := Action.fence }
  | 25 => { group := altOf e.alt [11, 14], cls := 2, action := Action.salvage }
  | 26 => { group := 11, cls := 0 }
  | 27 => { group := 11, cls := 2, windowed := true, action := Action.salvage, allowed := [Action.none] }
  | 28 => { group := 12, cls := 1, action := Action.basinDown, report := true }
  | 29 => { group := 13, cls := 1, windowed := true, action := Action.fence, allowed := [Action.none] }
  | 30 => { group := 14, cls := 0 }
  | 31 => { group := 14, cls := 1, action := Action.impound }
  | 32 => { group := 14, cls := 0, report := true }
  | 33 => { group := 17, cls := 0, report := true }
  | 34 => { group := 15, cls := 1, report := true }
  | 35 => { group := 16, cls := 0, report := true }
  | 36 => { group := 16, cls := 1, windowed := true, action := Action.quayDown, allowed := [Action.none] }
  | 37 => { group := 16, cls := 0 }
  | 38 => { group := 18, cls := 1, windowed := true, action := Action.fence, allowed := [Action.none] }
  | 39 => { group := altOf e.alt [10, 13, 18], cls := 2, action := Action.salvage }
  | 40 => { group := 19, cls := 1 }
  | 41 => { group := 20, cls := 1 }
  | 42 | 43 => { group := 20, cls := 2, action := Action.salvage }
  | 44 => { group := 21, cls := 2, windowed := true, action := Action.salvage, allowed := [Action.none] }
  | 45 => { group := 21, cls := 2, action := Action.salvage }
  | 46 => { group := 22, cls := 1 }
  | 47 => { group := 22, cls := 2, action := Action.salvage }
  | 48 => { group := 24, cls := 0 }
  | 49 => { group := 23, cls := 0 }
  | 50 => { group := 25, cls := 0, report := true }
  | _ => if e.alt = 1 then { group := 15, cls := 1 } else { group := 2, cls := 0 }

/-- The source of a condition (R383). -/
def errSource (e : Err) : Nat := sourceId (errRow e).group e.inst

/-! Events of the collector (R388, R405). -/

/-- The host slot bound to a local Host quay. -/
def Dev.slotOfQuay (d : Dev) (q : Nat) : Option Nat := if d.role q = 1 then d.slotOf 1 q else none

/-- TARGET of a condition's event (R405). -/
def Dev.errTarget (d : Dev) (e : Err) : Nat :=
  let r := errRow e
  if r.report then (if e.target < 64 ∨ 0x1000 ≤ e.target then e.target else 0xFFFF)
  else if r.group = 1 ∨ r.group = 2 ∨ r.group = 5 then (d.slotOfQuay (if r.group = 1 then e.unit else e.inst)).getD 0xFFFF
  else if r.group = 17 then e.inst
  else 0xFFFF

/-- The Harbour event rings an event with a TARGET goes to (R250); a Basin's goes to its members'. -/
def Dev.errRings (d : Dev) (e : Err) : List Nat :=
  if e.typ = 28 then d.memberRings e.inst
  else
    let t := d.errTarget e
    if t < 64 then ((d.localQuay t).bind d.pfOf).toList
    else if 0x1000 ≤ t ∧ t < 0x2000 then [t - 0x1000] else []

/-- Errors a source has counted. -/
def Dev.srcCount (d : Dev) (src : Nat) : SrcCount := Tab.get {} d.faults.sources src

/-- The payload of Table 14.10. -/
def Dev.errPayload (d : Dev) (e : Err) (action windowEnd : Nat) : Nat :=
  action + b2n (windowEnd != 0) * 2 ^ 8 + (d.srcCount (errSource e)).count * 2 ^ 32 + e.detail % 2 ^ 64 * 2 ^ 64 + windowEnd * 2 ^ 128

/-- OVERFLOW of a class. -/
def Dev.overflowed (d : Dev) (c : Nat) : Bool := bitAt (d.get (Obj.status c)) 63

/-- The event of a condition. -/
def Dev.errEvent (d : Dev) (e : Err) (first : Bool) (token action windowEnd : Nat) : Event :=
  let r := errRow e
  { seq := 0, time := d.time, source := errSource e, cls := r.cls, typ := e.typ, token := token, target := d.errTarget e
    flags := b2n first + 2 * b2n (d.overflowed r.cls) + 4 * b2n (token != 0)
    payload := if r.report then e.report else d.errPayload e action windowEnd }

/-! The counts and the latch (R384, R385). -/

/-- Every error counts: its class, its group bit, its source. -/
def Dev.tallyErr (e : Err) (d : Dev) : Dev :=
  let r := errRow e
  let x := d.srcCount (errSource e)
  let y : SrcCount := { count := satAdd 32 x.count 1, first := if x.count = 0 then d.time else x.first, last := d.time
                        cls := r.cls, typ := e.typ }
  (d.putAll [(Obj.status r.cls, setBit (d.get (Obj.status r.cls)) r.group true),
             (Obj.classCount r.cls, (d.get (Obj.classCount r.cls) + 1) % 2 ^ 32)]).setFaults
    fun f => { f with sources := Tab.set {} f.sources (errSource e) y }

/-- The first error of a CLEAR class takes the latch. -/
def Dev.latch (e : Err) (d : Dev) : Dev :=
  let c := (errRow e).cls
  d.putAll [(Obj.firstSource c, (errSource e)), (Obj.firstTime c, d.time), (Obj.firstType c, e.typ)]

/-! Hardware actions (Table 14.2), without SALVAGE. -/

/-- The unit that FENCE acts on. -/
def fenceUnitOf (e : Err) : FenceUnit :=
  match (errRow e).group with
  | 13 => .engine e.inst
  | 18 => .core e.inst
  | 8 => .slice ((sliceOfPort e.inst).getD 0)
  | _ => .slice e.inst

/-- BASIN_DOWN: every Basin that is UP and has the slice in its home set. -/
def Dev.basinsDown (s : Nat) (d : Dev) : Dev :=
  d.forEach ((List.range 64).filter fun b => d.basinState b == 1 && (d.homeSet b).contains s) (fun b d => d.basinDown b 0x4000)

/-- IMPOUND (R279, R280): fewer than two running cores raises Type 39. -/
def Dev.impoundAll (l : List Nat) (d : Dev) : Dev :=
  let fresh := l.filter fun m => !d.impounded m
  let e := fresh.foldl (fun d m => d.impound m 0 true) d
  match fresh.find? (fun m => decide (0x2010 ≤ m ∧ m < 0x2018)) with
  | some m => e.errIf (decide (e.runningCores < 2)) { typ := 39, inst := m - 0x2010, alt := 2 }
  | none => e

/-- The objects that the commit of a fence changes. -/
def fenceObjs : List Nat := [Obj.fencedSlices, Obj.fencedEngines, Obj.fencedCores, Obj.homeMap, Obj.engineMap]

/-- A hardware action other than SALVAGE. -/
def Dev.hwBase (action : Nat) (e : Err) (d : Dev) : Dev :=
  if action = Action.quayDown then (if e.unit < 128 then d.downByDevice e.unit .command else d)
  else if action = Action.basinDown then (if e.typ = 28 then d else d.basinsDown e.inst)
  else if action = Action.fence then
    d.devCommit fenceObjs (Dev.fence (fenceUnitOf e))
  else if action = Action.impound then d.impoundAll e.masters
  else d

/-! Decisions that expire (Table 2.6, R41, R44). -/

/-- The window of a token. -/
def Dev.windowOf (d : Dev) (token : Nat) : Option Window := d.faults.windows.find? (·.token == token)

/-- A window closes: its class is LATCHED, and requests for a memory device that it stopped go on. -/
def Dev.closeWindow (w : Window) (d : Dev) : Dev :=
  let d := ((d.setFaults fun f => { f with windows := f.windows.erase w }).put (Obj.classState w.cls) 2).closeOp w.token
  d.issueAll d.net.waiting.length

/-- A pending operation is closed, and receives its expiry default. `salvage` says what a SALVAGE action does. -/
def Dev.expireOne (salvage : Err → Nat → Dev → Dev) (x : Decision) (d : Dev) : Dev :=
  let d := (d.closeOp x.token).expired x.fn 1
  match x.fn with
  | 1 => match d.pool.caps.find? fun r => r.target == x.subject && !r.zeroWait with
    | some r => d.capReject r
    | none => d
  | 3 => let s := x.subject % 16
    match d.lruWay s (x.subject / 16) with
    | some w => d.takeVictim s (x.subject / 16) w
    | none => d
  | 4 => match d.windowOf x.token with
    | some w =>
      let d := d.closeWindow w
      if w.action = Action.salvage then salvage w.err w.record d else d.hwBase w.action w.err
    | none => d
  | 5 => match d.widest x.subject with
    | some p => d.startRetrain x.subject (.width p.1)
    | none => (d.put (Obj.failedLanes x.subject) 0).startRetrain x.subject .all
  | 6 => d.slotVerdict x.subject false none
  | 7 => d.ruleEntry x.subject 1
  | _ => d

/-- The operation of a token that is still pending receives its expiry default. -/
def Dev.expireToken (salvage : Err → Nat → Dev → Dev) (token : Nat) (d : Dev) : Dev :=
  match d.modes.decisions.find? (·.token == token) with
  | some x => d.expireOne salvage x
  | none => d

/-- Every operation that `p` selects and that is still pending, oldest first. -/
def Dev.expireAll (salvage : Err → Nat → Dev → Dev) (p : Decision → Bool) (d : Dev) : Dev :=
  ((d.modes.decisions.filter p).map (·.token)).foldl (fun d t => d.expireToken salvage t) d

/-! Salvage (R401 to R404). -/

/-- The payload of a SALVAGE event. -/
def Dev.salvagePayload (d : Dev) : Nat :=
  d.get Obj.salvageCause + d.get Obj.salvageFlushState * 2 ^ 16 + d.get Obj.salvageLostLines * 2 ^ 64

/-- The PF event rings of every Host quay. -/
def Dev.hostRings (d : Dev) : List Nat := ((List.range 128).filter fun q => d.role q == 1).filterMap d.pfOf

/-- A SALVAGE event. -/
def Dev.salvageEvent (d : Dev) : Dev := d.raiseTo d.hostRings (info (d.get Obj.salvageCause) 0x8007 0 0xFFFF d.salvagePayload)

/-- The flush starts (R402): every slice that is not parked writes back its lines in M. With the core rails down nothing can
be written or counted. -/
def Dev.startFlush (d : Dev) : Dev :=
  if d.coreOn then
    ((d.putAll [(Obj.salvageFlushState, 1), (Obj.salvageLostLines, 0)]).setFaults fun f => { f with flushing := true }).backLines
      fun _ => true
  else d.putAll [(Obj.salvageFlushState, 3), (Obj.salvageLostLines, 0xFFFFFFFF)]

/-- The mode is Salvage: any transition is abandoned, Lull ends at once with its slices PARKED, and autostart is cancelled. -/
def Dev.salvageMode (cause : Nat) (d : Dev) : Dev :=
  let d := d.putIf d.inTransition Obj.transitionStatus 2
  let d := d.putAll [(Obj.currentMode, 5), (Obj.targetMode, 5), (Obj.lastChangeTime, d.time), (Obj.salvageCause, cause),
                     (Obj.nearSharerInForce, 0), (Obj.prefetchInForce, 0)]
  (d.putIf (d.power == 1) Obj.powerState 0).answerFull.setModes fun m => { m with
    trans := none, parkTo := none, unpark := [], lullEntry := false, lullExit := false, lullParked := [], autoLive := false }

/-- A slice that was PARKING or UNPARKING when Salvage cut it off is ACTIVE, or PARKED, as it was; requests held for its lines go
on. -/
def Dev.settleSlices (d : Dev) : Dev :=
  d.forEach (List.range 16) fun s d =>
    (d.putIf (d.get (Obj.sliceState s) == 1) (Obj.sliceState s) 0).putIf (d.get (Obj.sliceState s) == 3) (Obj.sliceState s) 2
  |>.admitHeld

/-- The objects that the commit of an entry to Salvage changes. -/
def salvageObjs : List Nat :=
  [Obj.currentMode, Obj.targetMode, Obj.powerState, Obj.transitionStatus, Obj.lastChangeTime, Obj.salvageCause,
   Obj.salvageFlushState, Obj.salvageLostLines, Obj.lastFatal, Obj.nearSharerInForce, Obj.prefetchInForce]

/-- Entry to Salvage. In Salvage already, nothing changes. -/
def Dev.enterSalvage (cause : Nat) (record : Option Nat) (d : Dev) : Dev :=
  if d.mode = 5 then d
  else
    let d := ((d.salvageMode cause).scanEnds d.scanned).settleSlices
    let d := match record with
      | some r => d.put Obj.lastFatal r
      | none => d
    let d := d.expireAll (fun _ _ d => d) (fun _ => true)
    let d := d.startFlush
    let e := d.salvageEvent
    if d.get Obj.salvageFlushState = 3 then e.salvageEvent else e

/-- The hardware action SALVAGE: a device commit. -/
def Dev.salvageBy (e : Err) (record : Nat) (d : Dev) : Dev :=
  if d.mode = 5 then d else d.devCommit salvageObjs (Dev.enterSalvage (errSource e) (some record))

/-- A hardware action of Table 14.2. -/
def Dev.hwAction (action : Nat) (e : Err) (record : Nat) (d : Dev) : Dev :=
  if action = Action.salvage then d.salvageBy e record else d.hwBase action e

/-! The collector (R385 to R391). -/

/-- The condition waits for a verdict (R389). -/
def Dev.waitsFor (d : Dev) (e : Err) : Bool :=
  (errRow e).windowed && d.get (Obj.classState (errRow e).cls) == 0 && d.assisted 4

/-- The error's event: a report for every occurrence, a collector event only when it takes the latch. -/
def Dev.tellErr (e : Err) (first : Bool) (ev : Event) (d : Dev) : Dev :=
  if (errRow e).report || first then d.raiseTo (d.errRings e) ev else d

/-- A window opens: the class reads WINDOW, and the operation is pending. -/
def Dev.openWindow (e : Err) (d : Dev) : Dev :=
  let r := errRow e
  let limit := d.get (Obj.window r.cls)
  let ends := d.time + limit * 1000
  let token := d.modes.nextToken
  let ev := d.errEvent e true token r.action ends
  let d := (d.put (Obj.classState r.cls) 1).holdOp 4 r.cls r.action limit
  (d.setFaults fun f => { f with windows := f.windows ++ [{ cls := r.cls, token := token, err := e, action := r.action
                                                            expires := ends, record := (d.stamp ev).record }] }).tellErr e true ev

/-- One error reaches the collector. -/
def Dev.collect (e : Err) (d : Dev) : Dev :=
  let r := errRow e
  let d := d.tallyErr e
  if d.get (Obj.classState r.cls) = 0 then
    let d := d.latch e
    if d.waitsFor e then d.openWindow e
    else
      let ev := d.errEvent e true 0 r.action 0
      let rec' := (d.stamp ev).record
      ((d.put (Obj.classState r.cls) 2).tellErr e true ev).hwAction r.action e rec'
  else
    let d := d.put (Obj.status r.cls) (setBit (d.get (Obj.status r.cls)) 63 true)
    let ev := d.errEvent e false 0 r.action 0
    (d.tellErr e false ev).hwAction r.action e ev.record

/-- ERROR_REPORT: the condition that a block detects itself, or the first one that waits on the error lines. -/
def effErrorReport (e : Option Err) (d : Dev) : Dev :=
  match e, d.lines with
  | some e, _ => d.collect e
  | none, [] => d
  | none, e :: rest => ({ d with lines := rest }).collect e

def execErrorReport (e : Option ErrIn) (s : State) : Host.Outcome State Fault Refusal := liveLift (effErrorReport e) s

/-- CLASS_ACK (R387). -/
def actClassAck (c : Nat) : Act :=
  { check := fun _ v d => if d.get (Obj.classState c) = 2 ∧ d.get (Obj.classCount c) = v then Status.success else Status.busy
    effect := fun _ _ _ d => d.putAll [(Obj.status c, 0), (Obj.firstSource c, 0), (Obj.firstTime c, 0), (Obj.firstType c, 0),
                                       (Obj.classState c, 0)] }

def execClassAck (c : Call) (cls : Fin 3) (v : Nat) (s : State) : Host.Outcome State Fault Refusal :=
  writeRow (actClassAck cls) c (Obj.classAck cls) v s

/-- SOURCE_CLEAR (Table 14.11): one source, or all. -/
def actSourceClear : Act :=
  { effect := fun _ v _ d => d.setFaults fun f => { f with
      sources := if v = 0xFFFF then [] else Tab.drop f.sources v } }

def execSourceClear (c : Call) (v : Nat) (s : State) : Host.Outcome State Fault Refusal :=
  writeRow actSourceClear c Obj.sourceClear v s

/-! Stalls, fences and their end (R394 to R400). -/

/-- The condition of a unit that stalls: Type 24 or 25, with its group. A management port, which Table 14.4 does not name,
stalls as the Customs checker of its input. -/
def stallErr : UnitRef → Err
  | .slice s => { typ := 24, inst := s, alt := 0 }
  | .engine e => { typ := 24, inst := e, alt := 1 }
  | .core k => { typ := 24, inst := k, alt := 2 }
  | .ring s => { typ := 25, inst := s, alt := 0 }
  | .checker p => { typ := 25, inst := p, alt := 1 }
  | .management p => { typ := 25, inst := 192 + p, alt := 1 }

/-- STALL_DETECT: the unit's monitor reports it. -/
def effStallDetect (u : UnitRef) (d : Dev) : Dev := d.collect (stallErr u)

def execStallDetect (u : UnitRef) (s : State) : Host.Outcome State Fault Refusal := liveLift (effStallDetect u) s

/-- FENCED_REQUEST_TIMEOUT (R395, step 3): requests open to a fenced slice end. An engine or core has no request open to it
that outlives its fence. -/
def effFencedRequestTimeout (u : UnitRef) (d : Dev) : Dev :=
  match u with
  | .slice s => match d.faults.fencing.find? (fun f => f.slice == s.val && !f.ended) with
    | some f => d.endOpen f
    | none => d
  | _ => d

def execFencedRequestTimeout (u : UnitRef) (s : State) : Host.Outcome State Fault Refusal :=
  liveLift (effFencedRequestTimeout u) s

/-- FENCE_REHASH_DONE (Table 14.6, steps 4 and 5): the slots of a fenced slice have new holders and held requests go to them. -/
def effFenceRehashDone (s : Nat) (d : Dev) : Dev :=
  match d.faults.fencing.find? (fun f => f.slice == s && f.ended) with
  | some f => d.endFencing f
  | none => d

def execFenceRehashDone (s : Fin 16) (st : State) : Host.Outcome State Fault Refusal := liveLift (effFenceRehashDone s) st

/-- The unit of a FENCE_UNIT argument: kind in byte 0, number in byte 1. -/
def unitArg (v : Nat) : Option FenceUnit :=
  match byteAt v 0 with
  | 1 => if byteAt v 1 < 16 then some (.slice (byteAt v 1)) else none
  | 2 => if byteAt v 1 < 16 then some (.engine (byteAt v 1)) else none
  | 3 => if byteAt v 1 < 8 then some (.core (byteAt v 1)) else none
  | _ => none

/-- The object that shows a unit's state. -/
def fenceObj : FenceUnit → Nat
  | .slice _ => Obj.fencedSlices
  | .engine _ => Obj.fencedEngines
  | .core _ => Obj.fencedCores

/-- FENCE_UNIT (R400). -/
def actFenceUnit : Act :=
  { check := fun _ v d => match unitArg v with
      | none => Status.badValue
      | some u => if d.isFenced u then Status.fencedUnit else if d.mayFence u then Status.success else Status.resourceLimit
    effect := fun _ v n d => match unitArg v with
      | some u => (d.marking fenceObjs n (Dev.fenceNow u)).stateChange 0 (fenceObj u)
      | none => d }

def execFenceUnit (c : Call) (v : Nat) (s : State) : Host.Outcome State Fault Refusal := writeRow actFenceUnit c Obj.fenceUnit v s

/-- A unit that R1 fences on the part. -/
def absentUnit (p : Sys2Proof.Part) : FenceUnit → Bool
  | .slice s => p == .w384 && decide (12 ≤ s)
  | .engine e => p == .w384 && decide (12 ≤ e)
  | .core _ => false

/-- A fenced unit is marked for return; a slice with its engine. -/
def Dev.markClear (u : FenceUnit) (d : Dev) : Dev :=
  if !d.isFenced u then d
  else d.setFaults fun f => match u with
    | .slice s => { f with clearSlices := setBit f.clearSlices s true, clearEngines := setBit f.clearEngines s true }
    | .engine e => { f with clearEngines := setBit f.clearEngines e true }
    | .core k => { f with clearCores := setBit f.clearCores k true }

/-- FENCE_CLEAR (R400). -/
def actFenceClear : Act :=
  { check := fun _ v d => match unitArg v with
      | none => Status.badValue
      | some u => if absentUnit d.part u then Status.fencedUnit else Status.success
    effect := fun _ v _ d => match unitArg v with
      | some u => d.markClear u
      | none => d }

def execFenceClear (c : Call) (v : Nat) (s : State) : Host.Outcome State Fault Refusal := writeRow actFenceClear c Obj.fenceClear v s

/-- Lines that the Salvage flush has still to write, and writes under way. -/
def Dev.flushLeft (d : Dev) : Nat :=
  ((List.range 16).map fun s => ((d.slice s).lines.filter fun l => l.st == LineState.m).length + (d.slice s).victims.length).sum +
    (d.faults.fencing.map fun f => f.mirror.length).sum

/-- SALVAGE_FLUSH_END (R402): COMPLETE, or INCOMPLETE with the lines that could be neither written nor poisoned. -/
def effSalvageFlushEnd (lost : Nat) (d : Dev) : Dev :=
  if d.faults.flushing ∧ d.flushLeft = 0 then
    ((d.setFaults fun f => { f with flushing := false }).putAll
      [(Obj.salvageFlushState, if lost = 0 then 2 else 3), (Obj.salvageLostLines, min lost 0xFFFFFFFE)]).salvageEvent
  else d

def execSalvageFlushEnd (lost : Nat) (s : State) : Host.Outcome State Fault Refusal := liveLift (effSalvageFlushEnd lost) s

/-! The commands of Salvage and of the decisions' limits. -/

/-- ENTER_SALVAGE (R26, R27, R401). -/
def actEnterSalvage : Act := { effect := fun _ _ n d => d.marking salvageObjs n (Dev.enterSalvage 0 none) }

def execEnterSalvage (c : Call) (v : Nat) (s : State) : Host.Outcome State Fault Refusal :=
  writeRow actEnterSalvage c Obj.enterSalvage v s

/-- DECISION_LIMIT_EXPIRY (R41): the limit of a pending operation ends first. -/
def effDecisionLimitExpiry (token : Nat) (d : Dev) : Dev := d.expireToken Dev.salvageBy token

def execDecisionLimitExpiry (token : Nat) (s : State) : Host.Outcome State Fault Refusal :=
  liveLift (effDecisionLimitExpiry token) s

end Sys2Proof.Machine
end

