-- ==== Sys2Proof/Machine/Tide.lean ====
section
/-!
DEFINITION. Tide's metering and voltage: AVS, droop, the governor, forewarning, the chain, and the power cap (R319 to R329).
Currents are in Q16.16 A, voltages of requests in mV.
-/

namespace Sys2Proof.Machine

open Sys2Proof

/-- A number of amperes in Q16.16. -/
def amps (n : Nat) : Nat := n * 65536

/-- The AVSBus requests: VCORE and VSRAM, in mV (the model's own pin numbers). -/
abbrev Pin.avsCore : Nat := 30
abbrev Pin.avsSram : Nat := 31

/-! Adaptive voltage (R319). -/

/-- Millivolts in Q16.16 V. -/
def milliVolts (mv : Nat) : Nat := mv * 65536 / 1000

/-- A value between two bounds. -/
def clamp (lo hi v : Nat) : Nat := min hi (max lo v)

/-- Request a VCORE and its VSRAM; VSRAM rises first and falls last. -/
def Dev.requestVcore (mv : Nat) (d : Dev) : Dev :=
  let sram := clamp 750 900 (mv + 100)
  let core : Out := .pin Pin.avsCore mv
  let ram : Out := .pin Pin.avsSram sram
  ((d.setTide fun t => { t with vcore := mv, vsram := sram }).putAll
    [(Obj.vcoreTarget, milliVolts mv), (Obj.vsramTarget, milliVolts sram)]).sendAll
      (if d.tide.vcore ≤ mv then [ram, core] else [core, ram])

/-- The target rate of the mode in force. -/
def Dev.rateTarget (d : Dev) : Nat := d.get (if d.mode = 3 then Obj.avsRateTargetLean else Obj.avsRateTarget)

/-- AVS_UPDATE: 5 mV up below the target, 5 mV down above it by more than 3 % when the ceiling has not risen in the last 20
updates. -/
def effAvsUpdate (rate : Nat) (d : Dev) : Dev :=
  if !d.coreOn then d
  else
    let calm := if d.tide.raised then 0 else min 20 (d.tide.calm + 1)
    let d := (d.put Obj.coreRate (min rate 4000)).setTide fun t => { t with calm := calm, raised := false }
    let floor := 600 + d.get Obj.droopMargin
    let was := if d.tide.vcore = 0 then floor else d.tide.vcore
    let want := if rate < d.rateTarget then was + 5
      else if d.rateTarget * 103 < rate * 100 ∧ calm = 20 then was - 5 else was
    let v := clamp floor 900 want
    if v = d.tide.vcore then d else d.requestVcore v

def execAvsUpdate (coreRate : Nat) (s : State) : Host.Outcome State Fault Refusal := liveLift (effAvsUpdate coreRate) s

/-! Droop (R320). -/

/-- DROOP: the die voltage falls below 0.585 V, or has recovered for 1 µs. -/
def effDroop (low : Bool) (d : Dev) : Dev :=
  if !d.coreOn then d
  else
    let d := if low && !d.tide.droop then (d.count Obj.droopEvents 1).event 0xC400 0x62 1 {} else d
    d.setTide fun t => { t with droop := low }

def execDroop (low : Bool) (s : State) : Host.Outcome State Fault Refusal := liveLift (effDroop low) s

/-- DROOP_FATAL: below 0.55 V (Q16.16) for longer than 1 µs. -/
def effDroopFatal (volts : Nat) (d : Dev) : Dev :=
  if d.coreOn ∧ volts * 100 < 55 * 65536 then d.collect { typ := 43, inst := 0, detail := volts } else d

def execDroopFatal (volts : Nat) (s : State) : Host.Outcome State Fault Refusal := liveLift (effDroopFatal volts) s

/-! The chain (R325 to R328). -/

/-- CRC-4 with polynomial x⁴ + x + 1 over the bits of a value, most significant first. -/
def crc4 (v : Nat) : Nat → Nat → Nat
  | 0, c => c
  | n + 1, c =>
    let b := Nat.xor (c / 8) (b2n (bitAt v n))
    crc4 v n (Nat.xor (c * 2 % 16) (if b = 1 then 3 else 0))

/-- CHECK of a frame. -/
def frameCheck (f : Nat) : Nat := crc4 (bits f 4 28) 28 0

/-- The 40 bits of a frame (Table 11.3): KIND, SOURCE, STEP and START_OFFSET in their places, with PREAMBLE and CHECK. -/
def chainFrame (kind source step offset : Nat) : Nat :=
  let f := 0xA5 * 2 ^ 32 + source % 32 * 2 ^ 27 + kind % 4 * 2 ^ 25 + step % 1024 * 2 ^ 15 + offset % 2048 * 2 ^ 4
  f + frameCheck f

/-- The frame passes its check. -/
def frameOk (f : Nat) : Bool := bits f 32 8 == 0xA5 && bits f 0 4 == frameCheck f

/-- The chain is used: enabled and not broken. -/
def Dev.chained (d : Dev) : Bool := d.get Obj.syncEnable == 1 && d.get Obj.syncState != 2

/-- Announced steps of other members whose windows overlap one that starts at t. -/
def Dev.overlapping (d : Dev) (t : Nat) : List Announced :=
  let slot := d.get Obj.syncSlot
  d.tide.announced.filter fun a => decide (a.start < t + slot) && decide (t < a.start + slot)

/-- A step of `step` A that starts at t breaks the limit. -/
def Dev.breaksLimit (d : Dev) (t step : Nat) : Bool :=
  decide (d.get Obj.syncStepLimit < step + ((d.overlapping t).map (·.step)).sum)

/-- The end of the latest overlapping window. -/
def Dev.latestEnd (d : Dev) (t : Nat) : Nat := listMax t ((d.overlapping t).map fun a => a.start + d.get Obj.syncSlot)

/-- R326 steps 2 and 3: the start, with the moves made and whether the limit of deferral forced it. -/
def Dev.chooseStart (d : Dev) (first step : Nat) : Nat → Nat → Nat → Nat × Nat × Bool
  | 0, t, moves => (t, moves, false)
  | n + 1, t, moves =>
    if !d.breaksLimit t step then (t, moves, false)
    else
      let t' := d.latestEnd t
      if first + d.get Obj.syncMaxDefer < t' then
        (first + d.get Obj.syncMaxDefer, moves + b2n (decide (t < first + d.get Obj.syncMaxDefer)), true)
      else if t' = t then (t, moves, false)
      else d.chooseStart first step n t' (moves + 1)

/-- STEP of a frame: units of 2 A. -/
def stepField (step : Nat) : Nat := min 1023 ((step + 1) / 2)

/-- The frame that announces a step: START_OFFSET counts from the frame's end, 400 ns on, rounded up to 20 ns. -/
def Dev.announceStep (kind step start : Nat) (d : Dev) : Dev :=
  d.send (.sync (chainFrame kind (d.get Obj.syncPosition) (stepField step) ((start - d.time - 400 + 19) / 20)))

/-- The start of a step under the chain. -/
def Dev.planStep (step : Nat) (d : Dev) : Dev × Nat × Nat :=
  let first := d.time + max (d.get Obj.foreLead) (400 + 40 * (d.get Obj.syncRingSize - 1) + 100)
  let r := d.chooseStart first step (d.tide.announced.length + 1) first 0
  ((((d.count Obj.syncDeferCount r.2.1).count Obj.syncForcedCount (b2n r.2.2)).event 0xC400 0x63 r.2.1 {}).announceStep 0 step r.1, first, r.1)

/-- R327: a frame has broken the limit against the device's own announced step; the later start moves, and for equal starts
the higher position. -/
def Dev.reviewStep (a : Announced) (d : Dev) : Dev :=
  match d.tide.fore with
  | none => d
  | some f =>
    if f.ramping || !d.breaksLimit f.start f.step || !(d.overlapping f.start).contains a then d
    else if decide (f.start < a.start) || (f.start == a.start && decide (d.get Obj.syncPosition < a.source)) then d
    else
      let r := d.chooseStart f.first f.step (d.tide.announced.length + 1) f.start 0
      ((((d.count Obj.syncDeferCount r.2.1).count Obj.syncForcedCount (b2n r.2.2)).event 0xC400 0x63 r.2.1 {}).setTide fun t =>
        { t with fore := some { f with start := r.1 } }).announceStep 0 f.step r.1

/-- A good frame of another member goes on, 2 units nearer its start. -/
def Dev.forwardFrame (f : Nat) (d : Dev) : Dev := 
  d.send (.sync (chainFrame (bits f 25 2) (bits f 27 5) (bits f 15 10) (bits f 4 11 - 2)))

/-- An up-step of another member: its newest announcement. -/
def Dev.noteStep (f : Nat) (d : Dev) : Dev :=
  let a : Announced := { source := bits f 27 5, start := d.time + 20 * bits f 4 11, step := 2 * bits f 15 10 }
  let slot := d.get Obj.syncSlot
  (d.setTide fun t => { t with
    announced := (t.announced.filter fun x => x.source != a.source && decide (d.time < x.start + slot)) ++ [a] }).reviewStep a

/-- SYNC_FRAME. Outside the chain TIDE_SYNC_OUT is low (R460). -/
def effSyncFrame (f : Nat) (d : Dev) : Dev :=
  if d.get Obj.syncEnable = 0 ∨ !frameOk f then d
  else
    let d := d.put Obj.syncState 1
    if bits f 27 5 = d.get Obj.syncPosition then d
    else
      let d := d.forwardFrame f
      if bits f 25 2 = 0 then d.noteStep f else d

def execSyncFrame (f : ChainFrame) (s : State) : Host.Outcome State Fault Refusal := liveLift (effSyncFrame f) s

/-- SYNC_HEARTBEAT: position 0 of the chain. -/
def effSyncHeartbeat (d : Dev) : Dev :=
  if d.get Obj.syncEnable = 1 ∧ d.get Obj.syncPosition = 0 then d.send (.sync (chainFrame 2 0 0 0)) else d

def execSyncHeartbeat (s : State) : Host.Outcome State Fault Refusal := liveLift effSyncHeartbeat s

/-- SYNC_BROKEN: no frame for 1 ms. -/
def effSyncBroken (d : Dev) : Dev :=
  if d.get Obj.syncEnable = 1 ∧ d.get Obj.syncState ≠ 2 then (d.put Obj.syncState 2).err { typ := 48, inst := 0 } else d

def execSyncBroken (s : State) : Host.Outcome State Fault Refusal := liveLift effSyncBroken s

/-- SYNC_ENABLE: the chain is OK until it breaks, or OFF. -/
def actSyncEnable : Act :=
  { effect := fun _ v _ d => (d.putAll [(Obj.syncEnable, v), (Obj.syncState, v)]).setTide fun t =>
      { t with announced := if v = 0 then [] else t.announced } }

/-! The governor and its forewarning (R321 to R323). -/

/-- How far the ceiling may move in one window of 100 ns. -/
def Dev.windowRise (d : Dev) : Nat := d.get Obj.didtLimit * 65536 / 10

/-- TIDE_FORE_N, active low, is asserted for a step. With the chain, the step is announced first (R326). -/
def Dev.warnStep (target : Nat) (d : Dev) : Dev :=
  let est := d.get Obj.coreCurrentEst
  let step := (target - est + 65535) / 65536
  let plan : Dev × Nat × Nat := if d.chained then d.planStep step else (d, d.time + d.get Obj.foreLead, d.time + d.get Obj.foreLead)
  let f : Fore := { hold := est + amps (d.get Obj.foreThreshold), start := plan.2.2, first := plan.2.1, step := step }
  (((plan.1.setTide fun t => { t with fore := some f }).count Obj.foreCount 1).event 0xC400 0x61 1 {}).send (.pin Pin.fore 0)

/-- The level up to which the ceiling may rise now. -/
def Dev.riseTo (d : Dev) (target : Nat) : Nat :=
  match d.tide.fore with
  | some f => if f.ramping then target else min target f.hold
  | none => target

/-- The estimate after a window: what is drawn, or with RELEASE_RAMP the ballast's slower fall. -/
def Dev.estimate (d : Dev) (draw : Nat) : Nat :=
  let est := d.get Obj.coreCurrentEst
  if d.get Obj.releaseRamp = 1 ∧ draw < est then max draw (est - d.windowRise) else draw

/-- GOVERNOR_WINDOW: `demand` is the current that the waiting and running work would draw; while the ceiling is below it,
work is held for the window's 100 ns. -/
def effGovernorWindow (demand : Nat) (d : Dev) : Dev :=
  if !d.coreOn then d
  else
    let est := d.get Obj.coreCurrentEst
    let target := min demand d.tide.cap
    let d := if d.chained ∧ demand + amps (d.get Obj.foreThreshold) < d.tide.demand then
        d.announceStep 1 ((d.tide.demand - demand) / 65536) (d.time + 400) else d
    let d := if d.tide.fore.isNone ∧ d.get Obj.currentCeiling < target ∧ est + amps (d.get Obj.foreThreshold) < target then
        d.warnStep target else d
    let ceil := min (d.get Obj.currentCeiling) d.tide.cap
    let up := if d.tide.droop then ceil else max ceil (min (d.riseTo target) (ceil + d.windowRise))
    let next := d.estimate (min demand up)
    let ceil' := if target < ceil then max target next else up
    ((if up < demand then d.event 0xC400 0x60 100 {} else d).putAll [(Obj.coreCurrentEst, next), (Obj.currentCeiling, ceil')]).setTide
      fun t => { t with demand := demand, raised := t.raised || decide (d.get Obj.currentCeiling < ceil') }

def execGovernorWindow (demand : Nat) (s : State) : Host.Outcome State Fault Refusal := liveLift (effGovernorWindow demand) s

/-- FORE_LEAD_EXPIRY: the lead, or the chained start, has come, and the ceiling ramps to the demand. -/
def effForeLeadExpiry (d : Dev) : Dev :=
  d.setTide fun t => { t with fore := t.fore.map fun f => { f with ramping := true } }

def execForeLeadExpiry (s : State) : Host.Outcome State Fault Refusal := liveLift effForeLeadExpiry s

/-- FORE_RAMP_END: TIDE_FORE_N is deasserted. -/
def effForeRampEnd (d : Dev) : Dev :=
  match d.tide.fore with
  | some f => if f.ramping then (d.setTide fun t => { t with fore := none }).send (.pin Pin.fore 1) else d
  | none => d

def execForeRampEnd (s : State) : Host.Outcome State Fault Refusal := liveLift effForeRampEnd s

/-- The lane ramp has ended: TIDE_FORE_LANE_N is deasserted (R324). -/
def Dev.endLaneRamp (d : Dev) : Dev :=
  let ends := (d.tide.laneRamp.map fun t => decide (t ≤ d.time)).getD false
  { d with
    sent := d.sent ++ (if ends then [.pin Pin.laneFore 1] else [])
    tide := { d.tide with laneRamp := if ends then none else d.tide.laneRamp } }

/-! The power cap (R329). -/

/-- The power limit that applies now. -/
def Dev.powerLimit (d : Dev) : Nat :=
  let own := if d.profiled then d.settings.power else d.get Obj.nonservicePowerLimit
  match d.modes.trans with
  | none => own
  | some t => match t.powerFrom with
    | none => own
    | some w => if t.endingLull then w else min w own

/-- The limit of a transition is in force from this control update (Table 2.4). -/
def Dev.takeLimit (d : Dev) : Dev :=
  d.setModes fun m => { m with trans := m.trans.map fun t => if t.endingLull then t else { t with powerFrom := none } }

/-- Power from the rail readings, in Q16.16 W. -/
def Dev.railPower (d : Dev) : Nat := ((List.range 6).map fun r => d.get (Obj.railVoltage r) * d.get (Obj.railCurrent r) / 65536).sum

/-- The excess over the limit as a current; with no VCORE reading the spec states no number. -/
def Dev.excessAmps (d : Dev) (excess : Nat) : Nat :=
  let v := d.get (Obj.railVoltage 0)
  if v = 0 then d.draw else excess * 65536 / v

/-- The cap never falls below 48 A. -/
def capFloor (n : Nat) : Nat := max (amps 48) n

/-- The cap of one control update. It does not rise while the throttle is active. -/
def Dev.nextCap (d : Dev) (power limit : Nat) : Nat :=
  if limit < power then capFloor (d.tide.cap - d.excessAmps (power - limit))
  else if power * 100 < limit * 95 ∧ d.get Obj.throttleActive = 0 then min (amps 600) (d.tide.cap + d.tide.cap / 20)
  else d.tide.cap

/-- One event a second while the limit is unmet. -/
def Dev.reportUnmet (d : Dev) : Dev :=
  if d.tide.unmetAt = 0 ∨ d.tide.unmetAt - 1 + 1000000000 ≤ d.time then
    (d.setTide fun t => { t with unmetAt := d.time + 1 }).err { typ := 48, inst := 0 }
  else d

/-- One control update, every 1 ms. -/
def Dev.controlUpdate (d : Dev) : Dev :=
  let power := d.railPower
  let limit := d.powerLimit * 65536
  let cap := d.nextCap power limit
  let drew := decide (limit < power) && d.get (Obj.railVoltage 0) == 0
  let d := (if drew then d.drawn else d).setTide fun t => { t with cap := cap }
  let unmet := cap == amps 48
  let d := d.putAll [(Obj.powerMeasured, min power (1000 * 65536)), (Obj.powerLimitUnmet, b2n unmet)]
  if unmet then d.reportUnmet else d

/-! Temperature (R330): the throttle. -/

/-- A temperature in Q16.16 is at least n °C. -/
def atLeast (tj n : Nat) : Bool := decide ((n * 65536 : Int) ≤ toSigned 32 tj)

/-- The cap falls, or recovers, by 5 % per ms: one twentieth of it in ten samples. -/
def Dev.throttle (tj : Nat) (d : Dev) : Dev :=
  let t := d.get Obj.throttleTemp
  if atLeast tj t then
    let d := if d.get Obj.throttleActive = 1 then d
      else ((d.put Obj.throttleActive 1).count Obj.throttleCount 1).setTide fun x => { x with throttleCap := x.cap }
    d.setTide fun x => { x with cap := capFloor (x.cap - x.cap / 200) }
  else if d.get Obj.throttleActive = 1 ∧ !atLeast (tj + 65536 * 2 - 1) t then
    let d := d.setTide fun x => { x with cap := min x.throttleCap (x.cap + x.cap / 200) }
    d.putIf (decide (d.tide.throttleCap ≤ d.tide.cap)) Obj.throttleActive 0
  else d

end Sys2Proof.Machine
end

