-- ==== Sys2Proof/Machine/Sessions.lean ====
section
/-!
DEFINITION. The end of a session and of what it holds, debug levels, and zeroisation (R298, R357, R363, R364).
-/

namespace Sys2Proof.Machine

open Sys2Proof

/-! Measurements (Tables 12.3 and 12.4, R346, R347). -/

/-- What layer 1 measures now. -/
def Dev.layerOne (d : Dev) : Nat := layerOf d.bw.running (d.get Obj.lifecycle) (d.get Obj.svnFused)

/-- A credential without its PSK bytes. -/
def credOpen (v : Nat) : Nat := if byteAt v 0 = 2 then setBits v 128 384 0 else v

/-- The security configuration of block 6. -/
def Dev.securityConfig (d : Dev) : Nat :=
  securityOf ((List.range 63).map fun k => credOpen (d.get (Obj.credential (k + 1))))
    ((List.range 8).map fun a => d.get (Obj.trustAnchor (a + 1))) ((List.range 5).map fun t => d.get (Obj.transportRoleCap (t + 2)))
    (d.get Obj.fmapiEnable)

/-- The measurement blocks, with the values that they cover now (R347). -/
def Dev.blocks (d : Dev) : List Nat :=
  blocksOf d.bw.running (d.get Obj.lifecycle) (d.get Obj.svnFused) (d.get Obj.debugLevel + 256 * d.get Obj.debugHistory) d.securityConfig

/-- A boot takes its measurements (R290). -/
def Dev.measureBoot (d : Dev) : Dev := d.setBw fun b => { b with bootLayer := d.layerOne, bootBlocks := packBlocks d.blocks }

/-! Debug levels (Table 12.14). -/

/-- The highest level authorised. -/
def Dev.topLevel (d : Dev) : Nat := listMax 0 (d.bw.holders.map (·.2))

/-- D1 is held by some session. -/
def Dev.holdsOne (d : Dev) : Bool := d.bw.holders.any fun h => h.2 == 1

/-- The level in force: D2 and D3 only in Drydock, D1 elsewhere. -/
def Dev.levelNow (d : Dev) : Nat := if d.mode = 4 then d.topLevel else b2n d.holdsOne

/-- The trace buffer is empty, and the trace takes a state: 0 OFF, 1 RUNNING, 2 FULL, 3 PAUSED (R440). -/
def Dev.traceTo (st : Nat) (d : Dev) : Dev :=
  (d.putAll [(Obj.traceState, st), (Obj.traceDrops, 0)]).setObs fun o => { o with trace := [], lastA := none, lastB := none }

/-- RUNNING, or PAUSED in Standby. -/
def Dev.traceRuns (d : Dev) : Nat := if d.power = 2 then 3 else 1

/-- DEBUG_LEVEL and DEBUG_AUTHORISED follow the authorisations, DEBUG_HISTORY the levels entered, and the trace starts with
D1 and ends with it (Table 12.17). -/
def Dev.showLevel (d : Dev) : Dev :=
  let was := d.get Obj.debugLevel
  let now := d.levelNow
  let d := d.putAll [(Obj.debugAuthorised, d.topLevel), (Obj.debugLevel, now)]
  let d := d.putIf (decide (0 < now)) Obj.debugHistory (setBit (d.get Obj.debugHistory) (now - 1) true)
  if was = 0 ∧ now = 1 then d.traceTo d.traceRuns else if 0 < was ∧ now = 0 then d.traceTo 0 else d

/-- Authorisations that `p` selects end. -/
def Dev.endLevels (p : Nat × Nat → Bool) (d : Dev) : Dev :=
  (d.setBw fun b => { b with holders := b.holders.filter (!p ·) }).showLevel

/-! Sessions (R298). -/

/-- Sessions that `p` selects end, with their authorisations and an arming. The loss of D2 or D3 in Drydock is
`Dev.dropSessions`'s affair. -/
def Dev.cutSessions (p : Session → Bool) (d : Dev) : Dev :=
  let gone := (d.mgmt.sessions.filter p).map (·.slot)
  let d := d.setMgmt fun m => { m with sessions := m.sessions.filter (!p ·) }
  let d := d.setBw fun b => { b with arming := if (b.arming.map fun a => gone.contains a.1).getD false then none else b.arming }
  d.endLevels fun h => gone.contains h.1

/-! Zeroisation (Table 12.12). -/

/-- Every IDE key of every quay is zeroised. -/
def Dev.insecureAll (d : Dev) : Dev := d.forEach (List.range 128) Dev.insecure

/-- The enclave holds no CSP. -/
def Dev.clearEnclave (d : Dev) : Dev := d.setBw fun b => { b with enclave := {} }

/-- Every volatile CSP is zeroised: no session and no stream survives, and nothing that the boot derived. -/
def Dev.zeroiseVolatile (d : Dev) : Dev :=
  ((d.cutSessions fun _ => true).insecureAll).clearEnclave

/-- One zeroisation is counted, with its cause: 1 command, 2 lifecycle, 3 tamper, 4 hard error. -/
def Dev.noteZeroise (cause : Nat) (d : Dev) : Dev := (d.count Obj.zeroiseCount 1).put Obj.lastZeroiseCause cause

/-- Every wrapped CSP, credentials 0 to 62 and the trust anchors are overwritten, and STORE_EPOCH takes a random value. -/
def Dev.zeroiseStore (d : Dev) : Dev :=
  let epoch := d.draw % 2 ^ 32
  let d := (d.forEach (List.range 63) fun k d => d.put (Obj.credential (k + 1)) 0).forEach (List.range 8)
    fun a d => d.put (Obj.trustAnchor (a + 1)) 0
  d.drawn.setBw fun b => { b with storeEpoch := epoch, store := [] }

/-- The entry to HARD_ERROR (Table 12.11): every volatile CSP is zeroised, and ERROR_CAUSE is journalled. -/
def Dev.errorState (cause : Nat) (d : Dev) : Dev :=
  (d.zeroiseVolatile.noteZeroise (if cause / 256 = 8 then 3 else 4)).putAll [(Obj.bwState, 3), (Obj.errorCause, cause)]

/-- HARD_ERROR (Table 12.11), and a Fatal error that enters Salvage, which a recovery loader or a device held in its ROM cannot enter.
Breakwater starts one recovery reset for it, unless it has done so. -/
def Dev.hardError (cause : Nat) (d : Dev) : Dev :=
  if d.get Obj.bwState = 3 then d
  else
    let d := (d.errorState cause).setBw fun b => { b with resetDue := !b.resetUsed }
    if d.powered then d.collect { typ := 47, inst := 0 } else d

/-! Random numbers (R356). -/

/-- The DRBG is seeded from the entropy source. -/
def Dev.reseed (d : Dev) : Dev :=
  (d.drawn.setBw fun b => { b with enclave := { b.enclave with drbg := some d.draw, uses := 0, seeded := d.time } }).count Obj.drbgReseeds 1

/-- A seed is due: none is held, 2²⁰ requests have been served, or 1 s has passed. -/
def Dev.seedDue (d : Dev) : Bool :=
  d.bw.enclave.drbg.isNone || decide (2 ^ 20 ≤ d.bw.enclave.uses) || decide (d.bw.enclave.seeded + 1000000000 ≤ d.time)

/-- One request of random bits is served. The bits themselves are a free value, which the caller draws. -/
def Dev.randomBits (d : Dev) : Dev :=
  let d := if d.seedDue then d.reseed else d
  d.setBw fun b => { b with enclave := { b.enclave with drbg := b.enclave.drbg.map Config.drbgNext, uses := b.enclave.uses + 1 } }

end Sys2Proof.Machine
end

