-- ==== Sys2Proof/Machine/Reset.lean ====
section
/-!
DEFINITION. What a start finds and restores: the choice of the image, the restore of the Manifest, fences, and the recovery
reset (R290 to R292, R343, R361, R378 to R380, R400, R470).
-/

namespace Sys2Proof.Machine

open Sys2Proof

/-! The boot ROM (R342, R343). -/

/-- R342: an image is valid. -/
def Dev.imageValid (d : Dev) (i : Image) : Bool :=
  i.magic == 0x31574657 && i.headerVersion == 1 && decide (1 ≤ i.bodyLength ∧ i.bodyLength ≤ 6283264) && decide (i.keySlot < 4) &&
  !bitAt (d.get Obj.keySlotsRevoked) i.keySlot && i.digestOk && decide (d.get Obj.svnFused ≤ i.svn ∧ i.svn ≤ 63) &&
  i.ecdsaOk && i.mldsaOk && i.bodyOk

/-- The image in an MRAM slot: 0 A, 1 B. -/
def Dev.slotImage (d : Dev) (k : Nat) : Option Image := if k = 0 then d.bw.imageA else d.bw.imageB

/-- The state object of a slot. -/
def fwSlotState (k : Nat) : Nat := if k = 0 then Obj.fwSlotAState else Obj.fwSlotBState

/-- A slot holds a valid image. -/
def Dev.slotValid (d : Dev) (k : Nat) : Bool := ((d.slotImage k).map d.imageValid).getD false

/-- A slot that was tried and fails reads INVALID; an empty one stays EMPTY. -/
def Dev.failSlot (k : Nat) (d : Dev) : Dev := d.putIf ((d.slotImage k).isSome) (fwSlotState k) 2

/-- R343: the first valid image runs, with its FIRMWARE_SLOT. -/
def Dev.bootImage (env : Env) (d : Dev) : Dev :=
  let k := d.get Obj.fwNextSlot
  let run (n : Nat) (i : Option Image) (d : Dev) : Dev := d.setBw fun b => { b with running := i, runSlot := n }
  if d.slotValid k then run k (d.slotImage k) d
  else
    let d := d.failSlot k
    if d.slotValid (1 - k) then run (1 - k) (d.slotImage (1 - k)) d
    else
      let d := d.failSlot (1 - k)
      if d.get Obj.recoveryFlashEnable = 1 ∧ (env.flash.map d.imageValid).getD false then run 2 env.flash d
      else run 0 none d

/-! Erasure and the lifecycle intent (R361, R470, Table 12.13). -/

/-- An object that R470 returns to its default. -/
def erasable (o : Nat) : Bool :=
  match findRow o with
  | some (r, _, _) => r.pers != .vol && r.acc == .rw
  | none => false

/-- R470: the Manifest returns to its defaults, with the Customs tables and privileges. -/
def Dev.eraseManifest (d : Dev) : Dev :=
  let kept (p : Nat × Nat) : Bool := !erasable p.1 && p.1 / 256 != 0x1050
  { (d.setCustoms fun c => { c with tables := [{}], lag := [] }) with
    man := d.man.filter kept, stored := d.stored.filter kept }

/-- What a transition erases beyond ZEROISE, and the fuses after it: 1 Sealed, 2 Returned, 3 Scrapped. -/
def Dev.carryLifecycle (target : Nat) (d : Dev) : Dev :=
  if target = 1 then
    let d := d.putIf (d.get Obj.lifecycle == 2) Obj.resealCount (d.get Obj.resealCount + 1)
    d.putAll [(Obj.debugHistory, 0), (Obj.lifecycle, 1)]
  else
    let d := (d.eraseManifest.setBw fun b => { b with
      chain1 := none, certPresent := b.certPresent && target != 3, udsBlown := b.udsBlown || target == 3 })
    d.put Obj.lifecycle target

/-- Steps 3 and 4 of R360, also completed by the ROM from an intent record (R361). -/
def Dev.completeLifecycle (d : Dev) : Dev :=
  match d.bw.intent with
  | none => d
  | some t =>
    let d := ((d.zeroiseVolatile.noteZeroise 2).zeroiseStore).carryLifecycle t
    d.setBw fun b => { b with intent := none }

/-! The restore of the Manifest (R290, R292, R305). -/

/-- A persistent object, and a persistent-on-commit one. -/
def persOf (o : Nat) : Pers := ((findRow o).map (·.1.pers)).getD .vol

/-- Objects of volatile class that a recovery reset keeps: what stands outside the blocks that it resets (Table 13.3), and
SALVAGE_FLUSH_STATE and SALVAGE_LOST_LINES (R407). -/
def keptVolatile (o : Nat) : Bool :=
  let i := o / 256
  let sub := o % 256
  o == Obj.powerState || o == Obj.ledgerState || o == Obj.salvageFlushState || o == Obj.salvageLostLines ||
  (i / 256 == 0x51 && sub == 4) || (decide (0x5200 ≤ i ∧ i < 0x5600) && sub == 11) || (i / 256 == 0x56 && sub == 3) ||
  i == 0x2001 || (decide (0x2010 ≤ i ∧ i < 0x2030) && sub == 2) || (decide (0x8010 ≤ i ∧ i < 0x8020) && decide (sub ≤ 3)) || (i == 0x8000 && (sub == 3 || sub == 4 || sub == 5 || sub == 7)) ||
  (i == 0x8020 && (sub == 1 || sub == 5 || sub == 6)) || (i == 0x8030 && (sub == 2 || sub == 3)) || o == Obj.syncState ||
  (decide (0x8100 ≤ i ∧ i < 0x8130) && (sub == 1 || sub == 0x13)) || (decide (0x8180 ≤ i ∧ i < 0x8182) && sub == 1) ||
  (decide (0xB100 ≤ i ∧ i < 0xB132) && (sub == 3 || sub == 4))

/-- The Manifest after a restore: persistent objects as the journal holds them, persistent-on-commit objects as stored, volatile
ones at their defaults but for those that `keep` selects. -/
def Dev.restoreMan (keep : Nat → Bool) (d : Dev) : Dev :=
  let stays (o : Nat) : Bool := match persOf o with
    | .per => true
    | .poc => false
    | .vol => keep o
  let seqs := d.lastSeq.filter fun p => persOf p.1 == .per
  d.stored.foldl (fun d p => d.put p.1 p.2)
    { d with man := d.man.filter (fun p => stays p.1)
             lastSeq := d.storedSeq.foldl (fun t p => Tab.set 0 t p.1 p.2) seqs }

/-- What an object takes without a good record: its default; CXL_OFFER of a quay whose restored ROLE is Fabric takes that role's
(Table 3.7; DESIGN CHOICE, log entry 112). -/
def Dev.recordDefault (d : Dev) (o : Nat) : Nat :=
  if o % 256 = 0x0A ∧ o / 65536 = 0x21 ∧ o / 256 % 256 < 128 ∧ d.role (o / 256 % 256) = 3 then 0x3D else objDefault d.part o

/-- A record that fails its check is skipped (R292, R305): its object takes the value and the LAST_SEQ of the previous good record, or
its default, now and, of a persistent-on-commit object, at later starts too. That the default of CXL_OFFER follows the restored ROLE is
a DESIGN CHOICE (log entry 112). -/
def Dev.skipRecord (o : Nat) (good : Option (Nat × Nat)) (d : Dev) : Dev :=
  let v := (good.map (·.1)).getD (d.recordDefault o)
  let n := (good.map (·.2)).getD 0
  let d := if persOf o = .poc then
    { d with stored := Tab.set (objDefault d.part o) d.stored o v, storedSeq := Tab.set 0 d.storedSeq o n } else d
  (((d.put o v).mark o n).count Obj.restoreErrors 1).err { typ := 40, inst := 0, detail := o }

/-- The records that fail their check; those of ROLE come first, since the default of CXL_OFFER follows it. -/
def Dev.skipRecords (env : Env) (d : Dev) : Dev :=
  let isRole (p : Nat × Option (Nat × Nat)) : Bool := p.1 % 256 == 2 && p.1 / 65536 == 0x21
  ((env.badRecords.filter isRole) ++ env.badRecords.filter fun p => !isRole p).foldl (fun d p =>
    if persOf p.1 = .vol then d else d.skipRecord p.1 p.2) d

/-- Numbering resumes at the start of the next block (R304). -/
def Dev.nextBlock (d : Dev) : Dev :=
  (d.put Obj.commitSeq d.mgmt.seqBlock).setMgmt fun m => { m with seqBlock := m.seqBlock + 65536 }

/-! Fences at a start (R400). -/

/-- The mask of the units that a test finds bad, of those marked. -/
def failing (marks bad : Nat) : Nat := Nat.land marks bad

/-- A mask without the bits of another. -/
def without (a b : Nat) : Nat := a - Nat.land a b

/-- The errors of units that fail their test. -/
def Dev.failUnits (typ mask : Nat) (d : Dev) : Dev := d.forEach (maskBits mask 16) fun u d => d.err { typ := typ, inst := u, unit := u }

/-- Marked units are tested; those that pass are no longer fenced. With fewer than two unfenced cores, every core is. -/
def Dev.testUnits (env : Env) (d : Dev) : Dev :=
  let f := d.faults
  let all := !d.bw.fromOff && decide (6 < popCount (d.get Obj.fencedCores) 8)
  let cores := if all then 0xFF else f.clearCores
  let slices := without (d.get Obj.fencedSlices) (without f.clearSlices env.badSlices)
  let backEngines := without (without f.clearEngines slices) env.badEngines
  let d := ((d.failUnits 23 (failing f.clearSlices env.badSlices)).failUnits 29 (failing (without f.clearEngines slices) env.badEngines)).failUnits
    38 (failing cores env.badCores)
  let d := d.putAll [(Obj.fencedSlices, slices), (Obj.fencedEngines, without (d.get Obj.fencedEngines) backEngines),
    (Obj.fencedCores, Nat.lor (without (d.get Obj.fencedCores) cores) (failing cores env.badCores))]
  d.setFaults fun f => { f with clearSlices := 0, clearEngines := Nat.land f.clearEngines slices, clearCores := 0 }

/-- A map before any slot is given away: slot i names unit i mod 16 (R138). -/
def mapAtStart : Nat := packBytes ((List.range 256).map (· % 16))

/-- A map at a start: the slots of absent and fenced units are given away in one pass in increasing order (R138). -/
def mapAround (v : Nat) (us : List Nat) : Nat :=
  let lost (l : List Nat) (i : Nat) : Bool := !us.contains (l.getD i 0)
  packBytes ((List.range 256).foldl (fun l i => if lost l i then match fewestSlots l us with
    | some u => l.set i u
    | none => l else l) (mapList v))

/-- Fenced units read FENCED, and the maps give their slots away. -/
def Dev.showFences (d : Dev) : Dev :=
  let d := (maskBits (d.get Obj.fencedSlices) 16).foldl (fun d s => d.put (Obj.sliceState s) 4) d
  let d := (maskBits (d.get Obj.fencedEngines) 16).foldl (fun d e => d.put (Obj.engineState e) 3) d
  d.putAll [(Obj.homeMap, mapAround mapAtStart (d.activeSlices 16)),
            (Obj.engineMap, mapAround mapAtStart (d.activeEngines 16))]

/-! Wharves, quays and slots at a start (R374, Table 13.2 step 6). -/

/-- Every quay number shows what the cut makes of it, and every quay is DOWN. -/
def Dev.showQuays (d : Dev) : Dev := d.forEach ((List.range 128).filter fun q => !quayAbsent d.part q) Dev.showCut

/-- Slots in POWERED wait for PERST_DELAY (R335). -/
def Dev.duePerst (d : Dev) : Dev :=
  d.forEach ((List.range 48).filter fun s => d.slotState s == 6) fun s d => d.setSlot s fun c => { c with perstDue := true }

/-- The wharves of tiles whose reference is present start, and their quays train; a PLL that relocks starts its wharf itself. -/
def Dev.startWharves (d : Dev) : Dev :=
  d.forEach ((List.range 32).filter fun w =>
    !wharfAbsent d.part w && d.get (Obj.refclkStatus (w / 4)) == 1 && !bitAt d.net.relock w) Dev.startWharf

/-! The recovery reset (Table 13.2). -/

/-- A recovery reset abandons a flush. -/
def Dev.abandonFlush (d : Dev) : Dev :=
  if d.faults.flushing then d.putAll [(Obj.salvageFlushState, 3), (Obj.salvageLostLines, min d.flushLeft 0xFFFFFFFE)] else d

/-- Step 1: every quay is declared DOWN in one device commit. -/
def Dev.allDown (d : Dev) : Dev :=
  d.devCommit (d.allQuays.flatMap downObjs) fun d => d.forEach d.allQuays fun q d => d.declareDown q .reset

/-- Step 1: sessions and streams end, quays go DOWN, SLOT_PERST_N is asserted, and TIDE_THERMTRIP_N is released. The Ledger,
the page-state map and the migrations stay as they were. Work queues are gone first, so no record is written (R259). -/
def Dev.resetStepOne (d : Dev) : Dev :=
  let pool := d.pool
  let d := d.setCrane fun c => { c with queues := [], accs := [] }
  let d := ((((d.cutSessions fun _ => true).insecureAll).abandonFlush).allDown).setPool fun p => { p with
    ledger := pool.ledger, pages := pool.pages, migs := pool.migs, releasing := pool.releasing }
  let d := d.forEach ((List.range 48).filter fun s => d.slotState s == 6) fun s d =>
    (d.slotPerst s true).setSlot s fun c => { c with perstDue := false }
  if d.tide.tripped then (d.send (.pin Pin.thermTrip 1)).setTide fun t => { t with tripped := false } else d

/-- What is kept of the pool (R188, R200, R218). -/
def Pool.kept (p : Pool) : Pool :=
  { ledger := p.ledger, pages := p.pages, extents := p.extents, zeroFails := p.zeroFails, releasing := p.releasing
    migs := p.migs.map fun g => { g with copying := false, held := [] } }

/-- Pages that waited for earlier accesses enter ZEROING: none remains. -/
def Dev.releasePages (d : Dev) : Dev := d.pool.releasing.foldl (fun d x => effSourcePageRelease x.dev x.page d) d

/-- What is kept of Customs (R269, R282): cores restart free. -/
def Customs.kept (c : Customs) : Customs :=
  let l := (c.impounds.filter fun i => !decide (0x2010 ≤ i.master ∧ i.master < 0x2018)).map fun i => { i with everywhere := true }
  let mine (p : Nat × Nat) : Bool := l.any fun i => i.master == p.1
  { tables := [c.tables.headD {}], impounds := l, violations := c.violations.filter mine, counts := c.counts.filter mine }

/-- What is kept of Crane (R259): configurations; zeroing begins again. -/
def Crane.kept (c : Crane) : Crane :=
  { insts := c.insts, zeroQueue := (c.zeroing.map fun z => (z.1, z.2.1, 1)) ++ c.zeroQueue }

/-- The PERST input of a quay is not the device's, and the generations of its tag slots go on (R95). -/
def quaysKept (t : Tab Quay) : Tab Quay := t.foldl (fun l p => Tab.set {} l p.1
  { perst := p.2.perst, genBase := p.2.genBase, stepGens := p.2.stepGens }) []

/-- Instances after a reset: RECOVERY_LOSS is set. -/
def instsLost (t : Tab Inst) : Tab Inst := t.map fun p => (p.1, { p.2 with recoveryLoss := p.2.bound })

/-- Step 2: the switch core, slices, engines and checkers are reset; the management plane's volatile part is gone. -/
def Dev.resetStepTwo (d : Dev) : Dev :=
  let c := d.clearInsts
  ({ c with
    coh := {}, pool := d.pool.kept, customs := d.customs.kept
    crane := { c.crane.kept with insts := instsLost c.crane.insts }
    net := { started := d.net.started, absentDue := d.net.absentDue, relock := d.net.relock
             quays := quaysKept d.net.quays, tags := d.net.tags }
    mgmt := { seqBlock := d.mgmt.seqBlock, aligned := d.mgmt.aligned, ethMode := d.mgmt.ethMode }
    modes := {}
    faults := { clearSlices := d.faults.clearSlices, clearEngines := d.faults.clearEngines, clearCores := d.faults.clearCores }
    obs := { ticks := d.obs.ticks, restarted := List.range 128, tap := d.obs.tap, boundary := d.obs.boundary }
    bw := { d.bw with badWindows := 0, entropyBad := false, badWharves := 0, streams := [], holders := [], arming := none, enclave := {}, km := []
                      resetDue := false } }).releasePages

/-- ERROR_CAUSE of a start's tests (Table 12.10), 0 when they pass: an algorithm of the known-answer tests, the entropy start-up
test, or the pairwise consistency of the keys that the start generates. -/
def startCause (fails : Nat) : Nat :=
  if bits fails 0 8 ≠ 0 then 0x200 + bits fails 0 8 else if bitAt fails 40 then 0x400 else if bitAt fails 41 then 0x600 else 0

/-- The derivation of a boot (Table 12.3). -/
def Dev.deriveKeys (d : Dev) : Dev :=
  d.drawn.setBw fun b => { b with enclave := enclaveOf b.udsBlown d.layerOne b.storeEpoch d.draw d.time }

/-- At a start from Off the slot channels take their settings (R339). -/
def Dev.startSlots (d : Dev) : Dev := if d.bw.fromOff then d.forEach (List.range 48) Dev.takeSlot else d

/-- No image is valid: the recovery loader runs, and holds no key (R344). The ROM has run the self-tests (R343). -/
def Dev.startLoader (env : Env) (d : Dev) : Dev :=
  let d := { d with powered := false, boot := .loader }.clearEnclave.startSlots
  if startCause env.katFails = 0 then d.setBw fun b => { b with resetUsed := false }
  else (d.count Obj.selfTestFailures 1).hardError (startCause env.katFails)

/-- Steps 4 and 5, and step 4 of Table 13.1: the Manifest is restored, and the device enters Slipway. The known-answer tests run
before first use. -/
def Dev.enterSlipway (env : Env) (d : Dev) : Dev :=
  let d := { (((d.nextBlock.skipRecords env).testUnits env).showFences.showQuays).loadArbs with powered := true, boot := .running }
  let d := d.deriveKeys.startSlots
  let d := d.putAll [(Obj.bwState, 1), (Obj.lastSelfTest, d.time), (Obj.lastChangeTime, d.time),
                     (Obj.certSlots, b2n d.bw.certPresent + 2 * b2n d.bw.chain1.isSome)]
  let d := (d.setBw fun b => { b with engineFaults := bits env.katFails 8 32 }).measureBoot
  if startCause env.katFails = 0 then d.setBw fun b => { b with resetUsed := false }
  else (d.count Obj.selfTestFailures 1).hardError (startCause env.katFails)

/-- Steps 3 to 6 of a recovery reset. With no valid image, the recovery loader runs (R344). -/
def Dev.restart (env : Env) (d : Dev) : Dev :=
  let d := (d.completeLifecycle.bootImage env).restoreMan keptVolatile
  match d.bw.running with
  | none => d.startLoader env
  | some _ =>
    let d := d.enterSlipway env
    if d.coreOn then (d.setModes fun m => { m with autoRuns := true }).startWharves.duePerst else d

/-- A recovery reset, as one change: nothing that reaches the device during it is answered. An error that waited before it goes with
the classes; one that arises in it stays on the error lines (R380, R404). -/
def Dev.recoveryReset (env : Env) (d : Dev) : Dev := (({ d with lines := [] }).resetStepOne.resetStepTwo).restart env

/-- In Drydock the loss of D2 or D3 starts a recovery reset (R364). -/
def Dev.leaveDock (d : Dev) : Dev := if d.mode = 4 ∧ d.topLevel < 2 then d.recoveryReset {} else d

/-- Sessions that `p` selects end, and with them what they authorised. -/
def Dev.dropSessions (p : Session → Bool) (d : Dev) : Dev := (d.cutSessions p).leaveDock

/-- A session ends (R298). -/
def Dev.dropSession (slot : Nat) (d : Dev) : Dev := d.dropSessions fun s => s.slot == slot

/-! What follows a message (R298, R349, R359, R360, R378). -/

/-- ZEROISE: volatile CSPs, then what is wrapped (Table 12.12). Every session ends, in Drydock the authorising one too. -/
def Dev.zeroise (d : Dev) : Dev := (((d.noteZeroise 1).zeroiseVolatile).zeroiseStore).leaveDock

/-- Lull ends at once, and the slices parked for it return. -/
def Dev.dropLull (d : Dev) : Dev :=
  if d.power = 1 then
    let d := ((d.settleSlices).put Obj.powerState 0).answerFull
    (d.forEach d.modes.lullParked Dev.returnSlice).setModes fun m => { m with
      lullParked := [], unpark := [], lullEntry := false, lullExit := false, parkTo := none }
  else d

/-- A lifecycle change (R360): out of Lull, the intent, the erasure and the fuses, and a recovery reset. -/
def Dev.changeLifecycle (target : Nat) (env : Env) (d : Dev) : Dev :=
  (((d.dropLull).setBw fun b => { b with intent := some target }).completeLifecycle).recoveryReset env

/-- The known-answer tests: `fails` names the algorithm that fails, 0 none. -/
def Dev.knownAnswers (fails : Nat) (d : Dev) : Dev :=
  let d := d.put Obj.lastSelfTest d.time
  if fails = 0 then d else (d.count Obj.selfTestFailures 1).hardError (0x200 + fails % 256)

/-- The test of a wharf's engine fails: its streams are INSECURE and it refuses keys. -/
def Dev.engineFails (w : Nat) (d : Dev) : Dev :=
  ((d.forEach (wharfQuays w) Dev.insecure).count Obj.selfTestFailures 1).softError (0x100 + w) (0x300 + w)

/-- Every test runs on demand: bits 7 to 0 of `fails` name an algorithm, bits 39 to 8 the wharves whose engine fails. What passes
ends its SOFT_ERROR. -/
def Dev.selfTest (fails : Nat) (d : Dev) : Dev :=
  let wharves := bits fails 8 32
  let d := (d.setBw fun b => { b with badWharves := wharves, engineFaults := wharves, entropyBad := false, badWindows := 0 }).put Obj.bwState 1
  let d := d.forEach (maskBits wharves 32) Dev.engineFails
  d.knownAnswers (bits fails 0 8)

/-- One thing that was due. -/
def Dev.doAfter (a : After) (d : Dev) : Dev :=
  match a with
  | .selfTest fails => if d.get Obj.bwState = 3 then d else d.selfTest fails
  | .close slot => d.dropSession slot
  | .credential k => d.dropSessions fun s => s.cred == k
  | .zeroise => d.zeroise
  | .reset env => d.recoveryReset env
  | .lifecycle t env => d.changeLifecycle t env
  | .act a e r => d.hwAction a e r

/-- Something is due after the message. -/
def Dev.later (a : After) (d : Dev) : Dev := d.setMgmt fun m => { m with after := m.after ++ [a] }

/-- A message has been answered. -/
def Dev.endMessage (d : Dev) : Dev := d.mgmt.after.foldl (fun d a => d.doAfter a) (d.setMgmt fun m => { m with after := [] })

/-- The meaning of a row that is a write to one object and may leave something due after its response. -/
def messageRow (a : Act) (c : Call) (o v : Nat) (s : State) : Host.Outcome State Fault Refusal :=
  liveLift (fun d => (d.manifestWrite a c o v).endMessage) s

end Sys2Proof.Machine
end

