-- ==== Sys2Proof/Machine/Power.lean ====
section
/-!
DEFINITION. The rails, the power states Full and Standby, and the thermal trip (R35, R38, R317, R318, R330, R366, R369, R372).
RAIL_STATE: 0 OFF, 1 RAMPING, 2 GOOD, 3 FAULT.
-/

namespace Sys2Proof.Machine

open Sys2Proof

/-- The order of Table 11.1, in RAIL numbers: VIO, VSRAM, VCORE, VLANE_A, VLANE_T. -/
def railOrder : List Nat := [4, 1, 0, 2, 3]

/-- The rail that follows another. -/
def railAfter (r : Nat) : Option Nat := (railOrder.dropWhile (· != r))[1]?

def Dev.railState (d : Dev) (r : Nat) : Nat := d.get (Obj.railState r)

/-- A rail is enabled. -/
def Dev.enableRail (r : Nat) (d : Dev) : Dev :=
  ((d.put (Obj.railState r) 1).send (.pin (Pin.rail r) 1)).setTide fun t => { t with rising := some r }

/-- A rail is disabled and takes a state. -/
def Dev.disableRail (st r : Nat) (d : Dev) : Dev := (d.put (Obj.railState r) st).send (.pin (Pin.rail r) 0)

/-- Rails that are enabled. -/
def Dev.railOn (d : Dev) (r : Nat) : Bool := d.railState r == 1 || d.railState r == 2

/-- Every rail that is up goes down, in reverse order. -/
def Dev.railsDown (d : Dev) : Dev :=
  (d.forEach (railOrder.reverse.filter d.railOn) (Dev.disableRail 0)).setTide fun t => { t with rising := none }

/-- Type 41, naming a rail. -/
def Dev.railErr (r : Nat) (d : Dev) : Dev := d.err { typ := 41, inst := r, unit := r, detail := d.get (Obj.railVoltage r) }

/-! Standby. -/

/-- Lanes lose their supply: links that were up are HELD, training ends, and every wharf and reference is to be judged again. -/
def Dev.lanesOff (d : Dev) : Dev :=
  let off (q : Nat) (d : Dev) : Dev :=
    if d.isUp q ∨ d.qstate q = 4 then (d.holdLink q).setQuay q fun k => { k with dlDown := true, retrain := none }
    else if d.qstate q = 2 then (d.leaveUp q 1).setQuay q (Quay.lose true) else d
  let d := d.forEach d.allQuays off
  let d := d.forEach ((List.range 32).filter fun w => !wharfAbsent d.part w) fun w d => d.put (Obj.wharfState w) 0
  let d := d.forEach ((List.range 8).filter fun t => !tileAbsent d.part t) fun t d => d.put (Obj.refclkStatus t) 0
  d.setNet fun n => { n with started := 0, absentDue := 0, relock := 0 }

/-- No step remains to be warned of: TIDE_FORE_N and TIDE_FORE_LANE_N are deasserted. -/
def Dev.dropWarnings (d : Dev) : Dev :=
  { d with
    sent := d.sent ++ (if d.tide.fore.isSome then [.pin Pin.fore 1] else []) ++
      (if d.tide.laneRamp.isSome then [.pin Pin.laneFore 1] else [])
    tide := { d.tide with fore := none, laneRamp := none } }

/-- The core loses its supply, with everything its slices and its crossbar held. -/
def Dev.coreOff (d : Dev) : Dev :=
  let d := d.dropWarnings
  let d := (d.setCoh fun c => { c with held := [] }).settleSlices
  let d := d.setCoh fun c => { c with slices := [], snoops := [], answers := [] }
  let d := (d.setNet fun n => { n with voq := [], backlog := [], egress := [], inbox := [], streams := [] }).loadArbs
  let d := d.setPool fun p => { p with
    tlb := [], walks := [], walkQueue := [], accesses := [], hints := [], prefetched := [], misses := [] }
  let d := d.setTide fun t => { t with droop := false, vcore := 0, vsram := 0, demand := 0 }
  let d := d.setCrane fun c => { c with accs := [] }
  d.setModes fun m => { m with parkTo := none, unpark := [], lullEntry := false, lullExit := false }

/-- Entry to Standby (R317, R366): IDE keys are zeroised, sessions over PCIe VDM end, SLOT_PERST_N is asserted, and the trace
stops. -/
def Dev.enterStandby (d : Dev) : Dev :=
  let d := (((d.insecureAll).railsDown).lanesOff).coreOff
  let d := d.forEach ((List.range 48).filter fun s => d.slotState s == 6) fun s d =>
    (d.slotPerst s true).setSlot s fun c => { c with perstDue := false }
  let d := d.put Obj.powerState 2
  let d := d.putIf (d.get Obj.traceState == 1) Obj.traceState 3
  d.dropSessions fun s => s.binding.transport == 5

/-! Full. -/

/-- The answer of the request that waits for Full. -/
def Dev.endPowerUp (status : Nat) (d : Dev) : Dev :=
  let d := match d.modes.powerReq with
    | some r => d.answerReady r.1 r.2 status 0
    | none => d
  d.setModes fun m => { m with powerReq := none, ownPowerReq := false }

/-- A request for Standby that waited for Full is carried out (R372). -/
def Dev.endWait (d : Dev) : Dev :=
  match d.modes.waitStandby with
  | none => d
  | some r =>
    let d := d.setModes fun m => { m with waitStandby := none }
    (if d.power = 2 then d else d.enterStandby).answerReady r.1 r.2 Status.success 0

/-- The power-up has failed: the rails already up go down, and the device stays in Standby. -/
def Dev.failPowerUp (d : Dev) : Dev := ((d.railsDown).endPowerUp Status.deviceError).endWait

/-- Full is reached: slots wait for PERST_DELAY, slices parked for Lull return, the trace runs on, and the autostart delay counts
from now. -/
def Dev.reachFull (d : Dev) : Dev :=
  let d := (d.setTide fun t => { t with rising := none }).put Obj.powerState 0
  let d := d.putIf (d.get Obj.traceState == 3) Obj.traceState 1
  let d := (d.forEach d.modes.lullParked Dev.returnSlice).setModes fun m => { m with
    lullParked := [], autoRuns := m.autoRuns || d.mode == 0 }
  ((d.duePerst).endPowerUp Status.success).endWait

/-- A request for Full from Standby (R369): with a rail already good before its enable, nothing is enabled. -/
def Dev.startFull (prebias : Nat) (d : Dev) : Dev :=
  let bad := railOrder.filter (bitAt prebias)
  if bad = [] then d.enableRail 4 else (d.forEach bad Dev.railErr).failPowerUp

/-- The next rail is enabled, unless it is good already (R369). -/
def effRailPowerGood (r : Nat) (nextGood : Bool) (d : Dev) : Dev :=
  if d.tide.rising = some r then
    let d := d.put (Obj.railState r) 2
    match railAfter r with
    | none => d.reachFull
    | some n => if nextGood then (d.railErr n).failPowerUp else d.enableRail n
  else d

/-- R318: a rail gives no power-good, or loses it before it has given it. -/
def Dev.railFails (r : Nat) (d : Dev) : Dev := ((d.disableRail 3 r).railErr r).failPowerUp

/-- RAIL_POWER_GOOD_TIMEOUT. -/
def effRailPowerGoodTimeout (r : Nat) (d : Dev) : Dev := if d.tide.rising = some r then d.railFails r else d

def execRailPowerGoodTimeout (r : Fin 6) (s : State) : Host.Outcome State Fault Refusal := liveLift (effRailPowerGoodTimeout r) s

/-- RAIL_POWER_GOOD_LOST: of a rail that had given it, Type 42 takes the device to Salvage in Standby. Every rail that is up goes down in
reverse order, the one that failed in its turn. -/
def effRailPowerGoodLost (r : Nat) (d : Dev) : Dev :=
  if d.tide.rising = some r then d.railFails r
  else if d.railState r = 2 then
    let e : Err := { typ := 42, inst := r, unit := r, detail := d.get (Obj.railVoltage r) }
    let d := if d.power = 2 then d.failPowerUp else d.enterStandby
    (d.put (Obj.railState r) 3).collect e
  else d

def execRailPowerGoodLost (r : Fin 6) (s : State) : Host.Outcome State Fault Refusal := liveLift (effRailPowerGoodLost r) s

/-! Temperature (R330, R392). -/

/-- Type 44 at 108 °C; it arms again below 106 °C. -/
def Dev.thermalError (tj : Nat) (d : Dev) : Dev :=
  if atLeast tj 108 ∧ !d.tide.hot then (d.setTide fun t => { t with hot := true }).collect { typ := 44, inst := 0, detail := tj }
  else if !atLeast tj 106 then d.setTide fun t => { t with hot := false } else d

/-- The rails are up, or on their way up. -/
def Dev.railsUp (d : Dev) : Bool := d.power != 2 || d.tide.rising.isSome

/-- The hardware trip: TIDE_THERMTRIP_N is asserted, and the rails go down. -/
def Dev.tripRails (d : Dev) : Dev :=
  let d := (d.setTide fun t => { t with tripped := true }).send (.pin Pin.thermTrip 0)
  if d.power ≠ 2 then d.enterStandby else if d.tide.rising.isSome then d.failPowerUp else d

/-- The trip acts at 115 °C: for the first time, or on rails that have been brought up since. -/
def Dev.trips (d : Dev) (tj : Nat) : Bool := atLeast tj 115 && (!d.tide.tripped || d.railsUp)

/-- Type 45 at 115 °C. -/
def Dev.thermalTrip (tj : Nat) (d : Dev) : Dev :=
  if d.trips tj then (d.tripRails).collect { typ := 45, inst := 0, detail := tj } else d

/-- A sample while the recovery loader runs or the ROM holds the device: TJ_MAX and the hardware trip, with no event (R330, R373). -/
def Dev.thermalQuiet (tj : Nat) (d : Dev) : Dev :=
  let d := d.put Obj.tjMax tj
  if d.trips tj then d.tripRails else d

/-- THERMAL_SAMPLE: TJ_MAX, and the rows of R330. -/
def effThermalSample (tj : Nat) (d : Dev) : Dev :=
  let d := d.put Obj.tjMax tj
  let d := if d.coreOn then d.throttle tj else d
  (d.thermalError tj).thermalTrip tj

def execThermalSample (tj : Nat) (s : State) : Host.Outcome State Fault Refusal :=
  lift (fun d => if d.powered then effThermalSample tj d else if d.boot = .off then d else d.thermalQuiet tj) s

/-! The start from Off (R370 to R373). -/

/-- The device's own request for Full, a device commit; BP channels with BP_ENABLE = 1 start pre-charge. -/
def Dev.ownRequest (prebias : Nat) (d : Dev) : Dev :=
  let d := d.forEach ((List.range 2).filter fun b => d.get (Obj.bpEnable b) == 1) fun b d => d.setBp b 1
  ((d.takeSeq).setModes fun m => { m with ownPowerReq := true }).startFull prebias

/-- From step 4 on, once an image is valid. -/
def Dev.startUp (env : Env) (d : Dev) : Dev :=
  let d := d.enterSlipway env
  if d.bw.fromOff then (d.setBw fun b => { b with fromOff := false }).ownRequest env.prebias
  else if d.coreOn then (d.setModes fun m => { m with autoRuns := true }).startWharves.duePerst else d

/-- What survives Off: the journal, the MRAM images, the wrapped store and the fuses, the Ledger and the map in memory, and the
configurations that persistent objects and tables hold. -/
def Dev.offState (d : Dev) : Dev :=
  let d := d.restoreMan fun _ => false
  { part := d.part, powered := false, boot := .off, man := d.man, lastSeq := d.lastSeq, stored := d.stored, storedSeq := d.storedSeq
    mgmt := { seqBlock := d.mgmt.seqBlock }
    pool := { ledger := d.pool.ledger, pages := d.pool.pages }
    crane := { insts := (d.clearInsts).crane.insts.map fun p => (p.1, { p.2 with
      mboxVector := 0, capReq := 0, capResp := 0, capVector := 0, evtBase := 0, evtEntries := 0, evtVector := 0
      evtHead := 0, evtTail := 0, evtOverflow := false, recoveryLoss := false, bytes := 0, shares := [] }) }
    customs := { tables := [d.customs.tables.headD {}] }
    bw := { intent := d.bw.intent, storeEpoch := d.bw.storeEpoch, udsBlown := d.bw.udsBlown, certPresent := d.bw.certPresent
            store := d.bw.store, chain1 := d.bw.chain1, imageA := d.bw.imageA, imageB := d.bw.imageB, running := none }
    faults := { clearSlices := d.faults.clearSlices, clearEngines := d.faults.clearEngines, clearCores := d.faults.clearCores }
    sent := d.sent, draws := d.draws }

/-- What on-package charge holds when VAUX is lost: every rail enable, slot gate and backplane gate off (R453). TIDE_THERMTRIP_N is
released (R460). -/
def Dev.loseVaux (d : Dev) : Dev :=
  let d := d.forEach (List.range 5) fun r d => d.send (.pin (Pin.rail r) 0)
  let d := d.forEach (List.range 48) fun s d => d.send (.pin (Pin.gate s) 0)
  let d := d.forEach (List.range 2) fun b d => d.send (.pin (Pin.bp b) 0)
  if d.tide.tripped then d.send (.pin Pin.thermTrip 1) else d

/-- VAUX_LOSS: the device is Off. -/
def effVauxLoss (d : Dev) : Dev := d.loseVaux.offState

def execVauxLoss (s : State) : Host.Outcome State Fault Refusal := lift effVauxLoss s

/-- Steps 2 and 3 of Table 13.1. -/
def Dev.powerUp (env : Env) (d : Dev) : Dev :=
  let d := d.setBw fun b => { b with fromOff := true }
  let d := d.completeLifecycle.bootImage env
  match d.bw.running with
  | none => d.startLoader env
  | some _ => d.startUp env

/-- The moment VAUX is good: ETH_MODE is sampled (R450), and Tide holds every rail enable and slot gate off and every SLOT_PERST_N
asserted (R369, R454). -/
def Dev.vauxRises (ethMode : Nat) (d : Dev) : Dev :=
  let d := d.setMgmt fun m => { m with ethMode := ethMode % 4 }
  let d := d.forEach (List.range 5) fun r d => d.send (.pin (Pin.rail r) 0)
  d.forEach (List.range 48) fun s d => (d.send (.pin (Pin.gate s) 0)).send (.pin (Pin.perst s) 0)

/-- VAUX_GOOD: start-up from Off. With TEST_MODE the device is held in its ROM (R450). -/
def effVauxGood (st : StartFacts) (d : Dev) : Dev :=
  if d.boot ≠ .off then d
  else if st.testMode then { d.vauxRises st.ethMode with boot := .held }
  else (d.vauxRises st.ethMode).powerUp st.env

def execVauxGood (st : StartFacts) (s : State) : Host.Outcome State Fault Refusal := lift (effVauxGood st) s

end Sys2Proof.Machine
end

