-- ==== Sys2Proof/Machine/Modes.lean ====
section
/-!
DEFINITION. Modes, their transitions, Lull and autostart (R26 to R39, R138, R377, R381, R469).
-/

namespace Sys2Proof.Machine

open Sys2Proof

def Dev.setTrans (t : Option Transition) (d : Dev) : Dev := d.setModes fun m => { m with trans := t }

/-! Parking (R31, R32). -/

/-- Slices that are ACTIVE or still PARKING. -/
def Dev.activeCount (d : Dev) : Nat :=
  ((List.range 16).filter fun s => d.get (Obj.sliceState s) == 0 || d.get (Obj.sliceState s) == 1).length

/-- A service mode is being entered from Slipway and is not in force yet (R33). -/
def Dev.entering (d : Dev) : Bool := d.mode == 0 && (d.modes.trans.map fun t => t.fromSlipway && !t.toDrydock).getD false

/-- A slice of the home set of a Basin that is UP, or is becoming so, or becomes so with the mode on its way (R173). -/
def Dev.basinNeeds (d : Dev) (s : Nat) : Bool :=
  (List.range 64).any fun b =>
    (d.basinState b == 1 && (d.homeSet b).contains s) ||
      (((d.basin b).enabling || (d.entering && d.get (Obj.basinEnable b) == 1 && d.basinState b == 0)) && (d.nextSet b).contains s)

/-- The next slice to park: the highest that qualifies. -/
def Dev.parkCandidate (d : Dev) : Option Nat :=
  ((List.range 16).filter fun s => d.get (Obj.sliceState s) == 0 && !d.basinNeeds s).getLast?

/-- A slice is PARKING. -/
def Dev.parking (d : Dev) : Bool := (List.range 16).any fun s => d.get (Obj.sliceState s) == 1

/-- The next park starts, unless slices are being unparked; when none is left, PARK_SHORTFALL is reported. It then reads so until the
next park or unpark of a transition (DESIGN CHOICE, log entry 98). -/
def Dev.parkNext (d : Dev) : Dev :=
  match d.modes.parkTo with
  | none => d
  | some t =>
    if d.modes.unpark ≠ [] ∨ d.parking then d
    else
      let stop := (d.setModes fun m => { m with parkTo := none, lullEntry := false }).put Obj.parkShortfall (d.activeCount - t)
      if d.activeCount ≤ t then stop
      else match d.parkCandidate with
        | some s => (d.put (Obj.sliceState s) 1).backLines (d.atHome s)
        | none => stop

/-- Slices that are PARKED. -/
def Dev.parkedSlices (d : Dev) : List Nat := (List.range 16).filter fun s => d.get (Obj.sliceState s) == 2

/-- Slices that unpark, and the lines that move back with the first of them. -/
def Dev.unparkNow (l : List Nat) (d : Dev) : Dev :=
  let d := d.unparkAll l
  match d.modes.unpark with
  | [] => d
  | s :: _ => d.backLines (d.comingHome s)

/-- Basins that waited for a slice and have the whole set ACTIVE become UP (R164). -/
def Dev.basinsReady (d : Dev) : Dev :=
  d.forEach ((List.range 64).filter fun b => (d.basin b).enabling &&
    (d.nextSet b).all fun s => d.get (Obj.sliceState s) == 0) fun b d =>
    let e := (d.setBasin b fun x => { x with enabling := false }).basinUp b
    if d.basinState b = 0 then e else e.basinEvent b

/-- Parks that were under way end with their slice ACTIVE (R37, R39): it need not be unparked, Basins that waited for it go on, and so
does the next slice that is to return. -/
def Dev.settleUnparks (d : Dev) : Dev :=
  let d := d.settleSlices
  let d := d.setModes fun m => { m with unpark := m.unpark.filter fun s => d.get (Obj.sliceState s) != 0 }
  (d.basinsReady).unparkNow []

/-! Settings of a transition (Table 2.4, R469). -/

/-- The outputs of the crossbar. -/
def allPorts : List Nat := List.range 196

/-- Settings whose quiesce point is reached as soon as they start. -/
def Dev.quickSettings (x : Settings) (d : Dev) : Dev :=
  (d.putAll [(Obj.voqDepthInForce, x.depth), (Obj.arbPolicyInForce, x.policy), (Obj.craneShareInForce, x.share)]).putIf d.service
    Obj.nearSharerInForce x.near |>.putIf d.service Obj.prefetchInForce x.prefetch |>.sendPrio allPorts (.policy x.policy)

/-- The rate that a quay runs at under the cap in force: no higher than its partner and protocol allow. -/
def Dev.wantedRate (d : Dev) (q : Nat) : Nat := min (d.rateCap q) (d.quay q).topRate

/-- A quay that needs a rate change. -/
def Dev.rateChanges (d : Dev) (q : Nat) : Bool := d.isUp q && (d.quay q).rate != d.wantedRate q

/-- Wharves with a quay whose rate changes. -/
def Dev.rateWharves (d : Dev) : List Nat := (List.range 32).filter fun w => (d.quaysOfWharf w).any d.rateChanges

/-- A wharf starts to retrain: every quay of it that needs a change. -/
def Dev.retrainRates (w : Nat) (d : Dev) : Dev :=
  d.forEach ((d.quaysOfWharf w).filter d.rateChanges) fun q d => d.startRetrain q .rate

/-- At most 4 wharves retrain at once, in increasing number. -/
def Dev.nextWharves (d : Dev) : Dev :=
  match d.modes.trans with
  | none => d
  | some t =>
    let go := t.waitWharves.take (4 - t.nowWharves.length)
    (d.setTrans (some { t with waitWharves := t.waitWharves.drop go.length, nowWharves := t.nowWharves ++ go })).forEach go
      Dev.retrainRates

/-- Slices that are PARKING. -/
def Dev.parkingSlices (d : Dev) : List Nat := (List.range 16).filter fun s => d.get (Obj.sliceState s) == 1

/-- Slices that the target mode wants ACTIVE: parks in Lean down to its target, unparks up to it otherwise, the lowest-numbered parked
slices first (DESIGN CHOICE, log entry 98). A slice that is PARKING returns once it is PARKED. -/
def Dev.startSlices (want : Nat) (d : Dev) : Dev :=
  if want < d.activeCount then (d.setModes fun x => { x with parkTo := some want }).parkNext
  else
    let more := want - d.activeCount - (d.modes.unpark.filter fun s => d.get (Obj.sliceState s) != 1).length
    ((d.setModes fun x => { x with parkTo := none }).put Obj.parkShortfall 0).unparkNow (d.parkingSlices ++ d.parkedSlices.take more)

/-- Every enabled Basin that is UNUSED becomes UP at the entry to a service mode (R164, R173). -/
def Dev.enableBasins (d : Dev) : Dev :=
  d.forEach ((List.range 64).filter fun b => d.get (Obj.basinEnable b) == 1 && d.basinState b == 0 &&
    !(d.nextSet b).any fun s => d.sliceFenced s) Dev.enableBasin

/-- The settings of a transition start, as the target's profile stands (R469): those that need no quiesce point at once, rates wharf
by wharf, parks slice by slice. The power limit that applied holds until the next control update. -/
def Dev.takeSettings (t : Transition) (limit : Nat) (d : Dev) : Dev :=
  let x := d.settingsOf t.target
  let t := { t with taken := x, powerFrom := some limit }
  let d := (d.setTrans (some t)).quickSettings x
  let d := (d.setTrans (some { t with waitWharves := d.rateWharves.filter fun w => !t.nowWharves.contains w })).nextWharves
  d.startSlices x.slices

/-- The profile has been written since the transition took its settings. -/
def Dev.outOfDate (d : Dev) (t : Transition) : Bool := t.taken != d.settingsOf t.target

/-- What the profile holds now is taken in place of what the transition took before (R30). -/
def Dev.retake (t : Transition) (d : Dev) : Dev := if d.outOfDate t then d.takeSettings t d.powerLimit else d

/-- CURRENT_MODE changes to a service mode, with the profile as it stands (R30, R134, R175): near-sharer forwarding and the prefetcher
follow it, gate lists run, and enabled Basins become UP. -/
def Dev.enterService (t : Transition) (d : Dev) : Dev :=
  let m := t.target
  let was := d.scanned
  let d := d.putAll [(Obj.currentMode, m), (Obj.lastChangeTime, d.time), (Obj.nearSharerInForce, d.get (Obj.nearSharer m)),
    (Obj.prefetchInForce, d.get (Obj.prefetch m))]
  (((d.retake t).startGates).enableBasins).scanEnds was

/-- Every setting has taken effect. -/
def Dev.transSettled (d : Dev) (t : Transition) : Bool :=
  !t.endingLull && t.powerFrom.isNone && t.waitWharves.isEmpty && t.nowWharves.isEmpty && d.modes.parkTo.isNone && d.modes.unpark.isEmpty && !d.parking

/-- The objects that the commit at the end of a transition changes. -/
def modeObjs : List Nat :=
  [Obj.currentMode, Obj.targetMode, Obj.powerState, Obj.transitionStatus, Obj.lastChangeTime, Obj.debugLevel, Obj.debugAuthorised,
   Obj.voqDepthInForce, Obj.arbPolicyInForce, Obj.nearSharerInForce, Obj.prefetchInForce, Obj.craneShareInForce]

/-- From Slipway, the mode is in force once every setting other than lane rate and parking has taken effect (R33). -/
def Dev.putInForce (d : Dev) : Dev :=
  match d.modes.trans with
  | none => d
  | some t =>
    if d.entering && !t.endingLull && t.powerFrom.isNone && d.modes.unpark.isEmpty then
      d.devCommit modeObjs (Dev.enterService t)
    else d

/-- A transition that has settled ends: TRANSITION_STATUS reads IDLE and, between service modes, CURRENT_MODE changes in the
same commit (R33), and the stored gate lists start in the mode entered (R123). LAST_CHANGE_TIME is that commit's time, in a live
transition to the same mode too (DESIGN CHOICE, log entry 98). A profile written on the way is taken first (R30). -/
def Dev.checkIdle (d : Dev) : Dev :=
  match d.modes.trans with
  | none => d
  | some t =>
    if t.toDrydock || !d.transSettled t then d
    else if d.outOfDate t then d.retake t
    else d.devCommit modeObjs fun d =>
      let e := (d.setTrans none).put Obj.transitionStatus 0
      if t.fromSlipway then e
      else
        let e := e.putAll [(Obj.currentMode, t.target), (Obj.lastChangeTime, d.time)]
        if t.target = d.mode then e else e.startGates

/-- What a setting that has taken effect brings about (R33). -/
def Dev.settle (d : Dev) : Dev := d.putInForce.checkIdle

/-- The settings of a transition start (R469). -/
def Dev.startSettings (d : Dev) : Dev :=
  match d.modes.trans with
  | none => d
  | some t => (d.takeSettings { t with endingLull := false } (t.powerFrom.getD d.powerLimit)).settle

/-! Drydock (R381, Table 12.17). -/

/-- The session that holds D2 or D3. -/
def Dev.dockHolder (d : Dev) : Option (Nat × Nat) := d.bw.holders.find? fun h => decide (2 ≤ h.2)

/-- Drydock is in force: IDE keys are zeroised, other sessions end, and the level takes effect. At D3 every session but those
of credential 63 ends, and every volatile CSP is zeroised; at D2 the DRBG is reseeded. A level that ended on the way is the loss of
debug authorisation (R364). -/
def Dev.enterDrydock (d : Dev) : Dev :=
  let h := d.dockHolder.getD (0, 0)
  let d := ((d.setTrans none).setModes fun m => { m with autoLive := false }).putAll
    [(Obj.currentMode, 4), (Obj.targetMode, 4), (Obj.lastChangeTime, d.time)]
  let d := d.setBw fun b => { b with holders := b.holders.filter fun x => decide (2 ≤ x.2) }
  let d := (d.insecureAll).cutSessions fun s => if h.2 = 3 then s.cred != 63 else s.slot != h.1
  (if h.2 = 2 then d.reseed else d.clearEnclave).showLevel.leaveDock

/-! Transitions (R26 to R28, R39). -/

/-- A transition is accepted, with the power limit that was in force. In Lull every parked slice is unparked first (R39). -/
def Dev.beginTransition (target : Nat) (dock : Bool) (limit : Nat) (d : Dev) : Dev :=
  let t : Transition := { target := target, fromSlipway := d.mode == 0, toDrydock := dock, powerFrom := some limit }
  let d := (d.put Obj.targetMode target).putIf (!dock) Obj.transitionStatus 1
  if d.power = 1 then
    let d := (d.settleUnparks).setModes fun m => { m with
      trans := some { t with endingLull := true }, parkTo := none, lullEntry := false }
    if d.parkedSlices = [] ∧ d.modes.unpark = [] then
      let d := ((d.put Obj.powerState 0).setModes fun m => { m with lullExit := false }).answerFull
      if dock then d.enterDrydock else (d.setTrans (some t)).startSettings
    else d.unparkNow d.parkedSlices
  else if dock then d.enterDrydock
  else (d.setTrans (some t)).startSettings

/-- WRONG_MODE before BUSY (R27). -/
def modeCheck (allowed : Bool) (d : Dev) : Nat :=
  if !allowed then Status.wrongMode else if d.inTransition then Status.busy else Status.success

/-- SERVICE_GO: in Slipway, not in Standby, with the Ledger configured, and not in Scrapped (R26, R39, R188, R362). -/
def checkServiceGo (_ : Call) (_ : Nat) (d : Dev) : Nat :=
  modeCheck (d.mode == 0 && d.power != 2 && d.get Obj.ledgerState != 0 && d.get Obj.lifecycle != 3) d

def actServiceGo : Act :=
  { check := checkServiceGo
    effect := fun _ v n d => d.marking modeObjs n fun d =>
      (d.setModes fun m => { m with autoLive := false }).beginTransition v false d.powerLimit }

def execServiceGo (c : Call) (v : Nat) (s : State) : Host.Outcome State Fault Refusal := writeRow actServiceGo c Obj.serviceGo v s

/-- MODE_CHANGE: from a service mode to another. -/
def actModeChange : Act :=
  { check := fun _ v d => modeCheck (d.service && v != d.mode) d
    effect := fun _ v n d => d.marking modeObjs n (Dev.beginTransition v false d.powerLimit) }

def execModeChange (c : Call) (v : Nat) (s : State) : Host.Outcome State Fault Refusal := writeRow actModeChange c Obj.modeChange v s

/-- ENTER_DRYDOCK: in Slipway, from the session that holds D2 or D3 (R363, R381). -/
def actEnterDrydock : Act :=
  { check := fun c _ d => modeCheck (d.mode == 0 && (d.dockHolder.map (·.1)) == some (callerSlot c.caller)) d
    effect := fun _ _ n d => d.marking modeObjs n fun d =>
      (d.setModes fun m => { m with autoLive := false }).beginTransition 4 true d.powerLimit }

def execEnterDrydock (c : Call) (v : Nat) (s : State) : Host.Outcome State Fault Refusal :=
  writeRow actEnterDrydock c Obj.enterDrydock v s

/-- RECOVERY_RESET: in Salvage (Table 2.2). -/
def actRecoveryReset : Act :=
  { check := fun _ _ d => if d.mode = 5 then Status.success else Status.wrongMode
    effect := fun c _ n d => d.marking modeObjs n fun d => (d.put Obj.targetMode 0).later (.reset c.env) }

def execRecoveryReset (c : Call) (v : Nat) (s : State) : Host.Outcome State Fault Refusal :=
  messageRow actRecoveryReset c Obj.recoveryReset v s

/-- LEAVE_DRYDOCK: in Drydock. -/
def actLeaveDrydock : Act :=
  { check := fun _ _ d => if d.mode = 4 then Status.success else Status.wrongMode
    effect := fun c _ n d => d.marking modeObjs n fun d => (d.put Obj.targetMode 0).later (.reset c.env) }

def execLeaveDrydock (c : Call) (v : Nat) (s : State) : Host.Outcome State Fault Refusal :=
  messageRow actLeaveDrydock c Obj.leaveDrydock v s

/-- A profile object takes its value; that of the mode in force starts a live transition to the same mode (R30). -/
def actProfile (m o : Nat) : Act :=
  { check := fun _ _ d => if d.mode = m ∧ d.inTransition then Status.busy else Status.success
    effect := fun _ v n d =>
      let e := d.put o (d.storedOf o v)
      if d.mode = m then e.marking modeObjs n (Dev.beginTransition m false d.powerLimit) else e }

/-- PROFILE_WRITE. -/
def execProfileWrite (c : Call) (m : Fin 3) (sub : Fin 10) (v : Nat) (s : State) : Host.Outcome State Fault Refusal :=
  writeRow (actProfile (m + 1) (0xD11000 + 4096 * m.val + sub)) c (0xD11000 + 4096 * m.val + sub) v s

/-- A quay of a wharf whose rate change is done takes its rate under the cap. -/
def Dev.endRate (q : Nat) (d : Dev) : Dev :=
  if (d.quay q).retrain = some .rate then
    (d.setQuay q fun k => { k with rate := d.wantedRate q }).finishRetrain q (d.quay q).width 0
  else d

/-- WHARF_RETRAIN_DONE: not while the wharf has no clock, when its quays stay HELD (R17). -/
def effWharfRetrainDone (w : Nat) (d : Dev) : Dev :=
  match d.modes.trans with
  | none => d
  | some t =>
    if t.nowWharves.contains w && d.wharfRuns w then
      let d := d.forEach (d.quaysOfWharf w) Dev.endRate
      ((d.setTrans (some { t with nowWharves := t.nowWharves.filter (· != w) })).nextWharves).settle
    else d

def execWharfRetrainDone (w : Fin 32) (s : State) : Host.Outcome State Fault Refusal := liveLift (effWharfRetrainDone w) s

/-! Slices park and return. -/

/-- SLICE_PARK_DONE: once every line is written back and nothing is open in it, the slice is PARKED, and the next one starts. -/
def effSliceParkDone (s : Nat) (d : Dev) : Dev :=
  if d.get (Obj.sliceState s) ≠ 1 then d
  else if d.busyFor (d.atHome s) ∨ (d.slice s).working then d.backLines (d.atHome s)
  else
    let d := d.parkSlice s
    let d := d.setModes fun m => { m with lullParked := if m.lullEntry then m.lullParked ++ [s] else m.lullParked }
    ((if d.modes.unpark = [] then d else d.unparkNow []).parkNext).settle

def execSliceParkDone (s : Fin 16) (st : State) : Host.Outcome State Fault Refusal := liveLift (effSliceParkDone s) st

/-- Every slice that was to return has: Lull ends, and a transition that waited for that goes on. -/
def Dev.unparked (d : Dev) : Dev :=
  if d.modes.unpark ≠ [] then d
  else
    let leaving := d.modes.lullExit || ((d.modes.trans.map (·.endingLull)).getD false)
    let d := ((d.putIf (leaving && d.power == 1) Obj.powerState 0).setModes fun m => { m with lullExit := false }).answerFull.admitHeld
    match d.modes.trans with
    | some t => if t.endingLull then (if t.toDrydock then d.devCommit modeObjs Dev.enterDrydock else d.startSettings)
                else d.parkNext.settle
    | none => d.parkNext

/-- A return whose last slice has been fenced ends (DESIGN CHOICE, log entry 98: at the next control update). -/
def Dev.endReturn (d : Dev) : Dev :=
  if d.modes.unpark = [] ∧ (d.modes.lullExit = true ∨ (d.modes.trans.map (·.endingLull)) = some true) then d.unparked else d

/-- POWER_CONTROL_UPDATE (R329): the power limit of a transition takes effect. -/
def effPowerControlUpdate (d : Dev) : Dev := ((d.takeLimit.controlUpdate).endReturn).settle

def execPowerControlUpdate (s : State) : Host.Outcome State Fault Refusal := liveLift effPowerControlUpdate s

/-- SLICE_UNPARK_DONE: the slice takes back its slots, and requests held at ingress go on. -/
def effSliceUnparkDone (s : Nat) (d : Dev) : Dev :=
  if d.modes.unpark.head? ≠ some s ∨ d.get (Obj.sliceState s) ≠ 3 then d
  else if d.busyFor (d.comingHome s) then d.backLines (d.comingHome s)
  else
    let d := (d.returnSlice s).setModes fun m => { m with unpark := m.unpark.drop 1, lullParked := m.lullParked.filter (· != s) }
    ((d.basinsReady).unparkNow []).unparked

def execSliceUnparkDone (s : Fin 16) (st : State) : Host.Outcome State Fault Refusal := liveLift (effSliceUnparkDone s) st

/-! Lull (R36, R37). -/

/-- No quay has a message in the core, or a request of the device's own that waits or is open. -/
def Net.idle (n : Net) : Bool :=
  n.voq.isEmpty && n.backlog.isEmpty && n.egress.isEmpty && n.inbox.isEmpty && n.waiting.isEmpty && n.orig.isEmpty

/-- A queue has no entry that has been fetched and is not complete, and nothing left to write. -/
def Queue.idle (q : Queue) : Bool := q.cache.isEmpty && q.exec.isEmpty && !q.headDue && !q.noticeDue

/-- Every quay and every Crane queue is idle (R36): nothing that arrived at one is still in the device. -/
def Dev.idle (d : Dev) : Bool :=
  d.net.idle && (List.range 16).all (fun s => !(d.slice s).working) && d.coh.held.isEmpty && d.customs.held.isEmpty &&
    d.pool.walks.isEmpty && d.pool.walkQueue.isEmpty && d.crane.queues.all Queue.idle && d.crane.accs.isEmpty

/-- LULL_ENTRY: every quay and queue has been idle for LULL_IDLE_TIME. -/
def effLullEntry (d : Dev) : Dev :=
  if d.get Obj.lullEnable = 1 ∧ d.power = 0 ∧ (d.mode = 0 ∨ d.service) ∧ !d.inTransition ∧ d.modes.unpark = [] ∧ d.modes.parkTo = none ∧
      d.idle then
    ((d.put Obj.powerState 1).setModes fun m => { m with
      lullEntry := true, lullParked := [], parkTo := some (d.get Obj.lullActiveSlices) }).parkNext
  else d

def execLullEntry (s : State) : Host.Outcome State Fault Refusal := liveLift effLullEntry s

/-- Slices parked for Lull return; with none, the state is Full at once. -/
def Dev.leaveLull (d : Dev) : Dev :=
  if d.modes.lullParked = [] then ((d.put Obj.powerState 0).answerFull).admitHeld
  else (d.setModes fun m => { m with lullExit := true }).unparkNow d.modes.lullParked

/-- LULL_EXIT: the first request at a quay or a Crane queue. -/
def effLullExit (d : Dev) : Dev := if d.power = 1 ∧ !d.modes.lullEntry ∧ !d.modes.lullExit then d.leaveLull else d

def execLullExit (s : State) : Host.Outcome State Fault Refusal := liveLift effLullExit s

/-- LULL_ENTRY_ABORT: a request during the entry; a slice that was PARKING stays ACTIVE. -/
def effLullEntryAbort (d : Dev) : Dev :=
  if d.power = 1 ∧ d.modes.lullEntry then
    ((d.settleUnparks).setModes fun m => { m with lullEntry := false, parkTo := none }).leaveLull
  else d

def execLullEntryAbort (s : State) : Host.Outcome State Fault Refusal := liveLift effLullEntryAbort s

/-- New work in Lull (R36, R37): it ends an entry that is under way, or Lull. -/
def Dev.endLull (d : Dev) : Dev := if d.modes.lullEntry then effLullEntryAbort d else effLullExit d

/-- MESSAGE_ADMISSION (R97, R262, Table 1.7): a request that arrives on a quay in Lull ends Lull, and waits at its ingress until the
slices are back (R36). -/
def effMessageAdmission (q : Nat) (m : Msg) (d : Dev) : Dev :=
  (if d.power = 1 ∧ d.isUp q ∧ !isResponse m.chan then d.endLull else d).admitMessage q m

def execMessageAdmission (q : Fin 128) (m : Msg) (s : State) : Host.Outcome State Fault Refusal :=
  liveLift (effMessageAdmission q m) s

/-- PBR_FLIT_ROUTE: a request that arrives on a Fabric quay in Lull ends it too, and waits at its ingress. -/
def execPbrFlitRoute (q : Fin 128) (id : Nat) (m : Msg) (s : State) : Host.Outcome State Fault Refusal :=
  liveLift (fun d => effPbrFlitRoute q id m (if d.power = 1 ∧ d.isUp q ∧ !isResponse m.chan then d.endLull else d)) s

/-- A request of a host that reaches its home in Lull ends it, and waits until the slices are back (R36). -/
def Dev.wakeFor (a : Access) (d : Dev) : Dev := if d.power = 1 ∧ !d.stranded a then d.endLull else d

/-- HOST_BASIN_REQUEST (R146, Table 6.4). -/
def execHostBasinRequest (b : Fin 64) (line : Nat) (r : BasinReq) (s : State) : Host.Outcome State Fault Refusal :=
  liveLift (fun d => effHostBasinRequest b line r (d.wakeFor (d.basinAccess b line r))) s

/-- HOST_PRIVATE_WRITE (R201, R202). -/
def execHostPrivateWrite (a : Access) (s : State) : Host.Outcome State Fault Refusal :=
  liveLift (fun d => effHostPrivateWrite a (d.wakeFor a)) s

/-- In Lull, a posted entry that a poll has found ends it; the descriptor waits until the slices are back (R36). -/
def Dev.wakeForQueues (d : Dev) : Dev := if d.power = 1 ∧ d.crane.queues.any (·.cache != []) then d.endLull else d

/-- QUEUE_POLL (R235): `l` is what the memory holds from the fetch position on, and without `ok` the read after that ends with an
error. In Lull a posted entry ends Lull, and is fetched when the slices are back (R36). -/
def effQueuePoll (i qid : Nat) (l : List Nat) (ok : Bool) (d : Dev) : Dev :=
  let mem := l.map some ++ (if ok then [] else [none])
  (d.pollQueue i qid mem).wakeForQueues

def execQueuePoll (inst : Fin 4096) (qid : Nat) (posted : List Nat) (ok : Bool) (s : State) :
    Host.Outcome State Fault Refusal := liveLift (effQueuePoll inst qid posted ok) s

/-! Power states on request (R38, R372). -/

/-- A change of power state is in progress. -/
def Dev.powerChanging (d : Dev) : Bool :=
  d.tide.rising.isSome || d.modes.lullEntry || d.modes.lullExit || d.modes.waitStandby.isSome

/-- The one request for Standby that may wait while Full is reached for the first time. -/
def Dev.mayWait (d : Dev) (v : Nat) : Bool := v == 2 && d.modes.ownPowerReq && d.modes.waitStandby.isNone

/-- POWER_STATE_REQUEST: its check. -/
def checkPowerState (_ : Call) (v : Nat) (d : Dev) : Nat :=
  if v = 2 ∧ d.service then Status.wrongMode
  else if d.inTransition ∨ (d.powerChanging ∧ !d.mayWait v) then Status.busy
  else Status.success

/-- A request for Full in Lull ends Lull. -/
def Dev.requestPower (slot : Nat) (prebias v n : Nat) (d : Dev) : Dev :=
  if d.powerChanging then d.setModes fun m => { m with waitStandby := some (slot, n) }
  else if v = 2 then (if d.power = 2 then d else (d.answerReady slot n 0 0).enterStandby)
  else if d.power = 2 then (d.setModes fun m => { m with powerReq := some (slot, n) }).startFull prebias
  else if d.power = 1 then (d.setModes fun m => { m with powerReq := some (slot, n) }).leaveLull
  else d

def actPowerState : Act :=
  { check := checkPowerState
    effect := fun c v n d => d.marking modeObjs n (Dev.requestPower (callerSlot c.caller) c.env.prebias v n)
    reply := fun _ v _ d => if d.powerChanging ∨ v ≠ d.power then .deferred else .none }

def execPowerStateRequest (c : Call) (v : Nat) (s : State) : Host.Outcome State Fault Refusal :=
  writeRow actPowerState c Obj.powerStateRequest v s

/-! Autostart (R29, R377). -/

/-- Autostart acts as a device commit; a refusal is told to the managers, and it is not tried again. -/
def Dev.autostart (d : Dev) : Dev :=
  let v := d.get Obj.autostartMode
  let st := checkServiceGo { caller := .device, len := 1 } v d
  let n := d.nextSeq
  let d := (d.takeSeq).setModes fun m => { m with autoLive := false }
  if st = Status.success then d.marking modeObjs n (Dev.beginTransition v false d.powerLimit)
  else d.raise (info 0 0x8003 0 0xFFFF (st + n * 2 ^ 64))

/-- The delay that AUTOSTART_DELAY holds now has elapsed (R29). -/
def Dev.autoDue (d : Dev) : Bool := (d.modes.autoElapsed.map fun t => decide (d.get Obj.autostartDelay ≤ t)).getD false

/-- It acts if nothing keeps it waiting. -/
def Dev.tryAutostart (d : Dev) : Dev :=
  if d.modes.autoLive ∧ d.autoDue ∧ d.get Obj.autostartEnable = 1 ∧ d.mode = 0 ∧ d.power ≠ 2 ∧
      (d.get Obj.ledgerState ≠ 0 ∨ d.get Obj.lifecycle = 3) then d.autostart
  else d

/-- AUTOSTART: its delay, as AUTOSTART_DELAY holds it now, has elapsed, which runs from the first entry to Full in the stay (R29). A
longer delay written later must elapse too. -/
def effAutostart (d : Dev) : Dev :=
  if d.modes.autoRuns then (d.setModes fun m => { m with autoElapsed := some (d.get Obj.autostartDelay) }).tryAutostart else d

def execAutostart (s : State) : Host.Outcome State Fault Refusal := liveLift effAutostart s

/-- RAIL_POWER_GOOD: with the last rail Full is reached, and an autostart that has waited for it acts (R377). -/
def execRailPowerGood (r : Fin 6) (nextGood : Bool) (s : State) : Host.Outcome State Fault Refusal :=
  liveLift (fun d => (effRailPowerGood r nextGood d).tryAutostart) s

/-- LEDGER_INIT and LEDGER_ADOPT (R188): a waiting autostart acts directly after the message (R377). -/
def actLedgerStart (f : Dev → Dev) : Act :=
  { check := fun _ _ d => checkSlipway d
    effect := fun _ _ n d => d.marking [Obj.ledgerState] n f }

/-- The autostart commit follows the response. -/
def ledgerRow (f : Dev → Dev) (c : Call) (o v : Nat) (s : State) : Host.Outcome State Fault Refusal :=
  liveLift (fun d => (Dev.manifestWrite (actLedgerStart f) c o v d).tryAutostart) s

def execLedgerInit (c : Call) (v : Nat) (s : State) : Host.Outcome State Fault Refusal := ledgerRow Dev.ledgerInit c Obj.ledgerInit v s

def execLedgerAdopt (c : Call) (v : Nat) (s : State) : Host.Outcome State Fault Refusal :=
  ledgerRow Dev.ledgerAdopt c Obj.ledgerAdopt v s

end Sys2Proof.Machine
end

