-- ==== Sys2Proof/Machine/Decisions.lean ====
section
/-!
DEFINITION. The function split: verdicts, and the writes of a function's mode and limit (R40 to R44).
-/

namespace Sys2Proof.Machine

open Sys2Proof

/-- The fields of DECISION (Table 2.8). -/
structure Ruling where
  token : Nat
  fn : Nat
  verdict : Nat
  arg : Nat
  deriving DecidableEq, Repr

def verdictOf (v : Nat) : Ruling := { token := bytesAt v 0 2, fn := byteAt v 2, verdict := byteAt v 3, arg := bytesAt v 8 8 }

/-- The pending operation that a decision names. -/
def Dev.decided (d : Dev) (v : Ruling) : Option Decision :=
  d.modes.decisions.find? fun x => x.token == v.token && x.fn == v.fn

/-- The capacity request of a function 1 operation. -/
def Dev.capOf (d : Dev) (x : Decision) : Option CapReq := d.pool.caps.find? fun r => r.target == x.subject && !r.zeroWait

/-- A width that ARGUMENT may name (R69). -/
def widthOk (w : Nat) : Bool := w == 1 || w == 2 || w == 4 || w == 8 || w == 16

/-- An ALTERNATIVE that the function takes. The bytes of ARGUMENT that it does not use are 0 (R40). -/
def Dev.altOk (d : Dev) (x : Decision) (arg : Nat) : Bool :=
  match x.fn with
  | 1 => match d.capOf x with
    | some r => d.capAltOk r (bits arg 0 32) (bits arg 32 4)
    | none => true
  | 2 => decide (arg ≤ 3) && arg != d.tierOf (d.ledgerAt (x.subject % 2 ^ 32))
  | 3 => (d.unpinned (x.subject % 16) (x.subject / 16)).any fun e => e.way == arg
  | 4 => match d.windowOf x.token with
    | some w => (errRow w.err).allowed.contains arg
    | none => true
  | 5 => widthOk arg && ((d.widest x.subject).map fun p => decide (arg ≤ p.1)).getD false
  | 6 => decide (1 ≤ arg ∧ arg ≤ 100)
  | _ => true

/-- DECISION's judgement (R40): an undefined function or verdict, or an ALTERNATIVE that is not taken, is BAD_VALUE, and a token
that is not pending is stale. -/
def checkDecision (v : Ruling) (d : Dev) : Nat :=
  if v.fn = 0 ∨ 7 < v.fn ∨ 2 < v.verdict then Status.badValue
  else match d.decided v with
    | none => Status.staleDecision
    | some x => if x.stale then Status.staleDecision else if v.verdict = 2 ∧ !d.altOk x v.arg then Status.badValue else Status.success

/-- The way of an ACCEPT: the proposed one, or the pseudo-LRU way when it has been pinned since, of which the spec says nothing
(DESIGN CHOICE, log entry 102). -/
def Dev.victimWay (d : Dev) (s set w : Nat) : Nat :=
  if (d.unpinned s set).any fun e => e.way == w then w else (d.lruWay s set).getD w

/-- A verdict for a condition in WINDOW: ACCEPT takes no action. An action is the first commit after the message (R390). -/
def Dev.windowVerdict (x : Decision) (v : Ruling) (d : Dev) : Dev :=
  match d.windowOf x.token with
  | none => d
  | some w =>
    let d := d.closeWindow w
    match v.verdict with
    | 0 => d
    | 1 => d.later (.act w.action w.err w.record)
    | _ => d.later (.act (byteAt v.arg 0) w.err w.record)

/-- Function 5: retrain, or declare the quay down. -/
def Dev.widthVerdict (q : Nat) (v : Ruling) (d : Dev) : Dev :=
  match v.verdict with
  | 1 => d.declareDown q .command
  | 2 => d.startRetrain q (.width (byteAt v.arg 0))
  | _ => match d.widest q with
    | some p => d.startRetrain q (.width p.1)
    | none => (d.put (Obj.failedLanes q) 0).startRetrain q .all

/-- A verdict is carried out (Table 2.7). -/
def Dev.carryOut (x : Decision) (v : Ruling) (d : Dev) : Dev :=
  let d := d.closeOp x.token
  match x.fn with
  | 1 => match d.capOf x with
    | some r => match v.verdict with
      | 0 => d.capAccept r
      | 1 => d.capReject r
      | _ => d.capAlternative r (bits v.arg 0 32) (bits v.arg 32 4)
    | none => d
  | 2 => match v.verdict with
    | 0 => d.tierMove (x.subject % 2 ^ 32) x.proposal
    | 1 => d
    | _ => d.tierMove (x.subject % 2 ^ 32) (byteAt v.arg 0)
  | 3 =>
    let s := x.subject % 16
    let set := x.subject / 16
    match v.verdict with
    | 0 => d.takeVictim s set (d.victimWay s set x.proposal)
    | 1 => d.takeVictim s set ((d.lruWay s set).getD 0)
    | _ => d.takeVictim s set (byteAt v.arg 0)
  | 4 => d.windowVerdict x v
  | 5 => d.widthVerdict x.subject v
  | 6 => match v.verdict with
    | 0 => d.slotVerdict x.subject true none
    | 1 => d.slotVerdict x.subject false none
    | _ => d.slotVerdict x.subject true (some (bytesAt v.arg 0 2))
  | 7 => d.ruleEntry x.subject v.verdict
  | _ => d

/-- A decision, by any way that reaches the device. -/
def Dev.giveRuling (v : Ruling) (d : Dev) : Dev :=
  match d.decided v with
  | some x => d.carryOut x v
  | none => d

/-- DECISION. -/
def actDecision : Act :=
  { check := fun _ v d => checkDecision (verdictOf v) d
    effect := fun _ v _ d => d.giveRuling (verdictOf v) }

/-- A verdict that was refused as stale closes the operation of a page since released or remapped (R221). -/
def closeStale (o v : Nat) (r : Dev × OpAnswer) : Dev × OpAnswer :=
  if o = Obj.decision ∧ r.2.status = Status.staleDecision then
    (r.1.setModes fun m => { m with decisions := m.decisions.filter fun x =>
      !(x.token == (verdictOf v).token && x.fn == (verdictOf v).fn && x.stale) }, r.2)
  else r

/-- One WRITE or WRITE_CAS as a message of its own; a verdict that it refuses as stale closes the operation (R221). -/
def Dev.zmpWrite (a : Act) (c : Call) (o v : Nat) (d : Dev) : Dev :=
  if d.callerOpen c.caller then
    let r := closeStale o v (d.manifestOp a c o v)
    r.1.send (.answer c.caller r.2)
  else d

def execDecision (c : Call) (v : Nat) (s : State) : Host.Outcome State Fault Refusal :=
  liveLift (fun d => (d.zmpWrite actDecision c Obj.decision v).endMessage) s

/-- The instance of a function 7 operation. -/
def Dev.ownsToken (d : Dev) (i token : Nat) : Bool :=
  d.modes.decisions.any fun x => x.token == token && x.fn == 7 && x.subject % 2 ^ 16 == i

/-- HOST_DECISION (R244): a verdict for a token of the instance's own queues; any other write is ignored. -/
def effHostDecision (i token verdict : Nat) (d : Dev) : Dev :=
  if d.ownsToken i token ∧ verdict ≤ 2 then d.giveRuling { token := token, fn := 7, verdict := verdict, arg := 0 } else d

def execHostDecision (inst : Fin 4096) (token verdict : Nat) (s : State) : Host.Outcome State Fault Refusal :=
  liveLift (effHostDecision inst token verdict) s

/-- Every condition in WINDOW receives its expiry default: the action is taken after the message (R390). -/
def Dev.expireWindows (d : Dev) : Dev :=
  d.faults.windows.foldl (fun d w => ((d.closeWindow w).expired 4 1).later (.act w.action w.err w.record)) d

/-- FUNCTION_MODE_WRITE (R43): every pending operation of the function receives its expiry default. -/
def actFunctionMode (f : Nat) : Act :=
  { effect := fun _ v _ d =>
      let d := d.put (Obj.functionMode f) v
      if f = 4 then d.expireWindows else d.expireAll Dev.salvageBy fun x => x.fn == f }

def execFunctionModeWrite (c : Call) (f : Fin 7) (v : Nat) (s : State) : Host.Outcome State Fault Refusal :=
  messageRow (actFunctionMode (f + 1)) c (Obj.functionMode (f + 1)) v s

/-- DECISION_LIMIT_WRITE (R43): pending operations keep the limit of their own. -/
def actDecisionLimit (f : Nat) : Act := storeAct (Obj.decisionLimit f)

def execDecisionLimitWrite (c : Call) (f : Fin 7) (v : Nat) (s : State) : Host.Outcome State Fault Refusal :=
  writeRow (actDecisionLimit (f + 1)) c (Obj.decisionLimit (f + 1)) v s

end Sys2Proof.Machine
end

