-- ==== Sys2Proof/Machine/Breakwater.lean ====
section
/-!
DEFINITION. Breakwater: images, SPDM, credentials and sessions, IDE keys, self-tests, zeroisation, lifecycle and debug
(R340 to R368).
-/

namespace Sys2Proof.Machine

open Sys2Proof

/-! Firmware fuses (R345). -/

/-- SVN of the running image. -/
def Dev.runningSvn (d : Dev) : Nat := (d.bw.running.map (·.svn)).getD 0

/-- SVN_COMMIT. -/
def actSvnCommit : Act :=
  { check := fun _ _ d => if d.runningSvn < d.get Obj.svnFused then Status.badValue else Status.success
    effect := fun _ _ n d => d.marking [Obj.svnFused] n (Dev.put Obj.svnFused d.runningSvn) }

def execSvnCommit (c : Call) (v : Nat) (s : State) : Host.Outcome State Fault Refusal := writeRow actSvnCommit c Obj.svnCommit v s

/-- KEY_SLOT_REVOKE: not the running image's slot, and not the last one. -/
def actKeySlotRevoke : Act :=
  { check := fun _ v d =>
      if (d.bw.running.map (·.keySlot)) = some v ∨ setBit (d.get Obj.keySlotsRevoked) v true = 15 then Status.badValue
      else Status.success
    effect := fun _ v n d =>
      d.marking [Obj.keySlotsRevoked] n (Dev.put Obj.keySlotsRevoked (setBit (d.get Obj.keySlotsRevoked) v true)) }

def execKeySlotRevoke (c : Call) (v : Nat) (s : State) : Host.Outcome State Fault Refusal :=
  writeRow actKeySlotRevoke c Obj.keySlotRevoke v s

/-! The SPDM responder (Table 12.6, R348, R351). `Out.proto 5` carries the request code, 0 or the SPDM error, and the answer. -/

abbrev SpdmErr.invalidRequest : Nat := 1
abbrev SpdmErr.unspecified : Nat := 5
abbrev SpdmErr.unsupported : Nat := 7
abbrev SpdmErr.sessionLimit : Nat := 10

def Dev.spdm (request status value : Nat) (d : Dev) : Dev := d.send (.proto 5 request status value)

/-- SPDM carried directly as an MCTP message of type 0x05 (R351). -/
def directSpdm (b : Binding) : Bool := decide (3 ≤ b.transport) && b.via.mctpType == 5

/-- An SPDM request reaches the responder: sent directly, or in a ZMP frame. -/
def Dev.hearsSpdm (d : Dev) (b : Binding) : Bool := (directSpdm b && d.hears b) || d.hearsFrame b

/-- A request of the responder, which a requester sends directly or in a ZMP frame (R295, R351). -/
def spdmRow (b : Binding) (f : Dev → Dev) (s : State) : Host.Outcome State Fault Refusal :=
  liveLift (fun d => if d.hearsSpdm b then f d else d) s

/-- No request is served: HARD_ERROR (Table 12.11), or Scrapped (R362). -/
def Dev.spdmOff (d : Dev) : Bool := d.get Obj.bwState == 3 || d.get Obj.lifecycle == 3

/-- An answer to a request: an error while none is served, else an answer or InvalidRequest. -/
def Dev.spdmAnswer (request : Nat) (a : Option Nat) (d : Dev) : Dev :=
  if d.spdmOff then d.spdm request SpdmErr.unspecified 0
  else match a with
    | some v => d.spdm request 0 v
    | none => d.spdm request SpdmErr.invalidRequest 0

/-- The Alias key is there to sign: it is until it is zeroised. -/
def Dev.signs (d : Dev) : Bool := d.bw.enclave.aliasKey.isSome

/-- A signed answer, with the random bits of its nonce. -/
def Dev.spdmSigned (request : Nat) (a : Option Nat) (d : Dev) : Dev :=
  if d.spdmOff ∨ !d.signs then d.spdm request SpdmErr.unspecified 0
  else match a with
    | some v => d.randomBits.spdm request 0 v
    | none => d.spdm request SpdmErr.invalidRequest 0

/-- GET_VERSION: 1.2 and 1.3. -/
def execGetVersion (b : Binding) (s : State) : Host.Outcome State Fault Refusal := spdmRow b (Dev.spdmAnswer 0x84 (some 0x1213)) s

/-- The capability flags of Table 12.6, by their SPDM 1.3 bits, and the CT exponent. -/
def spdmCapabilities : Nat := 0x66 + 0x10 + 0x80 + 0x100 + 0x200 + 0x400 + 0x2000 + 0x4000 + 0x80000 + 16 * 2 ^ 32

def execGetCapabilities (b : Binding) (s : State) : Host.Outcome State Fault Refusal :=
  spdmRow b (Dev.spdmAnswer 0xE1 (some spdmCapabilities)) s

/-- NEGOTIATE_ALGORITHMS: one bit for each item of Table 12.6 that the two sides must share. -/
def execNegotiateAlgorithms (b : Binding) (offered : Nat) (s : State) : Host.Outcome State Fault Refusal :=
  spdmRow b (Dev.spdmAnswer 0xE3 (if bits offered 0 2 = 3 then some (bits offered 0 5) else none)) s

/-- GET_DIGESTS: the slots that hold a chain, with digests of them: slot 0's chain ends in the Alias certificate of the boot (R346). -/
def effGetDigests (d : Dev) : Dev :=
  d.spdmAnswer 0x81 (some (d.get Obj.certSlots + 256 * Config.spdmAnswer 0x81 (d.bw.bootLayer + 2 ^ 512 * d.bw.chain1.getD 0)))

def execGetDigests (b : Binding) (s : State) : Host.Outcome State Fault Refusal := spdmRow b effGetDigests s

/-- GET_CERTIFICATE: slot 0 the Onadan chain, slot 1 the installed one. -/
def effGetCertificate (slot : Nat) (d : Dev) : Dev :=
  d.spdmAnswer 0x82 (if slot = 0 ∧ d.bw.certPresent then some (Config.spdmAnswer 0x82 d.bw.bootLayer) else if slot = 1 then d.bw.chain1 else none)

def execGetCertificate (b : Binding) (slot : Nat) (s : State) : Host.Outcome State Fault Refusal := spdmRow b (effGetCertificate slot) s

/-- A slot holds a chain. -/
def Dev.hasChain (d : Dev) (slot : Nat) : Bool := decide (slot < 2) && bitAt (d.get Obj.certSlots) slot

/-- CHALLENGE: signed by the Alias key. -/
def effChallenge (slot nonce : Nat) (d : Dev) : Dev :=
  d.spdmSigned 0x83 (if d.hasChain slot then some (Config.spdmAnswer 0x83 nonce) else none)

def execChallenge (b : Binding) (slot nonce : Nat) (s : State) : Host.Outcome State Fault Refusal := spdmRow b (effChallenge slot nonce) s

/-- A measurement block, from 1 on (Table 12.4). -/
def Dev.measurement (d : Dev) (index : Nat) : Nat := d.blocks.getD (index - 1) 0

/-- GET_MEASUREMENTS: 0 the number of blocks, 1 to 6 a block, 0xFF all of them, with a signature over them and the nonce. -/
def effGetMeasurements (index nonce : Nat) (d : Dev) : Dev :=
  d.spdmSigned 0xE0 (if index = 0 then some 6 else if index ≤ 6 then some (d.measurement index)
    else if index = 0xFF then some (Config.spdmAnswer 0xE0 (nonce + 2 ^ 256 * packBlocks d.blocks)) else none)

def execGetMeasurements (b : Binding) (index nonce : Nat) (s : State) : Host.Outcome State Fault Refusal :=
  spdmRow b (effGetMeasurements index nonce) s

/-! Credentials and sessions (R296, R348 to R350). -/

/-- CREDENTIAL k. -/
def Dev.cred (d : Dev) (k : Nat) : Nat := d.get (Obj.credential (k + 1))

/-- KIND, ROLE, ENABLED and KEY of a credential (Table 12.5). -/
def credKind (v : Nat) : Nat := byteAt v 0
def credRole (v : Nat) : Nat := byteAt v 1
def credOn (v : Nat) : Bool := bitAt (byteAt v 2) 0
def credKey (v : Nat) : Nat := bytesAt v 16 96
def credHint (v : Nat) : Nat := bytesAt v 64 16

/-- The credential that `p` selects among those enabled. -/
def Dev.findCred (d : Dev) (p : Nat → Bool) : Option Nat := (List.range 63).find? fun k => credOn (d.cred k) && p (d.cred k)

/-- PROVISIONING_OPEN (R350). -/
def Dev.provisioning (d : Dev) : Bool := (d.findCred fun v => credRole v == 3 && credKind v != 0).isNone

/-- The vendor credential authenticates only in Unsealed and Returned. -/
def Dev.vendorOk (d : Dev) (leaf : Nat) : Bool :=
  credKey Config.vendorCredential == leaf && (d.get Obj.lifecycle == 0 || d.get Obj.lifecycle == 2)

/-- The credential of a leaf key. -/
def Dev.credOfLeaf (d : Dev) (leaf : Nat) : Option Nat :=
  match d.findCred fun v => credKind v == 1 && credKey v == leaf with
  | some k => some k
  | none => if d.vendorOk leaf then some 63 else none

/-- The lowest free slot. -/
def Dev.freeSession (d : Dev) : Option Nat := ((List.range 16).map (· + 1)).find? fun n => (d.session n).isNone

/-- At D2 and D3 no new session opens, but those of credential 63 at D3 (Table 12.16). -/
def Dev.opensFor (d : Dev) (k : Nat) : Bool := d.get Obj.debugLevel < 2 || (d.get Obj.debugLevel == 3 && k == 63)

/-- A session opens for a credential. -/
def Dev.openSession (b : Binding) (request k : Nat) (d : Dev) : Dev :=
  if !d.opensFor k then d.spdm request SpdmErr.unspecified 0
  else match d.freeSession with
    | none => d.spdm request SpdmErr.sessionLimit 0
    | some n =>
      (d.randomBits.setMgmt fun m => { m with sessions := m.sessions ++
        [{ slot := n, credRole := if k = 63 then 4 else credRole (d.cred k), cred := k, binding := b.address, openTime := d.time }] }).spdm
        request 0 n

/-- R350: a party on the board's own management buses claims an unprovisioned part. -/
def Dev.claims (d : Dev) (b : Binding) : Bool := d.provisioning && d.mode == 0 && (b.transport == 3 || b.transport == 4)

/-- KEY_EXCHANGE. -/
def effKeyExchange (b : Binding) (k : KeyExchange) (d : Dev) : Dev :=
  if d.spdmOff then d.spdm 0xE4 SpdmErr.unspecified 0
  else if directSpdm b then d.spdm 0xE4 SpdmErr.unsupported 0
  else if !d.signs ∧ d.get Obj.debugLevel ≠ 3 then d.spdm 0xE4 SpdmErr.unspecified 0
  else if !k.proofOk then d.spdm 0xE4 SpdmErr.invalidRequest 0
  else match d.credOfLeaf k.leaf with
    | some n => d.openSession b 0xE4 n
    | none =>
      if !d.claims b then d.spdm 0xE4 SpdmErr.invalidRequest 0
      else if d.freeSession.isNone then d.spdm 0xE4 SpdmErr.sessionLimit 0
      else (d.commit [(Obj.credential 1, 1 + 3 * 2 ^ 8 + 2 ^ 16 + k.leaf % 2 ^ 768 * 2 ^ 128)]).openSession b 0xE4 0

def execKeyExchange (b : Binding) (k : KeyExchange) (s : State) : Host.Outcome State Fault Refusal := spdmRow b (effKeyExchange b k) s

/-- The pre-shared key of a credential, unwrapped from the store (R341). -/
def Dev.preShared (d : Dev) (k : Nat) : Option Nat :=
  match d.bw.enclave.kwk, d.bw.store.find? (·.1 == k) with
  | some w, some p => some (Config.keyUnwrap w p.2)
  | _, _ => none

/-- PSK_EXCHANGE. -/
def effPskExchange (b : Binding) (hint : Nat) (proofOk : Bool) (d : Dev) : Dev :=
  if d.spdmOff then d.spdm 0xE6 SpdmErr.unspecified 0
  else if directSpdm b then d.spdm 0xE6 SpdmErr.unsupported 0
  else match d.findCred fun v => credKind v == 2 && credHint v == hint with
    | some n => if proofOk ∧ (d.preShared n).isSome then d.openSession b 0xE6 n else d.spdm 0xE6 SpdmErr.invalidRequest 0
    | none => d.spdm 0xE6 SpdmErr.invalidRequest 0

def execPskExchange (b : Binding) (hint : Nat) (proofOk : Bool) (s : State) : Host.Outcome State Fault Refusal :=
  spdmRow b (effPskExchange b hint proofOk) s

/-- END_SESSION. -/
def effEndSession (slot : Nat) (d : Dev) : Dev :=
  if (d.session slot).isNone then d else (d.spdm 0xEC 0 slot).dropSession slot

def execEndSession (slot : Nat) (s : State) : Host.Outcome State Fault Refusal := liveLift (effEndSession slot) s

/-- KEY_UPDATE: the session's keys move on. -/
def effKeyUpdate (slot : Nat) (d : Dev) : Dev :=
  if (d.session slot).isNone then d
  else (d.setSession slot fun x => { x with keyUpdates := x.keyUpdates + 1 }).spdm 0xE9 0 slot

def execKeyUpdate (slot : Nat) (s : State) : Host.Outcome State Fault Refusal := liveLift (effKeyUpdate slot) s

/-- SET_CERTIFICATE: a Security Officer session installs the chain of slot 1, which must end in the DeviceID key (R346). -/
def effSetCertificate (session slot : Nat) (chain : CertChain) (d : Dev) : Dev :=
  match d.session session with
  | none => d
  | some x =>
    if slot = 1 ∧ 3 ≤ d.sessionRole x ∧ !d.bw.udsBlown ∧ chain.leafKey = Config.deviceIdPublic then
      ((d.setBw fun b => { b with chain1 := some chain.bytes }).put Obj.certSlots (setBit (d.get Obj.certSlots) 1 true)).spdm 0xEE 0 slot
    else d.spdm 0xEE SpdmErr.invalidRequest 0

def execSetCertificate (session slot : Nat) (chain : CertChain) (s : State) : Host.Outcome State Fault Refusal :=
  liveLift (effSetCertificate session slot chain) s

/-- The fields of a credential that are not reserved. -/
def credStored (v : Nat) : Nat :=
  bytesAt v 0 2 + bits v 16 1 * 2 ^ 16 + (if credKind v = 2 then bytesAt v 16 64 else credKey v) * 2 ^ 128

/-- A credential is written: the store takes its PSK, wrapped under KWK, and the Manifest what is open of it (R341, R349). Without
KWK, which is there until it is zeroised, no PSK is kept. -/
def Dev.writeCred (k v : Nat) (d : Dev) : Dev :=
  let v := credStored v
  let rest := Tab.drop d.bw.store k
  let t := match d.bw.enclave.kwk with
    | some w => if credKind v = 2 then Tab.insert rest k (Config.keyWrap w (bytesAt v 16 48)) else rest
    | none => rest
  (d.put (Obj.credential (k + 1)) (credOpen v)).setBw fun b => { b with store := t }

/-- CREDENTIAL_WRITE: sessions bound to the entry end after the response (R349). -/
def actCredential (o : Nat) : Act :=
  { check := fun _ v _ => if 2 < credKind v ∨ 3 < credRole v then Status.badValue else Status.success
    effect := fun _ v _ d =>
      let d := d.writeCred (o - Obj.credential 1) v
      if d.mgmt.sessions.any fun x => Obj.credential (x.cred + 1) == o then d.later (.credential (o - Obj.credential 1)) else d }

def execCredentialWrite (c : Call) (k : Fin 64) (v : Nat) (s : State) : Host.Outcome State Fault Refusal :=
  messageRow (actCredential (Obj.credential (k + 1))) c (Obj.credential (k + 1)) v s

/-! IDE keys (R352 to R355, R368). -/

/-- IDE_KM is served on a quay: its link is up, its wharf's engine works, and no level of D2 or D3 forbids it. -/
def Dev.ideServes (d : Dev) (q k : Nat) : Bool :=
  d.isUp q && !bitAt d.bw.badWharves (q / 4) && decide (d.get Obj.debugLevel < 2) && !d.spdmOff && (k == 0 || d.role q == 1)

/-- The device is the IDE_KM requester (R352). -/
def Dev.ideRequester (d : Dev) (q : Nat) : Bool :=
  d.role q == 2 || (d.role q == 3 && (match (d.quay q).partner with
    | .w512 id => decide (d.get Obj.fabricId < id)
    | _ => false))

/-- The keys of a set are zeroised. -/
def IdeStream.retire (x : IdeStream) : IdeStream :=
  match x.retiring with
  | none => x
  | some set => { x with retiring := none, keys := x.keys.filter fun p => p.1 / 3 != set }

/-- A key is programmed: a stream that is not SECURE is KEYING. A set that still retires is zeroised first. -/
def IdeStream.program (set sub key : Nat) (x : IdeStream) : IdeStream :=
  let x := if x.retiring = some set then x.retire else x
  { x with keys := Tab.insert (Tab.drop x.keys (3 * set + sub)) (3 * set + sub) key, st := if x.st = 2 then 2 else 1 }

/-- The partner's chain ends in a root that the device accepts as requester (R352). -/
def Dev.rootOk (d : Dev) (q : Nat) (root : Option Nat) : Bool :=
  match root with
  | none => false
  | some r =>
    ((List.range 8).any fun a => r != 0 && d.get (Obj.trustAnchor (a + 1)) == r) ||
    (match (d.quay q).partner with
      | .w512 _ => r == Config.onadanRoot
      | _ => false)

/-- The quay's IDE_KM session opens, if it is not open (R352). -/
def Dev.openKm (q : Nat) (d : Dev) : Dev := if d.bw.km.contains q then d else d.randomBits.setBw fun b => { b with km := b.km ++ [q] }

/-- The device as requester draws a key with prediction resistance, and programs it at both ends (R355, R356). -/
def Dev.keySub (q stream set sub : Nat) (d : Dev) : Dev :=
  let d := d.reseed.randomBits
  let key := d.draw % 2 ^ 256
  (d.drawn.setIde q stream (IdeStream.program set sub key)).send (.ideKm q stream set (some (sub, key)))

/-- KEY_PROG: a partner that is the requester sends the key; as requester the device draws it, and keys only a partner whose chain ends
in an accepted root. -/
def effKeyProg (q : Nat) (k : KeyProg) (d : Dev) : Dev :=
  if !d.ideServes q k.stream then d
  else if d.ideRequester q then (if d.rootOk q k.root then (d.openKm q).keySub q k.stream k.set k.sub else d)
  else (d.openKm q).setIde q k.stream (IdeStream.program k.set k.sub (k.key % 2 ^ 256))

def execKeyProg (q : Fin 128) (k : KeyProg) (s : State) : Host.Outcome State Fault Refusal := liveLift (effKeyProg q k) s

/-- Every sub-stream of a key set has its key. -/
def IdeStream.keyed (x : IdeStream) (set : Nat) : Bool := [0, 1, 2].all fun i => x.keys.any fun p => p.1 == 3 * set + i

/-- The stream runs on a key set, and the set it leaves is retired. -/
def IdeStream.go (set : Nat) (x : IdeStream) : IdeStream :=
  { x with st := 2, active := set, retiring := if x.st = 2 ∧ x.active ≠ set then some x.active else x.retiring }

/-- K_SET_GO, or K_SET_STOP: a stop leaves the stream INSECURE. -/
def effKSetGo (q stream set : Nat) (go : Bool) (d : Dev) : Dev :=
  let x := d.stream q stream
  if 4 < stream ∨ !d.ideServes q stream ∨ !d.bw.km.contains q then d
  else if !go then d.setIde q stream IdeStream.drop
  else if x.keyed set then
    let d := if d.ideRequester q then d.send (.ideKm q stream set none) else d
    (if x.st = 2 ∧ x.active ≠ set then d.count (Obj.ideKeyUpdates q) 1 else d).setIde q stream (IdeStream.go set)
  else d

def execKSetGo (q : Fin 128) (stream : Nat) (set : Fin 2) (go : Bool) (s : State) : Host.Outcome State Fault Refusal :=
  liveLift (effKSetGo q stream set go) s

/-- IDE_REKEY (R355): as requester, the device draws keys for the other set, programs them, and moves the stream to it. -/
def effIdeRekey (q stream : Nat) (d : Dev) : Dev :=
  let x := d.stream q stream
  if 4 < stream ∨ x.st ≠ 2 ∨ !d.ideRequester q ∨ !d.ideServes q stream then d
  else
    let set := 1 - x.active
    let d := ((d.keySub q stream set 0).keySub q stream set 1).keySub q stream set 2
    ((d.send (.ideKm q stream set none)).count (Obj.ideKeyUpdates q) 1).setIde q stream (IdeStream.go set)

def execIdeRekey (q : Fin 128) (stream : Nat) (s : State) : Host.Outcome State Fault Refusal := liveLift (effIdeRekey q stream) s

/-- KEY_SET_RETIREMENT: the last flit under the retired set has been checked. -/
def effKeySetRetirement (q stream : Nat) (d : Dev) : Dev := if 4 < stream then d else d.setIde q stream IdeStream.retire

def execKeySetRetirement (q : Fin 128) (stream : Nat) (s : State) : Host.Outcome State Fault Refusal :=
  liveLift (effKeySetRetirement q stream) s

/-- IDE_REQUIRED_WRITE (R353, R368). -/
def actIdeRequired (q : Nat) : Act := storeAct (Obj.ideRequired q)

def execIdeRequiredWrite (c : Call) (q : Fin 128) (v : Nat) (s : State) : Host.Outcome State Fault Refusal :=
  writeRow (actIdeRequired q) c (Obj.ideRequired q) v s

/-! Random numbers and self-tests (R356, Tables 12.10 and 12.11). -/

/-- DRBG_RESEED: 1 s has passed. -/
def effDrbgReseed (d : Dev) : Dev := d.reseed

def execDrbgReseed (s : State) : Host.Outcome State Fault Refusal := liveLift effDrbgReseed s

/-- ENTROPY_HEALTH_WINDOW: a failed window is discarded; three in a row are a HARD_ERROR. -/
def effEntropyHealthWindow (ok : Bool) (d : Dev) : Dev :=
  if ok then d.setBw fun b => { b with badWindows := 0 }
  else
    let d := (d.count Obj.entropyHealthFailures 1).setBw fun b => { b with badWindows := b.badWindows + 1, entropyBad := true }
    if 3 ≤ d.bw.badWindows then d.hardError 0x500 else d.softError 0 0x500

def execEntropyHealthWindow (ok : Bool) (s : State) : Host.Outcome State Fault Refusal := liveLift (effEntropyHealthWindow ok) s

/-- PERIODIC_SELF_TEST. -/
def effPeriodicSelfTest (fails : Nat) (d : Dev) : Dev := d.knownAnswers fails

def execPeriodicSelfTest (fails : Nat) (s : State) : Host.Outcome State Fault Refusal := liveLift (effPeriodicSelfTest fails) s

/-- SELF_TEST: the tests run once the message has been answered, so that the entry to Salvage of one that fails falls between messages
(R303). -/
def actSelfTest : Act := { effect := fun c _ _ d => d.later (.selfTest c.env.katFails) }

def execSelfTest (c : Call) (v : Nat) (s : State) : Host.Outcome State Fault Refusal := messageRow actSelfTest c Obj.selfTest v s

/-- The kind that a tamper reports: 1 the supply, 2 the temperature, 3 the clock; of several at once the lowest. -/
def tamperKind (kinds : Nat) : Nat := if bitAt kinds 0 then 1 else if bitAt kinds 1 then 2 else 3

/-- TAMPER (R358), by a mask of what is detected at once: bit 0 the supply, 1 the temperature, 2 the clock. In HARD_ERROR it zeroises
again, and ERROR_CAUSE is its own. -/
def effTamper (kinds : Nat) (d : Dev) : Dev :=
  if kinds = 0 ∨ d.boot = .off then d
  else
    let d := d.count Obj.tamperCount 1
    if d.get Obj.bwState = 3 then d.errorState (0x800 + tamperKind kinds) else d.hardError (0x800 + tamperKind kinds)

def execTamper (kinds : Fin 8) (s : State) : Host.Outcome State Fault Refusal := lift (effTamper kinds) s

/-- HARD_ERROR_RESET: the one recovery reset that Breakwater starts 1 s after HARD_ERROR, or the one of R399 when no core runs. -/
def effHardErrorReset (env : Env) (d : Dev) : Dev :=
  if (d.get Obj.bwState = 3 ∧ d.bw.resetDue ∧ (d.powered ∨ d.boot = .loader)) ∨ (d.powered ∧ d.runningCores = 0) then
    (d.setBw fun b => { b with resetUsed := true, resetDue := false }).recoveryReset env
  else d

def execHardErrorReset (env : Env) (s : State) : Host.Outcome State Fault Refusal := lift (effHardErrorReset env) s

/-! Zeroisation and lifecycle (R359 to R361). -/

/-- ZEROISE: it begins after the response. -/
def actZeroise : Act := { effect := fun _ _ _ d => d.later .zeroise }

def execZeroise (c : Call) (v : Nat) (s : State) : Host.Outcome State Fault Refusal := messageRow actZeroise c Obj.zeroise v s

/-- The role that Table 12.13 requires for a transition; none for one that it does not list. -/
def lifecycleRole : Nat → Nat → Option Nat
  | 0, 1 => some 4
  | 1, 2 => some 3
  | 2, 1 => some 4
  | 0, 3 => some 4
  | 2, 3 => some 4
  | 1, 3 => some 3
  | _, _ => none

/-- The refusals that both commands share. -/
def lifecycleCheck (c : Call) (v : Nat) (d : Dev) : Nat :=
  match lifecycleRole (d.get Obj.lifecycle) v with
  | none => Status.badValue
  | some r =>
    if (d.callerRole c.caller).getD 0 < r then Status.role
    else if d.mode ≠ 0 ∨ d.power = 2 ∨ (d.get Obj.lifecycle = 0 ∧ v = 1 ∧ !d.bw.certPresent) then Status.wrongMode
    else if d.get Obj.lifecycle = 2 ∧ v = 1 ∧ 3 ≤ d.get Obj.resealCount then Status.resourceLimit
    else Status.success

/-- LIFECYCLE_ARM. -/
def actLifecycleArm : Act :=
  { check := lifecycleCheck
    effect := fun c v _ d => d.setBw fun b => { b with arming := some (callerSlot c.caller, v) } }

def execLifecycleArm (c : Call) (v : Nat) (s : State) : Host.Outcome State Fault Refusal :=
  writeRow actLifecycleArm c Obj.lifecycleArm v s

/-- LIFECYCLE_CONFIRM. -/
def actLifecycleConfirm : Act :=
  { check := fun c v d =>
      firstStatus (lifecycleCheck c v d) (if d.bw.arming = some (callerSlot c.caller, v) then Status.success else Status.badValue)
    effect := fun c v _ d => (d.setBw fun b => { b with arming := none }).later (.lifecycle v c.env) }

def execLifecycleConfirm (c : Call) (v : Nat) (s : State) : Host.Outcome State Fault Refusal :=
  messageRow actLifecycleConfirm c Obj.lifecycleConfirm v s

/-- LIFECYCLE_ARMING_LAPSE. -/
def effLifecycleArmingLapse (d : Dev) : Dev := d.setBw fun b => { b with arming := none }

def execLifecycleArmingLapse (s : State) : Host.Outcome State Fault Refusal := liveLift effLifecycleArmingLapse s

/-! Debug levels (R363, R364). -/

/-- The role that may authorise a level. -/
def levelRole (l : Nat) : Nat := if l ≤ 1 then 1 else if l = 2 then 3 else 4

/-- The lifecycle and the mode allow a level to be authorised. In Drydock D2 or D3 is authorised, so that D1 is refused as BUSY. -/
def Dev.levelAllowed (d : Dev) (l : Nat) : Bool :=
  let lc := d.get Obj.lifecycle
  (lc == 0 || lc == 2 || (lc == 1 && l != 3)) && (l == 1 || d.mode == 0)

def debugObjs : List Nat := [Obj.debugLevel, Obj.debugAuthorised, Obj.debugHistory]

/-- DEBUG_AUTHORISE. -/
def actDebugAuthorise : Act :=
  { check := fun c v d =>
      if (d.callerRole c.caller).getD 0 < levelRole v then Status.role
      else if !d.levelAllowed v then Status.wrongMode
      else if 2 ≤ d.topLevel then Status.busy
      else Status.success
    effect := fun c v n d => d.marking debugObjs n fun d => (d.setBw fun b => { b with
      holders := (b.holders.filter (· != (callerSlot c.caller, v))) ++ [(callerSlot c.caller, v)] }).showLevel }

def execDebugAuthorise (c : Call) (v : Nat) (s : State) : Host.Outcome State Fault Refusal :=
  writeRow actDebugAuthorise c Obj.debugAuthorise v s

/-- An ENTER_DRYDOCK of the holder has been accepted. -/
def Dev.docking (d : Dev) : Bool := d.mode == 4 || (d.modes.trans.map (·.toDrydock)).getD false

/-- DEBUG_PENDING_LAPSE: 60 s have passed. -/
def effDebugPendingLapse (d : Dev) : Dev := if d.docking then d else d.endLevels fun h => decide (2 ≤ h.2)

def execDebugPendingLapse (s : State) : Host.Outcome State Fault Refusal := liveLift effDebugPendingLapse s

/-- What a DEBUG_REVOKE ends: the caller's own, and every level that its role may authorise. -/
def Dev.revokes (d : Dev) (c : Call) (h : Nat × Nat) : Bool :=
  h.1 == callerSlot c.caller || decide (levelRole h.2 ≤ (d.callerRole c.caller).getD 0)

/-- DEBUG_REVOKE. The end of D2 or D3 in Drydock is a recovery reset, after the response. -/
def actDebugRevoke : Act :=
  { check := fun c _ d => if d.bw.holders ≠ [] ∧ !d.bw.holders.any (d.revokes c) then Status.role else Status.success
    effect := fun c _ n d =>
      if d.mode = 4 ∧ (d.bw.holders.filter (decide <| 2 ≤ ·.2)).any (d.revokes c) then d.later (.reset c.env)
      else d.marking debugObjs n (Dev.endLevels (d.revokes c)) }

def execDebugRevoke (c : Call) (v : Nat) (s : State) : Host.Outcome State Fault Refusal :=
  messageRow actDebugRevoke c Obj.debugRevoke v s

end Sys2Proof.Machine
end

