-- ==== Sys2Proof/Machine/Sideband.lean ====
section
/-!
DEFINITION. The sideband bridge: buses, polled signals and alerts, windows, pages, PMBus values and sensors (R408 to R429),
and Tide's rail readings (R318).
-/

namespace Sys2Proof.Machine

open Sys2Proof

def Dev.bus (d : Dev) (b : Nat) : Bus := Tab.get {} d.side.buses b

def Dev.setBus (b : Nat) (f : Bus → Bus) (d : Dev) : Dev :=
  d.setSide fun x => { x with buses := Tab.set {} x.buses b (f (d.bus b)) }

def Dev.win (d : Dev) (w : Nat) : Win := Tab.get {} d.side.wins w

def Dev.setWin (w : Nat) (f : Win → Win) (d : Dev) : Dev :=
  d.setSide fun x => { x with wins := Tab.set {} x.wins w (f (d.win w)) }

def Dev.sensor (d : Dev) (n : Nat) : Sensor := Tab.get {} d.side.sensors n

def Dev.setSensor (n : Nat) (f : Sensor → Sensor) (d : Dev) : Dev :=
  d.setSide fun x => { x with sensors := Tab.set {} x.sensors n (f (d.sensor n)) }

/-! Table 15.2. -/

abbrev Far.ok : Nat := 0
abbrev Far.arbLost : Nat := 4
abbrev Far.clockTimeout : Nat := 5
abbrev Far.busStuck : Nat := 6
abbrev Far.notPresent : Nat := 8
abbrev Far.overrun : Nat := 9
abbrev Far.badAccess : Nat := 10
abbrev Far.cancelled : Nat := 11
abbrev Far.writeError : Nat := 12
abbrev Far.wrongMode : Nat := 13

/-! Reports (R427, Table 15.7). -/

/-- A Type 50 report. -/
def sbReport (kind code unit offset len value data : Nat) : Nat :=
  kind + code * 2 ^ 8 + unit * 2 ^ 16 + offset * 2 ^ 32 + len * 2 ^ 48 + value * 2 ^ 64 + data % 2 ^ 128 * 2 ^ 128

/-- A sideband error of a source instance. -/
def Dev.sbErr (inst target report : Nat) (d : Dev) : Dev := d.err { typ := 50, inst := inst, target := target, report := report }

/-- The host slot of a window's quay (R417). -/
def Dev.winTarget (d : Dev) (w : Nat) : Nat := (d.slotOfQuay (d.get (Obj.winQuay w))).getD 0xFFFF

/-- A transfer on a bus has failed (R429). -/
def Dev.busFail (b : Nat) (d : Dev) : Dev := (d.count (Obj.busErrors b) 1).count Obj.bridgeErrors 1

/-! Pieces (R414, R415). -/

/-- Reverse the bytes of each aligned unit of 2^swap bytes. -/
def swapData (swap len v : Nat) : Nat :=
  packBytes ((List.range len).map fun i => byteAt v (i / 2 ^ swap * 2 ^ swap + (2 ^ swap - 1 - i % 2 ^ swap)))

/-- The cuts of an access: offset and bytes of each piece. -/
def cutAccess (page : Nat) : Nat → Nat → Nat → List (Nat × Nat)
  | 0, _, _ => []
  | fuel + 1, off, len =>
    if len = 0 then []
    else
      let n := min len (min 255 (page - off % page))
      (off, n) :: cutAccess page fuel (off + n) (len - n)

/-- The far pieces of an access, with far data. -/
def farPieces (page off len data : Nat) : List Piece :=
  (cutAccess page len off len).map fun p => { offset := p.1, len := p.2, data := bytesAt data (p.1 - off) p.2 }

/-- The access is BAD_ACCESS for a window of this form and swap. -/
def badAccess (form swap most off len : Nat) : Bool :=
  decide (len = 0 ∨ most < len ∨ (if form = 0 then 0x100 else 0xF000) < off + len ∨ off % 2 ^ swap ≠ 0 ∨ len % 2 ^ swap ≠ 0)

def Dev.badFor (d : Dev) (w most off len : Nat) : Bool :=
  badAccess (d.get (Obj.winForm w)) (d.get (Obj.winSwap w)) most off len

/-! The end of accesses. -/

/-- The bytes that a read without data returns. -/
def onesOf (len : Nat) : Nat := 2 ^ (8 * len) - 1

/-- Answer a host's read of a window. -/
def Dev.winAnswer (w tag data : Nat) (d : Dev) : Dev := d.send (.complete (d.get (Obj.winQuay w)) tag 0 data)

/-- A dropped or failed write of a window (R417, R418): counted and recorded; reported on a posted window, latched on
another. `told`: reported whatever the window. -/
def Dev.writeFail (w code off len piece : Nat) (dropped told : Bool) (d : Dev) : Dev :=
  let d := ((d.count (Obj.winWriteFails w) 1).putIf dropped Obj.bridgeErrors (satAdd 32 (d.get Obj.bridgeErrors) 1)).put
    (Obj.winLastWriteFail w) (off + len * 2 ^ 16 + code * 2 ^ 32 + d.time * 2 ^ 64)
  if d.get (Obj.winPosted w) = 1 ∨ told then
    d.sbErr w (d.winTarget w) (sbReport (if dropped then 3 else 1) code w off len 0 0)
  else d.setWin w fun x => { x with wrError := true, lastCode := code, errOffset := if x.wrError then x.errOffset else piece }

/-- An entry of the discarded-read log (Table 15.5). -/
def logEntry (seq time w q off len code data : Nat) : Nat :=
  seq + time * 2 ^ 64 + w * 2 ^ 128 + q * 2 ^ 136 + off * 2 ^ 144 + len * 2 ^ 160 + code * 2 ^ 168 + data * 2 ^ 256

/-- The read of the slot goes to the discarded-read log, and the slot is IDLE (R421, R422). A report on a quay that is
declared DOWN goes to the managers only (R424). -/
def Dev.logRead (w code data : Nat) (d : Dev) : Dev :=
  let x := d.win w
  let q := d.get (Obj.winQuay w)
  let seq := d.side.logSeq + 1
  let e := ((d.setSide fun y => { y with
    log := (logEntry seq d.time w q x.offset x.len code data :: y.log).take 16, logSeq := seq }).setWin w fun x =>
      { x with st := 0, code := code, data := 0, discards := satAdd 32 x.discards 1 }).count Obj.discardCount 1
  if code = Far.ok then
    e.sbErr w (if d.isUp q then d.winTarget w else 0xFFFF) (sbReport 2 0 w x.offset x.len 0 data)
  else e

/-- The far read of the slot has ended (R419, R420, R424). -/
def Dev.readEnds (w code data : Nat) (cancelled : Bool) (d : Dev) : Dev :=
  let x := d.win w
  let d := d.setWin w fun x => { x with holding := none }
  if cancelled then
    let d := d.logRead w code (if code = Far.ok then data else 0)
    match x.holding with
    | some tag => d.winAnswer w tag (onesOf x.len)
    | none => d
  else match x.holding with
  | some tag =>
    if code = Far.ok then (d.setWin w fun x => { x with st := 0, code := 0 }).winAnswer w tag data
    else (d.setWin w fun x => { x with st := 3, code := code }).winAnswer w tag (onesOf x.len)
  | none =>
    if code = Far.ok then d.setWin w fun x => { x with st := 2, code := 0, data := data }
    else d.setWin w fun x => { x with st := 3, code := code }

/-- The first queued access of a window ends with a code. -/
def Dev.accessEnds (w code : Nat) (d : Dev) : Dev :=
  match (d.win w).queue with
  | [] => d
  | a :: rest =>
    let d := d.setWin w fun x => { x with queue := rest }
    if a.write then
      if code = Far.ok then d
      else d.writeFail w code a.offset a.len (match a.pieces with | p :: _ => p.offset | [] => a.offset) false false
    else d.readEnds w code (swapData (d.get (Obj.winSwap w)) a.len a.data) a.cancelled

/-- A piece of the first queued access of a window has succeeded. -/
def SbAccess.advance (data : Nat) (a : SbAccess) : SbAccess :=
  match a.pieces with
  | [] => a
  | p :: rest =>
    { a with pieces := rest, data := if a.write then a.data else a.data + data % 2 ^ (8 * p.len) * 2 ^ (8 * (p.offset - a.offset)) }

/-- A write of a host to command 0x00 sets the window's page and the device's (R423). -/
def Dev.notePage (w : Nat) (p : Piece) (d : Dev) : Dev :=
  let b := d.get (Obj.winBus w)
  if 48 ≤ b ∧ p.offset = 0 then
    (d.setWin w fun x => { x with page := byteAt p.data 0 }).setBus b fun x =>
      { x with pages := Tab.set 0 x.pages (d.get (Obj.winAddress w)) (byteAt p.data 0 + 1) }
  else d

/-- A piece of a window has ended. Of a write that was cancelled, what is left is dropped. -/
def Dev.pieceEnds (w code data : Nat) (d : Dev) : Dev :=
  if code ≠ Far.ok then d.accessEnds w code
  else match (d.win w).queue with
  | [] => d
  | a :: rest =>
    let d := match a.write, a.pieces with
      | true, p :: _ => d.notePage w p
      | _, _ => d
    let a := a.advance data
    let d := d.setWin w fun x => { x with queue := a :: rest }
    if a.pieces = [] then d.accessEnds w Far.ok
    else if a.write && a.cancelled then
      (d.setWin w fun x => { x with queue := rest }).writeFail w Far.cancelled a.offset a.len a.offset true true
    else d

/-! Alerts (R412). -/

/-- The PF event rings of every Host quay that has an enabled window on the bus. -/
def Dev.busRings (d : Dev) (b : Nat) : List Nat :=
  let ws := (List.range 128).filter fun w => d.get (Obj.winEnable w) == 1 && d.get (Obj.winBus w) == b
  ((ws.map fun w => d.get (Obj.winQuay w)).eraseDups.filter fun q => d.role q == 1).filterMap d.pfOf

/-- ALERT_LAST (Table 15.8). -/
def alertRecord (b addr status time : Nat) : Nat := b + addr * 2 ^ 8 + status * 2 ^ 16 + time * 2 ^ 64

/-- An alert has been answered: ALERT_LAST takes the response in a device commit; an event tells of it, unless it repeats one
that names no device. -/
def Dev.alertDone (b addr status : Nat) (d : Dev) : Dev :=
  let first := (d.bus b).alertAt.isNone
  let d := (d.commit [(Obj.alertLast, alertRecord b addr status d.time)]).setBus b fun x => { x with alertAt := some d.time }
  if first ∨ addr ≠ 0xFF then d.stateChangeTo (d.busRings b) (sourceId 25 (0x200 + b)) Obj.alertLast else d

/-! Transfers (R409, R423). -/

/-- A transfer on a bus, in the mode of the last START (R408). -/
def Dev.onBus (b addr ptrLen ptr n data : Nat) (read pec : Bool) (d : Dev) : Dev :=
  d.send (.bus b (d.bus b).mode addr ptrLen ptr n data read pec)

/-- A bus takes its BUS_MODE between two transfers (R429). In I3C mode the bridge assigns addresses by SETAASA before the first
transfer (R408, log entry 124). -/
def Dev.takeMode (b : Nat) (d : Dev) : Dev :=
  let m := d.get (Obj.busMode b)
  let e := d.setBus b fun x => { x with mode := m }
  if m = 3 ∧ (d.bus b).mode ≠ 3 then e.onBus b 0x7E 1 0x29 0 0 false false else e

/-- A device's page differs from the one that a transfer needs. -/
def Dev.pageOther (d : Dev) (b addr page : Nat) : Bool := decide (48 ≤ b) && Tab.get 0 (d.bus b).pages addr != page + 1

/-- Write PAGE before a transfer whose page differs from the device's. -/
def Dev.sendPage (b addr page : Nat) (d : Dev) : Dev := if d.pageOther b addr page then d.onBus b addr 1 0 1 page false false else d

/-- The page of a device after a transfer: of one that failed with a PAGE in it, it is not known (log entry 124). -/
def Dev.keepPage (b addr page code : Nat) (d : Dev) : Dev :=
  if d.pageOther b addr page then
    d.setBus b fun x => { x with pages := Tab.set 0 x.pages addr (if code = Far.ok then page + 1 else 0) }
  else d

/-- The first piece of a window goes out. -/
def Dev.sendPiece (b w : Nat) (d : Dev) : Dev :=
  match (d.win w).queue with
  | [] => d
  | a :: _ =>
    match a.pieces with
    | [] => d
    | p :: _ =>
      let addr := d.get (Obj.winAddress w)
      (d.sendPage b addr (d.win w).page).onBus b addr (d.get (Obj.winForm w) + 1) p.offset p.len p.data (!a.write)
        (d.get (Obj.winPec w) == 1)

/-- A transfer goes out on its bus, which is BUSY. -/
def Dev.sendJob (b : Nat) (j : SbJob) (d : Dev) : Dev :=
  let d := (d.put (Obj.busState b) 1).setBus b fun x => { x with job := some j }
  match j with
  | .alert => d.onBus b 0x0C 0 0 1 0 true false
  | .statusWord addr => d.onBus b addr 1 0x79 2 0 true false
  | .piece w => d.sendPiece b w

/-- The window whose piece goes out next on a bus: round robin by number. -/
def Dev.nextWin (d : Dev) (b : Nat) : Option Nat :=
  ((List.range 128).map fun i => ((d.bus b).lastWin + 1 + i) % 128).find? fun w =>
    !(d.win w).queue.isEmpty && d.get (Obj.winBus w) == b

/-- The transfer that starts next on a bus: an alert response, else a window piece. -/
def Dev.nextJob (d : Dev) (b : Nat) : Option SbJob :=
  if (d.bus b).alert then some .alert else (d.nextWin b).map .piece

/-- What starting a transfer notes. -/
def Bus.started (j : SbJob) (x : Bus) : Bus :=
  match j with
  | .piece w => { x with lastWin := w }
  | _ => { x with alert := false }

/-- The transfer in progress ends with a far-side code and data. -/
def Dev.transferEnds (b code data : Nat) (d : Dev) : Dev :=
  let j := (d.bus b).job
  let d := (d.putIf (d.get (Obj.busState b) == 1) (Obj.busState b) 0).setBus b fun x => { x with job := none, lost := 0 }
  let d := if j.isSome ∧ code ≠ Far.ok then d.busFail b else d
  match j with
  | some .alert =>
    if code ≠ Far.ok then d.alertDone b 0xFF 0
    else if 48 ≤ b then d.sendJob b (.statusWord (data % 256)) else d.alertDone b (data % 256) 0
  | some (.statusWord addr) => d.alertDone b addr (if code = Far.ok then data % 2 ^ 16 else 0)
  | some (.piece w) => (d.keepPage b (d.get (Obj.winAddress w)) (d.win w).page code).pieceEnds w code data
  | none => d

/-- A slot bus whose slot shows no presence. -/
def Dev.busAbsent (d : Dev) (b : Nat) : Bool := decide (b < 48) && !bitAt (d.get (Obj.sbSignals b)) 0

/-- BUS_TRANSFER: on a slot bus without presence the transfer fails at once. -/
def effBusTransfer (b : Nat) (d : Dev) : Dev :=
  if d.get (Obj.busState b) ≠ 0 ∨ (d.bus b).job.isSome then d
  else match d.nextJob b with
  | none => d
  | some j =>
    let d := d.setBus b (Bus.started j)
    if d.busAbsent b then (d.setBus b fun x => { x with job := some j }).transferEnds b Far.notPresent 0
    else (d.takeMode b).sendJob b j

def execBusTransfer (b : Fin 50) (s : State) : Host.Outcome State Fault Refusal := liveLift (effBusTransfer b) s

/-- FAR_TRANSFER_DONE: a lost arbitration is retried twice (R409). -/
def effFarTransferDone (b code data : Nat) (d : Dev) : Dev :=
  match (d.bus b).job with
  | none => d
  | some j =>
    if 7 < code then d
    else if code = Far.arbLost ∧ (d.bus b).lost < 2 then
      (d.setBus b fun x => { x with lost := x.lost + 1 }).sendJob b j
    else d.transferEnds b code data

def execFarTransferDone (b : Fin 50) (code : Nat) (data : Nat) (s : State) : Host.Outcome State Fault Refusal :=
  liveLift (effFarTransferDone b code data) s

/-- CLOCK_TIMEOUT: a target holds the clock low for more than 25 ms. -/
def effClockTimeout (b : Nat) (d : Dev) : Dev := effFarTransferDone b Far.clockTimeout 0 d

def execClockTimeout (b : Fin 50) (s : State) : Host.Outcome State Fault Refusal := liveLift (effClockTimeout b) s

/-- Every queued access of a window fails with BUS_STUCK. -/
def Dev.stuckWin (b w : Nat) (d : Dev) : Dev :=
  (d.win w).queue.foldl (fun d _ => (d.busFail b).accessEnds w Far.busStuck) d

/-- Every transfer that waits on a bus fails with BUS_STUCK (R410). -/
def Dev.stuckAll (b : Nat) (d : Dev) : Dev :=
  let d := d.transferEnds b Far.busStuck 0
  let d := if (d.bus b).alert then ((d.setBus b fun x => { x with alert := false }).busFail b).alertDone b 0xFF 0 else d
  d.forEach ((d.side.wins.map (·.1)).filter fun w => d.get (Obj.winBus w) == b) (Dev.stuckWin b)

/-- BUS_CLEAR: nine clocks and a STOP with data held low. -/
def effBusClear (b : Nat) (ok : Bool) (d : Dev) : Dev :=
  if ok then d.putIf (d.get (Obj.busState b) == 2) (Obj.busState b) 0
  else
    let was := d.get (Obj.busState b)
    let d := (d.stuckAll b).put (Obj.busState b) 2
    if was = 2 then d else d.sbErr (0x200 + b) 0xFFFF (sbReport 4 Far.busStuck b 0 0 0 0)

def execBusClear (b : Fin 50) (ok : Bool) (s : State) : Host.Outcome State Fault Refusal := liveLift (effBusClear b ok) s

/-! Polled signals (R411). -/

/-- The level of a signal after a sample: accepted when two samples in a row agree. -/
def acceptedBit (old last new i : Nat) : Bool := if bitAt last i = bitAt new i then bitAt new i else bitAt old i

/-- SB_SIGNALS after a sample. -/
def signalsAfter (b old last new : Nat) : Nat :=
  (if b < 48 then b2n (acceptedBit old last new 0) + 2 * b2n (acceptedBit old last new 1) else 0) +
    4 * b2n (acceptedBit old last new 2)

/-- An alert response is due: the alert is newly accepted, or stays and the last response is 1 ms old (R412). -/
def Dev.alertDue (d : Dev) (b old now : Nat) : Bool :=
  bitAt now 2 && (!bitAt old 2 || match (d.bus b).alertAt with
    | some t => decide (t + 1000000 ≤ d.time)
    | none => !(d.bus b).alert && (d.bus b).job.isNone)

/-- SIGNAL_POLL. A loss of presence aborts the transfer in progress (R409). -/
def effSignalPoll (b sample : Nat) (d : Dev) : Dev :=
  let old := d.get (Obj.sbSignals b)
  let now := match (d.bus b).sample with
    | some last => signalsAfter b old last sample
    | none => old
  let d := d.setBus b fun x => { x with
    sample := some sample, alertAt := if bitAt old 2 = bitAt now 2 then x.alertAt else none }
  let d := if now = old then d
    else (d.commit [(Obj.sbSignals b, now)]).stateChangeTo (d.busRings b) (sourceId 25 (0x200 + b)) (Obj.sbSignals b)
  let d := if b < 48 ∧ bitAt old 0 ∧ !bitAt now 0 then
      (d.transferEnds b Far.notPresent 0).setBus b fun x => { x with mode := 0 }
    else d
  if d.alertDue b old now then d.setBus b fun x => { x with alert := true } else d

def execSignalPoll (b : Fin 50) (sample : Fin 8) (s : State) : Host.Outcome State Fault Refusal :=
  liveLift (effSignalPoll b sample) s

/-- The mode that a bus runs in: that of the transfer in progress, else BUS_MODE (R429). -/
def Dev.modeOf (d : Dev) (b : Nat) : Nat := if (d.bus b).job.isSome then (d.bus b).mode else d.get (Obj.busMode b)

/-- IN_BAND_INTERRUPT: on a slot bus in I3C mode, an alert whose address is taken from it (R408, R412). -/
def effInBandInterrupt (b addr : Nat) (d : Dev) : Dev :=
  if b < 48 ∧ d.modeOf b = 3 ∧ addr < 256 then d.alertDone b addr 0 else d

def execInBandInterrupt (b : Fin 50) (addr : Nat) (s : State) : Host.Outcome State Fault Refusal :=
  liveLift (effInBandInterrupt b addr) s

/-! Host accesses to windows (R413 to R420). -/

/-- The host's access reaches the window's frame: the link of its quay is UP. -/
def Dev.winReached (d : Dev) (w : Nat) : Bool := d.isUp (d.get (Obj.winQuay w))

/-- The code with which a data access is refused before Table 15.4 or the queue is looked at, 0 for none: in Salvage, while
WR_ERROR of a non-posted window stands, and for a BAD_ACCESS, in that order. -/
def Dev.winRefusal (d : Dev) (w most off len : Nat) : Nat :=
  if d.mode = 5 then Far.wrongMode
  else if (d.win w).wrError && d.get (Obj.winPosted w) == 0 then Far.writeError
  else if d.badFor w most off len then Far.badAccess
  else 0

/-- A refused read: 0xFF bytes; a slot that holds no read of a host is FAILED with the code. -/
def Dev.refuseRead (w code : Nat) (a : WinRead) (d : Dev) : Dev :=
  let x := d.win w
  (if x.st = 0 ∨ x.st = 3 then
    d.setWin w fun x => { x with st := 3, code := code, offset := a.offset % 2 ^ 16, len := a.len % 2 ^ 7, data := 0 }
   else d).winAnswer w a.tag (onesOf a.len)

/-- A read that finds the slot IDLE: the far read is queued, and the host is held or answered with 0xFF bytes. -/
def Dev.startRead (w : Nat) (a : WinRead) (d : Dev) : Dev :=
  let acc : SbAccess := { write := false, offset := a.offset, len := a.len
                          pieces := farPieces (d.get (Obj.winPage w)) a.offset a.len 0 }
  let held := 0 < d.get (Obj.winHold w)
  let d := d.setWin w fun x => { x with
    st := 1, code := 0, offset := a.offset, len := a.len, data := 0, holding := if held then some a.tag else none
    queue := x.queue ++ [acc] }
  if held then d else d.winAnswer w a.tag (onesOf a.len)

/-- A read on the read slot (Table 15.4). -/
def Dev.slotRead (w : Nat) (a : WinRead) (d : Dev) : Dev :=
  let x := d.win w
  let same := a.offset == x.offset && a.len == x.len
  if x.st = 0 then d.startRead w a
  else if x.st = 2 ∧ same then (d.setWin w fun x => { x with st := 0, code := 0, data := 0 }).winAnswer w a.tag x.data
  else if x.st = 3 ∧ same then (d.setWin w fun x => { x with st := 0 }).winAnswer w a.tag (onesOf a.len)
  else d.winAnswer w a.tag (onesOf a.len)

/-- WINDOW_DATA_READ. A frame that no window owns reads 0. -/
def effWindowDataRead (w : Nat) (a : WinRead) (d : Dev) : Dev :=
  if !d.winReached w then d
  else if d.get (Obj.winEnable w) = 0 then d.winAnswer w a.tag 0
  else
    let code := d.winRefusal w 64 a.offset a.len
    if code ≠ 0 then d.refuseRead w code a else d.slotRead w a

def execWindowDataRead (w : Fin 128) (a : WinRead) (s : State) : Host.Outcome State Fault Refusal :=
  liveLift (effWindowDataRead w a) s

/-- Writes queued at a window. -/
def Win.queuedWrites (x : Win) : Nat := (x.queue.filter (·.write)).length

/-- WINDOW_DATA_WRITE. A frame that no window owns ignores it. -/
def effWindowDataWrite (w : Nat) (a : WinWrite) (d : Dev) : Dev :=
  if !d.winReached w ∨ d.get (Obj.winEnable w) = 0 then d
  else
    let code := d.winRefusal w 256 a.offset a.len
    let code := if code = 0 ∧ 8 ≤ (d.win w).queuedWrites then Far.overrun else code
    if code ≠ 0 then d.writeFail w code (a.offset % 2 ^ 16) (a.len % 2 ^ 16) a.offset true false
    else
      let far := swapData (d.get (Obj.winSwap w)) a.len a.data
      let acc : SbAccess := { write := true, offset := a.offset, len := a.len
                              pieces := farPieces (d.get (Obj.winPage w)) a.offset a.len far }
      d.setWin w fun x => { x with queue := x.queue ++ [acc] }

def execWindowDataWrite (w : Fin 128) (a : WinWrite) (s : State) : Host.Outcome State Fault Refusal :=
  liveLift (effWindowDataWrite w a) s

/-- The window that owns a frame (R413). -/
def Dev.frameWin (d : Dev) (q f : Nat) : Option Nat :=
  (List.range 128).find? fun w => d.get (Obj.winEnable w) == 1 && d.get (Obj.winQuay w) == q && d.get (Obj.winFrame w) == f

/-- A register of a frame's control page as the host reads it (Table 15.3); a frame that no window owns reads 0. -/
def Dev.frameReg (d : Dev) (q f off : Nat) : Nat :=
  match d.frameWin q f with
  | none => 0
  | some w =>
    let x := d.win w
    match off with
    | 0x00 => w + d.get (Obj.winForm w) * 2 ^ 27 + d.get (Obj.winSwap w) * 2 ^ 28 + d.get (Obj.winPosted w) * 2 ^ 30 + 2 ^ 31
    | 0x04 => x.st + x.code * 2 ^ 8
    | 0x08 => if x.st = 0 then 0 else x.offset + x.len * 2 ^ 16
    | 0x0C => x.queuedWrites + b2n x.wrError * 2 ^ 8 + x.lastCode * 2 ^ 16
    | 0x10 => x.errOffset
    | 0x14 => x.discards
    | _ => 0

/-- WR_ERROR_CLEAR. -/
def effWrErrorClear (w : Nat) (d : Dev) : Dev := if d.winReached w then d.setWin w fun x => { x with wrError := false } else d

def execWrErrorClear (w : Fin 128) (s : State) : Host.Outcome State Fault Refusal := liveLift (effWrErrorClear w) s

/-- WIN_HOLD_EXPIRY: the held read completes with 0xFF bytes, and the slot stays PENDING. -/
def effWinHoldExpiry (w : Nat) (d : Dev) : Dev :=
  match (d.win w).holding with
  | some tag => (d.setWin w fun x => { x with holding := none }).winAnswer w tag (onesOf (d.win w).len)
  | none => d

def execWinHoldExpiry (w : Fin 128) (s : State) : Host.Outcome State Fault Refusal := liveLift (effWinHoldExpiry w) s

/-- DISCARD_TIMER_EXPIRY: of a slot that is READY or FAILED. -/
def effDiscardTimerExpiry (w : Nat) (d : Dev) : Dev :=
  let x := d.win w
  if x.st = 2 then d.logRead w Far.ok x.data
  else if x.st = 3 then d.logRead w x.code 0
  else d

def execDiscardTimerExpiry (w : Fin 128) (s : State) : Host.Outcome State Fault Refusal := liveLift (effDiscardTimerExpiry w) s

/-! Window configuration (R413, R424, R429). -/

/-- A piece of the window is on its bus. -/
def Dev.winOnBus (d : Dev) (w : Nat) : Bool := d.side.buses.any fun p => p.2.job == some (.piece w)

/-- An access that WIN_ENABLE = 0 drops. -/
def Dev.dropAccess (w : Nat) (a : SbAccess) (d : Dev) : Dev :=
  if a.write then d.writeFail w Far.cancelled a.offset a.len a.offset true true else d.readEnds w Far.cancelled 0 true

/-- The window is disabled (R424): the access on its bus goes on, and what is queued behind it is dropped. -/
def Dev.disableWin (w : Nat) (d : Dev) : Dev :=
  match (d.win w).queue with
  | [] => d
  | a :: rest =>
    if d.winOnBus w then
      rest.foldl (fun d a => d.dropAccess w a) (d.setWin w fun x => { x with queue := [{ a with cancelled := true }] })
    else (a :: rest).foldl (fun d a => d.dropAccess w a) (d.setWin w fun x => { x with queue := [] })

/-- Another enabled window names the same frame. -/
def Dev.frameTaken (d : Dev) (w : Nat) : Bool :=
  (List.range 128).any fun v => v != w && d.get (Obj.winEnable v) == 1 && d.get (Obj.winQuay v) == d.get (Obj.winQuay w) &&
    d.get (Obj.winFrame v) == d.get (Obj.winFrame w)

/-- WIN_ENABLE. -/
def actWinEnable (w : Nat) : Act :=
  { check := fun _ v d => if v = 1 ∧ d.frameTaken w then Status.badValue else Status.success
    effect := fun _ v _ d => if v = 0 then (d.put (Obj.winEnable w) 0).disableWin w else d.put (Obj.winEnable w) 1 }

def execWinEnableWrite (c : Call) (w : Fin 128) (v : Nat) (s : State) : Host.Outcome State Fault Refusal :=
  writeRow (actWinEnable w) c (Obj.winEnable w) v s

/-- SENSOR_ENABLE: a sensor that is enabled reads its VOUT_MODE before it converts (R425). -/
def actSensorEnable (n : Nat) : Act :=
  { storeAct (Obj.sensorEnable n) with
    effect := fun c v r d =>
      let e := (storeAct (Obj.sensorEnable n)).effect c v r d
      if v = 1 ∧ d.get (Obj.sensorEnable n) = 0 then e.setSensor n fun x => { x with vout := none, fails := 0 } else e }

/-- A configuration object of a window other than WIN_ENABLE, WIN_HOLD and WIN_DISCARD_TIMER; WIN_QUAY names a Host quay. -/
def actWinConfig (w o : Nat) : Act :=
  { storeAct o with
    check := fun _ v d => firstStatus (if o = Obj.winQuay w ∧ d.role v ≠ 1 then Status.badValue else Status.success)
      (if d.get (Obj.winEnable w) = 1 then Status.busy else Status.success) }

/-! PMBus values (R425). -/

/-- A quotient rounded to nearest, ties away from zero. -/
def roundDiv (x : Int) (den : Nat) : Int :=
  let q : Int := ((2 * x.natAbs + den) / (2 * den) : Nat)
  if x < 0 then -q else q

/-- Y × 2^(N + 16), exact or rounded. -/
def scaleTwo (y n : Int) : Int := if -16 ≤ n then y * 2 ^ (n + 16).toNat else roundDiv y (2 ^ (-(n + 16)).toNat)

/-- The Q16.16 code of a number of 2^-16, saturated. -/
def saturateQ (x : Int) : Nat := ofSigned 32 (max (-(2 ^ 31)) (min (2 ^ 31 - 1) x))

/-- The formats of SENSOR_FORMAT: N and Y. -/
def pmbusParts (format vout raw : Nat) : Int × Int :=
  if format = 0 then (toSigned 5 (raw / 2 ^ 11), toSigned 11 raw)
  else if format = 1 then (toSigned 5 vout, (raw % 2 ^ 16 : Nat))
  else (0, (raw % 2 ^ 16 : Nat))

/-- A PMBus value as Q16.16 with a scale in Q16.16. -/
def pmbusValue (format vout raw scale : Nat) : Nat :=
  saturateQ (roundDiv (scaleTwo (pmbusParts format vout raw).2 (pmbusParts format vout raw).1 * toSigned 32 scale) 65536)

/-- VOUT_MODE gives a linear exponent. -/
def voutLinear (vout : Nat) : Bool := bits vout 5 3 == 0

/-! Sensors (R426). -/

/-- The code of a sensor's read: a bus that is STUCK fails it. -/
def Dev.sensorCode (d : Dev) (n code : Nat) : Nat :=
  if d.get (Obj.busState (d.get (Obj.sensorBus n))) = 2 then Far.busStuck else code

/-- The sensor is STALE, with one KIND 6 report. -/
def Dev.sensorStale (n code : Nat) (d : Dev) : Dev :=
  if d.get (Obj.sensorStatus n) = 2 then d
  else (d.put (Obj.sensorStatus n) 2).sbErr (0x100 + n) 0xFFFF (sbReport 6 code n 0 0 (d.get (Obj.sensorValue n)) 0)

/-- The status of a value against the limits: 3 HIGH, 4 LOW, 1 OK. -/
def limitStatus (v hi lo : Nat) : Nat :=
  if toSigned 32 hi < toSigned 32 v then 3 else if toSigned 32 v < toSigned 32 lo then 4 else 1

/-- A good reading. -/
def Dev.sensorGood (n raw : Nat) (d : Dev) : Dev :=
  let v := pmbusValue (d.get (Obj.sensorFormat n)) ((d.sensor n).vout.getD 0) raw (d.get (Obj.sensorScale n))
  let st := limitStatus v (d.get (Obj.sensorHigh n)) (d.get (Obj.sensorLow n))
  let fresh := !(d.sensor n).alarmed
  let d := (d.putAll [(Obj.sensorRaw n, raw % 2 ^ 16), (Obj.sensorValue n, v), (Obj.sensorStatus n, st)]).setSensor n fun x =>
    { x with fails := 0, alarmed := decide (st ≠ 1) }
  if st ≠ 1 ∧ fresh then d.sbErr (0x100 + n) 0xFFFF (sbReport 5 0 n 0 0 v 0) else d

/-- A read of the bridge's own can start: no transfer is in progress, and no alert response waits (R409). -/
def Dev.busFree (d : Dev) (b : Nat) : Bool := (d.bus b).job.isNone && !(d.bus b).alert

/-- The device of a sensor is read: PAGE if it differs, then the command. On a STUCK bus nothing is sent. -/
def Dev.sensorSends (n cmd len code : Nat) (d : Dev) : Dev :=
  let b := d.get (Obj.sensorBus n)
  let addr := d.get (Obj.sensorAddress n)
  let page := d.get (Obj.sensorPage n)
  if d.get (Obj.busState b) = 2 then d
  else
    let e := d.takeMode b
    if page = 0xFF then e.onBus b addr 1 cmd len 0 true false
    else ((e.sendPage b addr page).onBus b addr 1 cmd len 0 true false).keepPage b addr page code

/-- SENSOR_READ of an enabled sensor; while another transfer runs, or an alert response waits, it does not start (R409). In LINEAR16
it converts only with a linear VOUT_MODE. -/
def effSensorRead (n code data : Nat) (d : Dev) : Dev :=
  if d.get (Obj.sensorEnable n) = 0 ∨ !d.busFree (d.get (Obj.sensorBus n)) then d
  else
    let code := d.sensorCode n code
    let d := d.sensorSends n (d.get (Obj.sensorCommand n)) 2 code
    if code ≠ Far.ok then
      let d := (d.busFail (d.get (Obj.sensorBus n))).setSensor n fun x => { x with fails := min 3 (x.fails + 1) }
      if (d.sensor n).fails = 3 then d.sensorStale n code else d
    else if d.get (Obj.sensorFormat n) = 1 ∧ !((d.sensor n).vout.map voutLinear).getD false then d
    else d.sensorGood n data

def execSensorRead (n : Fin 64) (code data : Nat) (s : State) : Host.Outcome State Fault Refusal :=
  liveLift (effSensorRead n code data) s

/-- VOUT_MODE_READ of an enabled LINEAR16 sensor. -/
def effVoutModeRead (n code data : Nat) (d : Dev) : Dev :=
  if d.get (Obj.sensorEnable n) = 0 ∨ d.get (Obj.sensorFormat n) ≠ 1 ∨ !d.busFree (d.get (Obj.sensorBus n)) then d
  else
    let code := d.sensorCode n code
    let d := d.sensorSends n 0x20 1 code
    if code ≠ Far.ok then d.busFail (d.get (Obj.sensorBus n))
    else
      let d := d.setSensor n fun x => { x with vout := some (data % 256) }
      if voutLinear data then d else d.sensorStale n Far.badAccess

def execVoutModeRead (n : Fin 64) (code data : Nat) (s : State) : Host.Outcome State Fault Refusal :=
  liveLift (effVoutModeRead n code data) s

/-- The regulator of a rail is read: READ_VOUT, READ_IOUT and VOUT_MODE. -/
def Dev.railSends (r : Nat) (d : Dev) : Dev :=
  let addr := d.get (Obj.railPmbusAddr r)
  if d.get (Obj.busState 48) = 2 then d
  else (((d.takeMode 48).onBus 48 addr 1 0x8B 2 0 true false).onBus 48 addr 1 0x8C 2 0 true false).onBus 48 addr 1 0x20 1 0 true false

/-- RAIL_PMBUS_READ (R318): raw voltage (LINEAR16), raw current (LINEAR11) and VOUT_MODE; a regulator that does not answer
leaves its last reading and raises Type 48 once until it answers. It waits as a sensor's read does (R409). -/
def effRailPmbusRead (r : Nat) (reading : Option (Nat × Nat × Nat)) (d : Dev) : Dev :=
  if !d.busFree 48 then d else
  let d := d.railSends r
  match reading.filter fun x => voutLinear x.2.2 && d.get (Obj.busState 48) != 2 with
  | some (volts, current, vout) =>
    (d.putAll [(Obj.railVoltage r, pmbusValue 1 vout volts 65536), (Obj.railCurrent r, pmbusValue 0 0 current 65536)]).setTide
      fun t => { t with silent := setBit t.silent r false }
  | none =>
    let failed := reading.isNone || d.get (Obj.busState 48) == 2
    let e := (if failed then d.busFail 48 else d).setTide fun t => { t with silent := setBit t.silent r true }
    if bitAt d.tide.silent r then e else e.err { typ := 48, inst := r, unit := r }

def execRailPmbusRead (r : Fin 6) (reading : Option (Nat × Nat × Nat)) (s : State) : Host.Outcome State Fault Refusal :=
  liveLift (effRailPmbusRead r reading) s

end Sys2Proof.Machine
end

