-- ==== Sys2Proof/Machine/Observe.lean ====
section
/-!
DEFINITION. Counters, bandwidth windows, initiator statistics, telemetry, trace, the test access port, Drydock diagnostics
(R430 to R446), and the links of the management Ethernet ports (R315).
-/

namespace Sys2Proof.Machine

open Sys2Proof

/-! Counters (R431 to R433). -/

/-- The counter block of a unit (Table 16.1). -/
def ctrBlock : CtrUnit → Nat
  | .quay q => 0xC100 + q
  | .slice s => 0xC200 + s
  | .engine e => 0xC300 + e
  | .tide => 0xC400

/-- The filters that Table 16.4 gives an event, in the places of CTR_CONFIG [27:24] (class 8, address 4, master 2, privilege
1), by the block's unit; none when the event is not defined for it. -/
def eventFilters (block code : Nat) : Option Nat :=
  if code = 0 then some 0
  else if block < 0xC200 then
    if [0x01, 0x02, 0x03, 0x04, 0x0B].contains code then some 0
    else if [0x05, 0x06, 0x08].contains code then some 15
    else if [0x07, 0x09, 0x0A].contains code then some 8
    else none
  else if block < 0xC300 then
    if [0x24, 0x25, 0x26, 0x28].contains code then some 0
    else if [0x20, 0x21, 0x22, 0x23, 0x27].contains code then some 15
    else none
  else if block < 0xC400 then
    if code = 0x40 then some 6
    else if [0x41, 0x42, 0x43].contains code then some 2
    else if code = 0x44 then some 0
    else none
  else if [0x60, 0x61, 0x62, 0x63].contains code then some 0
  else none

/-- CTR_CONFIG names an event of its unit and no other filter. -/
def configOk (block v : Nat) : Bool :=
  match eventFilters block (bits v 0 8) with
  | none => false
  | some allowed => Nat.land (bits v 24 4) allowed == bits v 24 4

/-- A filter record with its reserved bytes 0; PRIV is 0 or 1. -/
def filterStored (v : Nat) : Nat := setBits v 40 24 0

/-- CTR_CONFIG. -/
def actCtrConfig (block o : Nat) : Act :=
  { check := fun _ v _ => if configOk block v then Status.success else Status.badValue
    effect := fun _ v _ d => d.put o (Nat.land v 0x8FFF00FF) }

/-- CTR_FILTER. -/
def actCtrFilter (o : Nat) : Act :=
  { check := fun _ v _ => if byteAt v 4 < 2 then Status.success else Status.badValue
    effect := fun _ v _ d => d.put o (filterStored v) }

/-- The object a counter configuration names. -/
def ctrConfigObj : CtrConfig → Nat
  | .config u k => 256 * ctrBlock u + 0x10 + k
  | .filter u k => 256 * ctrBlock u + 0x30 + k
  | .enable => Obj.countEnable

def actCounterConfig : CtrConfig → Act
  | .config u k => actCtrConfig (ctrBlock u) (256 * ctrBlock u + 0x10 + k)
  | .filter u k => actCtrFilter (256 * ctrBlock u + 0x30 + k)
  | .enable => storeAct Obj.countEnable

def execCounterConfigWrite (c : Call) (w : CtrConfig) (v : Nat) (s : State) : Host.Outcome State Fault Refusal :=
  writeRow (actCounterConfig w) c (ctrConfigObj w) v s

def execCtrValueWrite (c : Call) (u : CtrUnit) (k : Fin 8) (v : Nat) (s : State) : Host.Outcome State Fault Refusal :=
  writeRow (storeAct (256 * ctrBlock u + 0x20 + k)) c (256 * ctrBlock u + 0x20 + k) v s

def execCtrOverflowClear (c : Call) (u : CtrUnit) (v : Nat) (s : State) : Host.Outcome State Fault Refusal :=
  writeRow (storeAct (256 * ctrBlock u + 2)) c (256 * ctrBlock u + 2) v s

/-! Bandwidth windows (R434). -/

/-- A quay's window begins again. -/
def Dev.restartWindow (q : Nat) (waits : Bool) (d : Dev) : Dev :=
  d.setObs fun o => { o with rx := Tab.set 0 o.rx q 0, tx := Tab.set 0 o.tx q 0
                             restarted := if waits then q :: o.restarted.filter (· != q) else o.restarted.filter (· != q) }

/-- Payload bytes over a window in µs, in MB/s. -/
def bandwidth (bytes window : Nat) : Nat := min (bytes / window) 0xFFFFFFFF

/-- BW_WINDOW_END: after a write the first multiple only begins a window. -/
def effBwWindowEnd (q : Nat) (d : Dev) : Dev :=
  let w := d.get (Obj.bwWindow q)
  (if d.obs.restarted.contains q then d
   else d.putAll [(Obj.bwRx q, bandwidth (Tab.get 0 d.obs.rx q) w), (Obj.bwTx q, bandwidth (Tab.get 0 d.obs.tx q) w)]).restartWindow
    q false

def execBwWindowEnd (q : Fin 128) (s : State) : Host.Outcome State Fault Refusal := liveLift (effBwWindowEnd q) s

def actBwWindow (q : Nat) : Act := { effect := fun _ v _ d => (d.put (Obj.bwWindow q) v).restartWindow q true }

def execBwWindowWrite (c : Call) (q : Fin 128) (v : Nat) (s : State) : Host.Outcome State Fault Refusal :=
  writeRow (actBwWindow q) c (Obj.bwWindow q) v s

/-! Initiator statistics (R436). -/

def actInitClear (i : Nat) : Act :=
  { effect := fun _ _ _ d => d.putAll [(Obj.initCompleted i, 0), (Obj.initBytes i, 0), (Obj.initTimeouts i, 0),
      (Obj.latMin i, 0xFFFFFFFF), (Obj.latMax i, 0), (Obj.latSum i, 0), (Obj.latHist i, 0)] }

def execInitClear (c : Call) (i : Fin 40) (v : Nat) (s : State) : Host.Outcome State Fault Refusal :=
  writeRow (actInitClear i) c (Obj.initClear i) v s

/-! Telemetry (R437, Table 16.5). -/

/-- The common head of a record and its eight bytes of KIND and number. -/
def tlmHead (seq time kind unit : Nat) : Nat := seq + time * 2 ^ 64 + kind * 2 ^ 128 + unit * 2 ^ 136

/-- The four words at bytes 32 to 47 and the four bytes at 48 to 51. -/
def tlmBody (w0 w1 w2 w3 b0 b1 b2 b3 : Nat) : Nat :=
  w0 * 2 ^ 256 + w1 * 2 ^ 288 + w2 * 2 ^ 320 + w3 * 2 ^ 352 + b0 * 2 ^ 384 + b1 * 2 ^ 392 + b2 * 2 ^ 400 + b3 * 2 ^ 408

/-- The device record. -/
def Dev.tlmDevice (d : Dev) : Nat :=
  tlmHead 0 d.time 1 0 + tlmBody (d.get Obj.powerMeasured) (d.get Obj.tjMax) (d.get Obj.coreCurrentEst)
    (d.get Obj.coreRate + d.powerLimit * 2 ^ 16) d.mode d.power (d.get Obj.timeState) 0

/-- The largest of eight samples. -/
def Dev.largest (d : Dev) (o : Nat → Nat) : Nat := listMax 0 ((List.range 8).map fun c => d.get (o c))

/-- A quay record. -/
def Dev.tlmQuay (d : Dev) (q : Nat) : Nat :=
  let depth := d.largest (Obj.depthSample q)
  let cls := ((List.range 8).find? fun c => d.get (Obj.depthSample q c) == depth).getD 0
  tlmHead 0 d.time 2 q + tlmBody (d.get (Obj.bwRx q)) (d.get (Obj.bwTx q)) depth (d.largest (Obj.delaySample q)) cls
    (d.get (Obj.currentRate q)) (d.get (Obj.currentWidth q)) (d.qstate q)

/-- A slice record: the slice's own counts of the period. -/
def Dev.tlmSlice (d : Dev) (s : Nat) : Nat :=
  let x := d.slice s
  tlmHead 0 d.time 3 s + tlmBody (Tab.get 0 d.obs.period (2 * s)) (Tab.get 0 d.obs.period (2 * s + 1))
    (x.txs.length + x.alloc.length * 2 ^ 16) x.dir.length (d.get (Obj.sliceState s)) 0 0 0

/-- The records of one period, in order, without their numbers. -/
def Dev.tlmSet (d : Dev) : List Nat :=
  let quays := (maskBits (d.get Obj.tlmQuayMask) 128).filter fun q => d.qstate q != 0 && d.qstate q != 5 && !quayAbsent d.part q
  let slices := if d.get Obj.tlmSlices = 1 then (List.range 16).filter fun s => d.get (Obj.sliceState s) == 0 else []
  [d.tlmDevice] ++ quays.map d.tlmQuay ++ slices.map d.tlmSlice

/-- A record takes the next number; the buffer keeps the latest 4,096. -/
def Dev.tlmKeep (r : Nat) (d : Dev) : Dev :=
  let n := d.get Obj.tlmSeq + 1
  (d.put Obj.tlmSeq n).setObs fun o => { o with
    records := (if 4096 ≤ o.records.length then o.records.drop 1 else o.records) ++ [n + r] }

/-- TELEMETRY_PERIOD. -/
def effTelemetryPeriod (d : Dev) : Dev :=
  (if d.get Obj.tlmEnable = 1 then d.tlmSet.foldl (fun d r => d.tlmKeep r) d else d).setObs fun o => { o with period := [] }

def execTelemetryPeriod (s : State) : Host.Outcome State Fault Refusal := liveLift effTelemetryPeriod s

/-! Trace (R440). -/

/-- WRONG_MODE at D0. -/
def checkTrace (_ : Call) (_ : Nat) (d : Dev) : Nat := if d.get Obj.debugLevel = 0 then Status.wrongMode else Status.success

def actTraceStart : Act := { check := checkTrace, effect := fun _ _ _ d => d.traceTo d.traceRuns }

def execTraceStart (c : Call) (v : Nat) (s : State) : Host.Outcome State Fault Refusal :=
  writeRow actTraceStart c Obj.traceStart v s

def actTraceStop : Act := { effect := fun _ _ _ d => d.put Obj.traceState 0 }

def execTraceStop (c : Call) (v : Nat) (s : State) : Host.Outcome State Fault Refusal :=
  writeRow actTraceStop c Obj.traceStop v s

/-- A port code of TRACE_CONTROL: a crossbar input, or 0xFF for none (R438). -/
def tracePortOk (p : Nat) : Bool := decide (p < 196) || p == 0xFF

/-- TRACE_CONTROL. A write that uses an undefined port code is refused (R5). -/
def actTraceControl : Act :=
  { storeAct Obj.traceControl with
    check := fun c v d => firstStatus
      (if tracePortOk (byteAt v 1) && tracePortOk (byteAt v 2) then Status.success else Status.badValue) (checkTrace c v d) }

/-- TRACE_FILTER. -/
def actTraceFilter : Act :=
  { check := fun c v d => firstStatus (if byteAt v 4 < 2 then Status.success else Status.badValue) (checkTrace c v d)
    effect := fun _ v _ d => d.put Obj.traceFilter (filterStored v) }

/-! The test access port (R441, R442). Table 16.7 codes; what leaves by JTAG_TDO is a `proto` answer of protocol 6. -/

/-- The port works whenever VAUX is good. -/
def Dev.tapLive (f : Dev → Dev) (d : Dev) : Dev := if d.boot = .off then d else f d

/-- Every quay in L0 leaves it and is HELD. -/
def Dev.scanHolds (d : Dev) : Dev := d.forEach ((List.range 128).filter d.isUp) Dev.holdLink

/-- The instruction register takes a code. A test that takes effect holds the quays; one that no longer does lets them train. Where
a test is not allowed it acts as BYPASS, until the device enters a state that allows it. -/
def Dev.putTap (code : Nat) (d : Dev) : Dev :=
  let e := d.setObs fun o => { o with tap := code }
  if e.scanned then e.scanHolds else e.scanEnds d.scanned

/-- An instruction. -/
def effTap (code : Nat) (d : Dev) : Dev := d.tapLive (Dev.putTap code)

def execExtest (s : State) : Host.Outcome State Fault Refusal := lift (effTap 0x00) s

def execClamp (s : State) : Host.Outcome State Fault Refusal := lift (effTap 0x03) s

def execHighz (s : State) : Host.Outcome State Fault Refusal := lift (effTap 0x04) s

def execExtestPulse (s : State) : Host.Outcome State Fault Refusal := lift (effTap 0x05) s

def execExtestTrain (s : State) : Host.Outcome State Fault Refusal := lift (effTap 0x06) s

def execBypass (s : State) : Host.Outcome State Fault Refusal := lift (effTap 0xFF) s

/-- Test-Logic-Reset loads IDCODE. -/
def execTapReset (s : State) : Host.Outcome State Fault Refusal := lift (effTap 0x02) s

/-- SAMPLE/PRELOAD: the levels of the balls are captured (a free value) and the boundary register is loaded. -/
def effSamplePreload (v : Nat) (d : Dev) : Dev :=
  d.tapLive fun d => (((d.putTap 0x01).setObs fun o => { o with boundary := v }).send (.proto 6 1 0 d.draw)).drawn

def execSamplePreload (v : Nat) (s : State) : Host.Outcome State Fault Refusal := lift (effSamplePreload v) s

/-- The IDCODE value. -/
def idcode (p : Sys2Proof.Part) : Nat :=
  Config.siliconRevision % 16 * 2 ^ 28 + (if p = .w512 then 0x0512 else 0x0384) * 2 ^ 12 + 0x2B7 * 2 + 1

def effIdcode (d : Dev) : Dev :=
  d.tapLive fun d => (d.putTap 0x02).send (.proto 6 2 0 (idcode d.part))

def execIdcode (s : State) : Host.Outcome State Fault Refusal := lift effIdcode s

/-- STATUS of a debug access to an address: 1 DENIED, 2 UNPOWERED, 0 OK. At D2 the key store is locked (Table 12.14). An access is done
at once, so that none finds the port BUSY. -/
def Dev.debugStatus (d : Dev) (addr : Nat) : Nat :=
  let domain := bits addr 28 4
  let level := d.get Obj.debugLevel
  if level < 2 ∨ (domain = 4 ∧ level < 3) ∨ Config.udsAddress addr ∨ (level = 2 ∧ Config.keyStoreAddress addr) then 1
  else if (domain = 1 ∨ domain = 2) ∧ !d.coreOn then 2
  else 0

/-- DEBUG_ACCESS: what the domain's register holds is a free value, since the registers are not described. -/
def effDebugAccess (a : Nat) (d : Dev) : Dev :=
  d.tapLive fun d =>
    let op := bits a 94 2
    let st := d.debugStatus (bits a 32 32)
    let reads := op = 1 ∧ st = 0
    let data := if reads then d.draw % 2 ^ 32 else bits a 0 32
    let captured := op * 2 ^ 94 + st * 2 ^ 92 + bits a 32 32 * 2 ^ 32 + data
    (((if reads then d.drawn else d).putTap 0x10).setObs fun o => { o with debug := captured }).send (.proto 6 0x10 st captured)

def execDebugAccess (a : Nat) (s : State) : Host.Outcome State Fault Refusal := lift (effDebugAccess a) s

/-! Traffic generators (R443, Table 16.8). -/

def tgQuay (v : Nat) : Nat := byteAt v 0
def tgKind (v : Nat) : Nat := byteAt v 1
def tgSize (v : Nat) : Nat := byteAt v 2
def tgClass (v : Nat) : Nat := bits v 24 3
def tgStopOnError (v : Nat) : Bool := bitAt v 31
def tgBase (v : Nat) : Nat := bytesAt v 8 8
def tgSpan (v : Nat) : Nat := bytesAt v 16 8
def tgCount (v : Nat) : Nat := bytesAt v 24 4
def tgInterval (v : Nat) : Nat := bytesAt v 28 4

/-- The configuration meets Table 16.8. -/
def Dev.tgOk (d : Dev) (v : Nat) : Bool :=
  decide (tgQuay v < 128) && !quayAbsent d.part (tgQuay v) && (d.role (tgQuay v) == 1 || d.role (tgQuay v) == 2) &&
  decide (1 ≤ tgKind v ∧ tgKind v ≤ 3 ∧ 1 ≤ tgSize v ∧ tgSize v ≤ 64 ∧ tgBase v % 64 = 0 ∧ tgSpan v % 64 = 0 ∧ 0 < tgSpan v) &&
  (d.role (tgQuay v) != 1 || tgSize v == 1)

def Dev.gen (d : Dev) (g : Nat) : Gen := Tab.get {} d.obs.gens g

def Dev.setGen (g : Nat) (f : Gen → Gen) (d : Dev) : Dev :=
  d.setObs fun o => { o with gens := Tab.set {} o.gens g (f (d.gen g)) }

/-- The data of a write: each 8 B word holds its own address. -/
def tgPattern (addr bytes : Nat) : Nat :=
  ((List.range (bytes / 8)).map fun i => (addr + 8 * i) % 2 ^ 64 * 2 ^ (64 * i)).sum

/-- The message of a request. -/
def Dev.tgMsg (d : Dev) (v addr : Nat) (write : Bool) : Msg :=
  let n := 64 * tgSize v
  let q := tgQuay v
  if d.role q = 1 then
    if write then { chan := .m2sRwD, op := .write, addr := addr, len := 64, size := 64, data := tgPattern addr 64 }
    else { chan := .m2sReq, op := .uncachedRd, addr := addr, size := 64 }
  else
    { chan := if write then .posted else .nonPosted, sort := if write then .memWrite else .memRead, tc := tgClass v, addr := addr
      len := if write then n else 0, size := n, dest := (d.hierarchyOf q).getD q, data := if write then tgPattern addr n else 0 }

/-- A request enters at the input of the quay, as the partner's would. -/
def Dev.injectTest (q level : Nat) (m : Msg) (d : Dev) : Dev :=
  if crosses4K m then ((d.count Obj.malformedDrops 1).send (.aer q 1)).err { typ := 6, inst := q, unit := q }
  else
    let i := d.inputOf q level m
    match d.heldBy q i m with
    | some ms => d.setCustoms fun c => { c with held := c.held ++ [{ master := ms, input := i, quay := q, msg := m, level := level }] }
    | none => d.checkTest (d.checker i 0) q level m

/-- The generator issues its next request; with COUNT requests issued it is DONE. Under KIND 3 each write is followed by the read
of its line. -/
def Dev.tgIssue (g : Nat) (d : Dev) : Dev :=
  let v := d.get (Obj.tgConfig g)
  let n := d.get (Obj.tgIssued g)
  let back := tgKind v == 3 && n % 2 == 1
  let addr := tgBase v + (if tgKind v = 3 then n / 2 else n) * (64 * tgSize v) % tgSpan v
  let write := tgKind v == 2 || (tgKind v == 3 && !back)
  let d := ((d.put (Obj.tgIssued g) (n + 1)).setGen g fun _ => { busy := true, addr := addr, readBack := back, start := d.time }).putIf
    (decide (tgCount v ≠ 0 ∧ tgCount v ≤ n + 1)) (Obj.tgState g) 2
  d.injectTest (tgQuay v) (tgClass v % 4) (d.tgMsg v addr write)

/-- The next request of a generator: as fast as admitted, or INTERVAL ns after the start of the last, for which it waits. One request
is open at a time (DESIGN CHOICE, log entry 125). -/
def Dev.tgNext (g : Nat) (d : Dev) : Dev :=
  if (d.gen g).start + tgInterval (d.get (Obj.tgConfig g)) ≤ d.time ∨ tgInterval (d.get (Obj.tgConfig g)) = 0 then d.tgIssue g
  else d.setGen g fun x => { x with waits := true }

/-- The generators whose INTERVAL has passed go on. -/
def Dev.tgGoOn (d : Dev) : Dev :=
  d.forEach ((List.range 4).filter fun g => (d.gen g).waits) fun g d =>
    if (d.gen g).start + tgInterval (d.get (Obj.tgConfig g)) ≤ d.time then d.tgIssue g else d

/-- TG_START: BUSY while RUNNING, BAD_VALUE with a configuration that breaks Table 16.8. -/
def actTgStart (g : Nat) : Act :=
  { check := fun _ _ d => if !d.tgOk (d.get (Obj.tgConfig g)) then Status.badValue
      else if d.get (Obj.tgState g) = 1 then Status.busy else Status.success
    effect := fun _ _ _ d =>
      (d.putAll [(Obj.tgState g, 1), (Obj.tgIssued g, 0), (Obj.tgFirstError g, 0)]).tgIssue g }

def execTgStart (c : Call) (g : Fin 4) (v : Nat) (s : State) : Host.Outcome State Fault Refusal :=
  writeRow (actTgStart g) c (Obj.tgStart g) v s

/-- TG_STOP. -/
def actTgStop (g : Nat) : Act :=
  { effect := fun _ _ _ d => (d.put (Obj.tgState g) 0).setGen g fun _ => {} }

def execTgStop (c : Call) (g : Fin 4) (v : Nat) (s : State) : Host.Outcome State Fault Refusal :=
  writeRow (actTgStop g) c (Obj.tgStop g) v s

/-- What was wrong with a request (TG_FIRST_ERROR): 0 nothing. -/
def tgError (v : Nat) (x : Gen) : TgResult → Nat
  | .good data => if x.readBack && data != tgPattern x.addr (64 * tgSize v) then 1 else 0
  | .poison => 2
  | .error => 3
  | .timeout => 4

/-- TG_REQUEST_RESULT. -/
def effTgRequestResult (g : Nat) (r : TgResult) (d : Dev) : Dev :=
  let x := d.gen g
  let v := d.get (Obj.tgConfig g)
  if !x.busy then d
  else
    let e := tgError v x r
    let d := d.setGen g fun x => { x with busy := false }
    let d := if e = 0 then d
      else (d.count (Obj.tgErrors g) 1).putIf (d.get (Obj.tgFirstError g) == 0) (Obj.tgFirstError g) (x.addr + e * 2 ^ 64)
    if d.get (Obj.tgState g) ≠ 1 then d
    else if e ≠ 0 ∧ tgStopOnError v then d.put (Obj.tgState g) 3
    else d.tgNext g

def execTgRequestResult (g : Fin 4) (r : TgResult) (s : State) : Host.Outcome State Fault Refusal :=
  liveLift (effTgRequestResult g r) s

/-! PRBS (R444). -/

/-- PRBS on a quay ends: it trains again, unless something else keeps it DOWN (R89). -/
def Dev.prbsEnds (q : Nat) (d : Dev) : Dev := if d.qstate q = 1 then d.tryTrain q else d

/-- A write to PRBS_QUAY or PRBS_PATTERN: the counts start again, the quay under PRBS is DOWN, and one that leaves it trains. -/
def Dev.setPrbs (q pattern : Nat) (d : Dev) : Dev :=
  let was := d.get Obj.prbsQuay
  let ran := d.get Obj.prbsPattern ≠ 0
  let d := d.putAll [(Obj.prbsQuay, q), (Obj.prbsPattern, pattern), (Obj.prbsErrors, 0)]
  let d := if pattern ≠ 0 ∧ d.positions q ≠ 0 ∧ d.qstate q ≠ 1 then d.declareDown q .none else d
  if ran ∧ (pattern = 0 ∨ was ≠ q) then d.prbsEnds was else d

def actPrbsPattern : Act := { effect := fun _ v _ d => d.setPrbs (d.get Obj.prbsQuay) v }

def actPrbsQuay : Act := { effect := fun _ v _ d => d.setPrbs v (d.get Obj.prbsPattern) }

def execPrbsPatternWrite (c : Call) (v : Nat) (s : State) : Host.Outcome State Fault Refusal :=
  writeRow actPrbsPattern c Obj.prbsPattern v s

/-! Management Ethernet (R315). -/

/-- ETH_LINK_CHANGE: ETH_LINK_STATE reads 1 UP or 0 DOWN; a port that is disabled has no link. -/
def effEthLinkChange (p : Nat) (up : Bool) (d : Dev) : Dev :=
  d.put (Obj.ethLinkState p) (b2n (up && d.get (Obj.ethEnable p) == 1))

def execEthLinkChange (p : Fin 2) (up : Bool) (s : State) : Host.Outcome State Fault Refusal := liveLift (effEthLinkChange p up) s

/-- ETH_ENABLE = 0 takes the link down. -/
def actEthEnable (p : Nat) : Act :=
  { effect := fun _ v _ d => (d.put (Obj.ethEnable p) v).putIf (v == 0) (Obj.ethLinkState p) 0 }

end Sys2Proof.Machine
end

