-- ==== Sys2Proof/Machine/Views.lean ====
section
/-!
DEFINITION. What a read of an object returns (R2, R261, R285, R289, R293, R303, R349, R407, R445), and the directory
(Table 10.5).
-/

namespace Sys2Proof.Machine

open Sys2Proof

/-! Units that are fenced or absent (R2). -/

/-- What an object of a fenced or absent unit reads: the unit's state FENCED, else the default. -/
def Dev.fencedRead (d : Dev) (o : Nat) : Nat :=
  let i := o / 256
  if i / 256 = 0x20 ∧ 0x10 ≤ i % 256 ∧ o % 256 = 2 then 3
  else if i / 256 = 0x21 ∧ o % 256 = 1 then 5
  else if i / 256 = 0x40 ∧ o % 256 = 1 then 4
  else if i / 256 = 0x60 ∧ o % 256 = 1 then 3
  else objDefault d.part o

/-! Management (10). -/

/-- The objects of a row. -/
def Row.count (r : Row) : Nat := r.idxN * r.subN

/-- Every row that exists in the present mode. -/
def Dev.rows (d : Dev) : List Row := (List.range (if d.mode = 4 then 16 else 15)).flatMap rowsOf

/-- SESSION_VIEW (Table 10.18). -/
def Dev.sessionView (d : Dev) (n : Nat) : Nat :=
  match d.session n with
  | none => 0
  | some s =>
    let mctp := decide (3 ≤ s.binding.transport)
    2 + d.sessionRole s * 2 ^ 8 + s.cred * 2 ^ 16 + s.binding.transport * 2 ^ 24 +
      (if mctp then byteAt s.binding.source 0 + byteAt s.binding.port 0 * 2 ^ 8 else bytesAt s.binding.source 0 4) * 2 ^ 32 +
      (if mctp then 0 else bytesAt s.binding.port 0 2) * 2 ^ 64 + s.openTime * 2 ^ 128 + s.lastSeq * 2 ^ 192

/-- The persistent-on-commit objects. -/
def pocKeys : List Nat :=
  ((List.range 15).flatMap rowsOf).flatMap fun r =>
    if r.pers = .poc then (List.range r.idxN).flatMap fun i => (List.range r.subN).map fun j => 256 * (r.idx + r.idxStep * i) + r.sub + j
    else []

/-- The stored value of a persistent-on-commit object. -/
def Dev.storedValue (d : Dev) (o : Nat) : Nat := Tab.get (objDefault d.part o) d.stored o

/-- UNSTORED_COUNT: objects whose value in force is not the stored one. -/
def Dev.unstored (d : Dev) : Nat := (pocKeys.filter fun o => d.get o != d.storedValue o).length

/-- The logged event with a number, else the oldest (R310). -/
def Dev.logEvent (d : Dev) (n : Nat) : Option Event :=
  match d.mgmt.eventLog.find? (·.seq == n) with
  | some e => some e
  | none => d.mgmt.eventLog.head?

/-- A caller's own copy of EVENT_MASK (R293). -/
def Dev.maskOf (d : Dev) (c : Caller) : Nat :=
  match d.session (callerSlot c) with
  | some s => s.mask
  | none => d.get Obj.eventMask

/-- JOURNAL_WEAR: 0 at manufacture, then a free function of the commits that the journal has held (log entry 118). -/
def Dev.wear (d : Dev) : Nat :=
  if d.get Obj.commitSeq = objDefault d.part Obj.commitSeq then 0 else Config.journalWear (d.get Obj.commitSeq) % 101

def Dev.viewManage (c : Caller) (o : Nat) (d : Dev) : Nat :=
  if o = Obj.firmwareVersion then (d.bw.running.map (·.version)).getD 0
  else if o = Obj.firmwareSlot then d.bw.runSlot
  else if o = Obj.objectCount then (d.rows.map Row.count).sum
  else if o = Obj.sessionCount then d.mgmt.sessions.length
  else if o = Obj.sessionsFree then 16 - d.mgmt.sessions.length
  else if o = Obj.mySession then callerSlot c
  else if o / 256 = 0x1011 then d.sessionView (o % 256)
  else if o = Obj.unstoredCount then d.unstored
  else if o = Obj.journalWear then d.wear
  else if o = Obj.eventMask then d.maskOf c
  else if o = Obj.eventLog then ((d.logEvent (d.get Obj.eventLogSelect)).map Event.record).getD 0
  else if o = Obj.fabricTime then d.time
  else d.get o

/-! Quays, switch and slices (3 to 6). -/

def Dev.viewCore (o : Nat) (d : Dev) : Nat :=
  let i := o / 256
  let sub := o % 256
  if o = Obj.hostQuayCount then d.hostRoles
  else if o = Obj.activeQuayCount then (d.allQuays.filter d.isUp).length
  else if i / 256 = 0x21 ∧ sub = 0x11 then (if d.role (i % 256) = 3 then 0 else d.get o)
  else if o = Obj.sharedFree then d.sharedFree
  else if o = Obj.activeSliceCount then ((List.range 16).filter fun s => d.get (Obj.sliceState s) == 0).length
  else if 0x4010 ≤ i ∧ i < 0x4020 then
    let x := d.slice (i - 0x4010)
    match sub with
    | 2 => x.lines.length
    | 3 => x.dir.length
    | 4 => x.txs.length
    | 5 => x.alloc.length
    | _ => d.get o
  else d.get o

/-! Pooled memory (7). -/

/-- Pages of all enabled devices in a state. -/
def Dev.poolIn (d : Dev) (st : Nat) : Nat := ((List.range 64).map fun m => d.pagesIn m st).sum

/-- MIG_STATE: 0 FREE, 1 STARTING, 2 COPYING, 3 FINISHING, 4 REVERSING, 5 PAUSED. -/
def Dev.migState (d : Dev) (g : Mig) : Nat :=
  if d.mode = 5 ∨ !d.coreOn ∨ (!g.copying ∧ !g.finishing ∧ !d.spanRuns g) then 5
  else if g.reversing then 4
  else if g.finishing then 3
  else if d.fenced g.index ∧ g.bitmap = 0 ∧ !g.copying then 1
  else 2

/-- An object of a migration slot. -/
def Dev.migView (d : Dev) (m sub : Nat) : Nat :=
  match d.pool.migs.find? (·.slot == m) with
  | none => 0
  | some g =>
    match sub with
    | 1 => d.migState g
    | 2 => g.index
    | 3 => g.dstDev * 2 ^ 32 + g.dstPage
    | 4 => g.bitmap
    | 5 => g.current
    | _ => g.start

def Dev.viewPool (o : Nat) (d : Dev) : Nat :=
  let i := o / 256
  let sub := o % 256
  if o = Obj.poolPagesTotal then d.poolTotal
  else if o = Obj.poolPagesFree then d.poolIn 0
  else if o = Obj.poolPagesZeroing then d.poolIn 2
  else if o = Obj.poolPagesUsed then d.poolIn 1
  else if o = Obj.ledgerState then d.ledgerState
  else if o = Obj.ledgerReadValue then d.ledgerAt (d.get Obj.ledgerReadIndex)
  else if o = Obj.migrationsInFlight then d.pool.migs.length
  else if o = Obj.poisonListUsed then d.pool.poison.length
  else if 0x5080 ≤ i ∧ i < 0x50C0 ∧ sub = 7 then d.devState (i - 0x5080)
  else if 0x5080 ≤ i ∧ i < 0x50C0 ∧ sub = 8 then d.pagesIn (i - 0x5080) 0
  else if i / 256 = 0x57 then d.migView (i % 256) sub
  else d.get o

/-! Crane (8). -/

/-- State of an instance: 0 UNBOUND, 1 BOUND, 2 RUNNING, 3 IMPOUNDED, 4 RESETTING. -/
def Dev.instState (d : Dev) (i : Nat) : Nat :=
  let x := d.inst i
  if !x.bound then 0 else if x.resetting then 4 else if d.impounded (instMaster i) then 3 else if x.enable then 2 else 1

/-- Queues of an instance that are not ABSENT. -/
def Dev.queuesOf (d : Dev) (i : Nat) : List Queue := d.crane.queues.filter fun q => q.inst == i && q.state != .absent

/-- INST_VIEW (R261). -/
def Dev.instView (d : Dev) (i : Nat) : Nat :=
  (d.inst i).config i + (d.queuesOf i).length * 2 ^ 256 + d.instState i * 2 ^ 272 + d.instUsed i * 2 ^ 288 +
    (d.inst i).bytes % 2 ^ 64 * 2 ^ 320

/-- A mask of the numbers below `n` that `p` selects. -/
def maskFrom (n : Nat) (p : Nat → Bool) : Nat := ((List.range n).filter p).foldl (fun v i => v + 2 ^ i) 0

def Dev.viewCrane (o : Nat) (d : Dev) : Nat :=
  let i := o / 256
  let sub := o % 256
  let sel := d.get Obj.instSelect
  if o = Obj.activeEngineCount then d.activeEngineCount
  else if o = Obj.queueContextsFree then 16384 - d.contextsBut 4096
  else if 0x6010 ≤ i ∧ i < 0x6020 ∧ sub = 1 then
    if d.get o = 0 ∧ d.get (Obj.sliceState (i - 0x6010)) = 1 then 1 else d.get o
  else if 0x6010 ≤ i ∧ i < 0x6020 ∧ sub = 2 then
    (d.crane.queues.filter fun q => q.state != .absent && d.engineOf q.inst q.qid == i - 0x6010).length
  else if 0x6010 ≤ i ∧ i < 0x6020 ∧ sub = 3 then (d.pool.migs.filter (·.engine == i - 0x6010)).length
  else if o = Obj.instView then d.instView sel
  else if o = Obj.instBoundCount then (d.crane.insts.filter (·.2.bound)).length
  else if o = Obj.mboxPending then maskFrom 4096 fun k => (d.inst k).h2mPost
  else if o = Obj.mboxH2m then sel + (d.inst sel).h2m * 2 ^ 64
  else d.get o

/-! Customs (9). -/

/-- The entry that REGION_SELECT names: of an internal master, a built-in one. -/
def Dev.regionEntry (d : Dev) (m n : Nat) : Nat :=
  if engineKind m || coreKind m then (d.internalRegions m).getD n 0 else d.newestTable.region m n

/-- MASTER_VIEW (Table 9.11). -/
def Dev.masterView (d : Dev) (m : Nat) : Nat :=
  m + b2n (d.impounded m) * 2 ^ 16 + b2n (d.newestTable.privileged m) * 2 ^ 24 +
    (if engineKind m || coreKind m then (d.internalRegions m).length
     else ((d.newestTable.regionsOf m).filter fun p => regionValid p.2).length) * 2 ^ 32 +
    ((d.heldOf m).length + d.heldStores m) * 2 ^ 64 + Tab.get 0 d.customs.counts m * 2 ^ 96

def Dev.viewCustoms (o : Nat) (d : Dev) : Nat :=
  let sel := d.get Obj.regionSelect
  if o = Obj.regionsFree then 32768 - d.newestTable.used
  else if o = Obj.impoundedCount then d.customs.frozen.length
  else if o = Obj.heldRequests then d.customs.held.length + (d.customs.frozen.map d.heldStores).sum
  else if o = Obj.impoundedSlots then maskFrom 64 fun h => d.impounded (slotMaster h)
  else if o = Obj.impoundedEndpoints then maskFrom 128 fun q => d.impounded (endpointMaster q)
  else if o = Obj.impoundedInstances then maskFrom 4096 fun i => d.impounded (instMaster i)
  else if o = Obj.impoundedInternal then maskFrom 24 fun e => d.impounded (engineMaster e)
  else if o = Obj.regionView then sel % 2 ^ 24 + d.regionEntry (sel % 2 ^ 16) (bits sel 16 8) * 2 ^ 64
  else if o = Obj.masterView then d.masterView (d.get Obj.masterSelect)
  else if o = Obj.masterViolation then Tab.get 0 d.customs.violations (d.get Obj.masterSelect)
  else d.get o

/-! Tide, Breakwater, faults, the bridge and observability (11, 12, 14 to 16). -/

/-- COOLDOWN_REMAINING, in ms. -/
def Dev.coolLeft (d : Dev) (s : Nat) : Nat :=
  if (d.slotCh s).cooling then min 500 (((d.slotCh s).coolEnd - d.time + 999999) / 1000000) else 0

/-- CREDENTIAL reads with its PSK bytes 0 (R349). -/
def credShown (v : Nat) : Nat := if credKind v = 2 then v - bytesAt v 16 48 * 2 ^ 128 else v

def Dev.viewPower (o : Nat) (d : Dev) : Nat :=
  let i := o / 256
  let sub := o % 256
  if o = Obj.powerLimitInForce then d.powerLimit
  else if o = Obj.agingOffset then d.draw % 256
  else if 0x8100 ≤ i ∧ i < 0x8130 ∧ (sub = 0x10 ∨ sub = 0x11 ∨ sub = 0x12) then
    d.draw % (65536 * (if sub = 0x12 then 25 else 16) + 1)
  else if 0x8100 ≤ i ∧ i < 0x8130 ∧ sub = 0x14 then d.coolLeft (i - 0x8100)
  else if 0x8180 ≤ i ∧ i < 0x8182 ∧ (sub = 5 ∨ sub = 6 ∨ sub = 7) then
    d.draw % (65536 * (if sub = 7 then 150 else 64) + 1)
  else d.get o

def Dev.viewSecurity (o : Nat) (d : Dev) : Nat :=
  if o / 256 = 0x9020 ∧ o ≠ Obj.vendorCredential then credShown (d.get o)
  else if o = Obj.credentialCount then ((List.range 63).filter fun k => credKind (d.cred k) != 0).length
  else if o = Obj.provisioningOpen then b2n d.provisioning
  else if o = Obj.deviceidPublic then if d.bw.udsBlown then 0 else Config.deviceIdPublic
  else if o = Obj.aliasPublic then if d.bw.udsBlown then 0 else Config.aliasPublic d.bw.bootLayer
  else if o = Obj.measurementDigest then Config.measurementDigest d.bw.bootBlocks
  else if o = Obj.svnRunning then d.runningSvn
  else d.get o

/-- SOURCE_VIEW (Table 14.12). -/
def Dev.sourceView (d : Dev) (src : Nat) : Nat :=
  let x := d.srcCount src
  src + x.count * 2 ^ 32 + x.first * 2 ^ 64 + x.last * 2 ^ 128 + x.cls * 2 ^ 192 + x.typ * 2 ^ 208

/-- The telemetry record that TLM_READ_SEQ names, else the oldest held. -/
def Dev.tlmRecord (d : Dev) (n : Nat) : Nat :=
  match d.obs.records.find? (· % 2 ^ 64 == n) with
  | some r => r
  | none => d.obs.records.headD 0

/-- Trace objects read 0 at D0 (Table 12.17). -/
def Dev.traceSeen (d : Dev) : List Nat := if d.get Obj.debugLevel = 0 then [] else d.obs.trace

/-- The cache line in a way of a set of a slice. -/
def Dev.lineIn (d : Dev) (s set way : Nat) : Option SLine :=
  (d.slice s).lines.find? fun l => cacheSet l.key == set && l.way == way

/-- A directory entry as Table 6.3 lists its fields, from bit 0 on (DESIGN CHOICE, log entry 125); TAG is a free value, since the spec
does not say which bits of the key it leaves out. -/
def Dev.dirWord (d : Dev) (s tag : Nat) (x : DirEnt) : Nat :=
  let hs := match x.hs with
    | .none => 0 | .shared => 1 | .excl => 2
  tag + hs * 2 ^ 32 + x.ptrs.length * 2 ^ 34 + (x.ptrs.zipIdx.map fun p => p.1 * 2 ^ (37 + 6 * p.2)).sum + b2n x.ovf * 2 ^ 61 +
    b2n x.peer * 2 ^ 62 + b2n ((d.slice s).txs.any fun t => t.key == x.key) * 2 ^ 63

/-- ARRAY_DATA (R445): the 64 B of a cache line that is held; a tag or a directory entry in its low bytes. What an empty way holds, and
the layout of a tag, the spec does not give. -/
def Dev.arrayRead (d : Dev) : Nat :=
  let v := d.get Obj.arraySelect
  let s := byteAt v 0
  if byteAt v 1 = 0 then ((d.lineIn s (bytesAt v 4 4) (byteAt v 2)).map (·.data)).getD (d.draw % 2 ^ 512)
  else if byteAt v 1 = 1 then d.draw % 2 ^ 64
  else match (d.slice s).dir.find? fun x => dirSet x.key == bytesAt v 4 4 && x.way == byteAt v 2 with
    | some x => d.dirWord s (d.draw % 2 ^ 32) x
    | none => d.draw % 2 ^ 64

def Dev.viewWatch (o : Nat) (d : Dev) : Nat :=
  let i := o / 256
  if o = Obj.sourceView then d.sourceView (d.get Obj.sourceSelect)
  else if o = Obj.discardLogEntry then d.side.log.getD (d.get Obj.discardLogSelect) 0
  else if o = Obj.rateMeasured then d.draw % 4001
  else if o = Obj.tlmRecord then d.tlmRecord (d.get Obj.tlmReadSeq)
  else if o = Obj.traceCount then d.traceSeen.length
  else if o = Obj.traceRecord then d.traceSeen.getD (d.get Obj.traceReadIndex) 0
  else if i / 256 = 0xC1 ∧ o % 256 = 1 then Tab.get 0 d.obs.ticks (i % 256 / 16)
  else if o = Obj.prbsErrors then (if d.get Obj.prbsPattern = 0 then 0 else d.draw % 2 ^ 512)
  else if o = Obj.arrayData then d.arrayRead
  else if 0xD201 ≤ i ∧ i ≤ 0xD207 ∧ o % 256 = 3 then (d.pendingOf (i - 0xD200)).length
  else d.get o

/-- What an object reads, to a caller. -/
def Dev.view (c : Caller) (o : Nat) (d : Dev) : Nat :=
  if d.objFenced o then d.fencedRead o
  else match o / 256 / 4096 with
    | 1 => d.viewManage c o
    | 2 | 3 | 4 => d.viewCore o
    | 5 => d.viewPool o
    | 6 => d.viewCrane o
    | 7 => d.viewCustoms o
    | 8 => d.viewPower o
    | 9 => d.viewSecurity o
    | _ => d.viewWatch o

/-- A read of the object takes a free value: the spec states no number for it. -/
def Dev.readsFree (d : Dev) (o : Nat) : Bool :=
  let i := o / 256
  let sub := o % 256
  o == Obj.agingOffset || o == Obj.rateMeasured ||
  (decide (0x8100 ≤ i ∧ i < 0x8130) && (sub == 0x10 || sub == 0x11 || sub == 0x12)) ||
  (decide (0x8180 ≤ i ∧ i < 0x8182) && (sub == 5 || sub == 6 || sub == 7)) ||
  (o == Obj.prbsErrors && d.get Obj.prbsPattern != 0) || o == Obj.arrayData

/-! READ, DESCRIBE, NEXT (R289, R302, Table 10.11). -/

/-- The object's row, when it exists now. -/
def Dev.rowOf (d : Dev) (o : Nat) : Option (Row × Nat × Nat) := if d.exists' o then findRow o else none

/-- The access code lets a read through. -/
def Row.readable (r : Row) : Bool := r.acc == .r || r.acc == .rw || r.acc == .rw1c

/-- The status of a READ. -/
def Dev.readStatus (d : Dev) (c : Caller) (o : Nat) : Nat :=
  match d.rowOf o with
  | none => Status.noSuchObject
  | some (r, _, _) =>
    if !r.readable then Status.accessMode
    else if o / 256 = 0x9020 ∧ o ≠ Obj.vendorCredential ∧ (d.callerRole c).getD 0 < 3 then Status.role
    else Status.success

/-- Bytes that a READ of an object returns. -/
def Dev.readLen (d : Dev) (o : Nat) : Nat := ((d.rowOf o).map fun r => if r.1.readable then r.1.size else 0).getD 0

/-- An answer that carries a value. -/
def valueAnswer (o seq v n : Nat) : OpAnswer :=
  { status := Status.success, index := o / 256, sub := o % 256, deferred := false, seq := seq, value := v, len := n }

/-- An answer that carries a status. -/
def statusAnswer (st o : Nat) : OpAnswer :=
  { status := st, index := o / 256, sub := o % 256, deferred := false, seq := 0, value := 0, len := 0 }

/-- READ. -/
def Dev.readOp (c : Caller) (o : Nat) (d : Dev) : Dev × OpAnswer :=
  let st := d.readStatus c o
  if st = Status.success then
    (if d.readsFree o then d.drawn else d, valueAnswer o (d.lastSeqOf o) (d.view c o % 2 ^ (8 * d.readLen o)) (d.readLen o))
  else (d, statusAnswer st o)

/-- A name in its bytes. -/
def nameBytes (s : String) : Nat := packBytes (s.toList.map Char.toNat)

/-- The objects whose default describes the running part, its image or the caller (R290, Table 10.17). -/
def describesItself (o : Nat) : Bool :=
  [Obj.firmwareVersion, Obj.firmwareSlot, Obj.objectCount, Obj.mySession, Obj.deviceidPublic, Obj.aliasPublic,
   Obj.measurementDigest, Obj.svnRunning].contains o

/-- The DEFAULT that DESCRIBE gives; that of CXL_OFFER is the default of the quay's role (R77). -/
def Dev.defaultOf (c : Caller) (o : Nat) (d : Dev) : Nat :=
  if describesItself o then d.view c o
  else if o / 65536 = 0x21 ∧ o % 256 = 0x0A ∧ d.role (o / 256 % 256) = 3 then 0x3D
  else objDefault d.part o

/-- The group of a writable object (R307). -/
def groupShown (r : Row) (o : Nat) : Nat := if r.acc = .r then 0 else groupOf r o

/-- Bytes of a descriptor. -/
def describeLen (r : Row) : Nat := if r.acc = .cmd then 48 else 48 + r.size

/-- Table 10.5. -/
def Dev.descriptor (c : Caller) (r : Row) (o : Nat) (d : Dev) : Nat :=
  tyCode r.ty + accCode r.acc * 2 ^ 8 + r.role * 2 ^ 16 + persCode r.pers * 2 ^ 24 +
    (b2n (conditional o) + 2 * b2n (sessionScoped o) + 4 * b2n (groupShown r o != 0)) * 2 ^ 32 + groupShown r o * 2 ^ 40 +
    r.size * 2 ^ 48 + d.lastSeqOf o * 2 ^ 64 + nameBytes r.name * 2 ^ 128 + (if r.acc = .cmd then 0 else d.defaultOf c o * 2 ^ 384)

/-- DESCRIBE. -/
def Dev.describeOp (c : Caller) (o : Nat) (d : Dev) : OpAnswer :=
  match d.rowOf o with
  | none => statusAnswer Status.noSuchObject o
  | some (r, _, _) => valueAnswer o (d.lastSeqOf o) (d.descriptor c r o) (describeLen r)

/-- The first index of a family that is at least `i`. -/
def Row.indexFrom (r : Row) (i : Nat) : Option Nat :=
  let n := (i - r.idx + r.idxStep - 1) / r.idxStep
  if n < r.idxN then some (r.idx + r.idxStep * n) else none

/-- The first object of a row after a key. -/
def Row.after (r : Row) (o : Nat) : Option Nat :=
  match r.indexFrom (o / 256) with
  | none => none
  | some i =>
    if i = o / 256 ∧ r.sub + r.subN ≤ o % 256 + 1 then (r.indexFrom (i + 1)).map fun k => 256 * k + r.sub
    else if i = o / 256 then some (256 * i + max r.sub (o % 256 + 1))
    else some (256 * i + r.sub)

/-- The smaller of two keys, if there is one. -/
def least : Option Nat → Option Nat → Option Nat
  | none, b => b
  | a, none => a
  | some a, some b => some (min a b)

/-- The next existing object. -/
def Dev.nextObject (d : Dev) (o : Nat) : Option Nat := d.rows.foldl (fun m r => least m (r.after o)) none

/-- NEXT: index in bytes [1:0], sub-index in byte [2]. -/
def Dev.nextOp (o : Nat) (d : Dev) : OpAnswer :=
  { valueAnswer o 0 ((d.nextObject o).elim 0xFFFFFFFF fun k => k / 256 + k % 256 * 2 ^ 16) 4 with seq := 0 }

end Sys2Proof.Machine
end

