-- ==== Sys2Proof/Machine/Acts.lean ====
section
/-!
DEFINITION. What a write to each object does (Tables 10.2 and 10.12): the commands of the management plane, and the act of
every object.
-/

namespace Sys2Proof.Machine

open Sys2Proof

/-! Stored values and defaults (R290, R291, R305). -/

/-- STORE: every persistent-on-commit object is journalled with its LAST_SEQ. -/
def Dev.storeOne (d : Dev) (o : Nat) : Dev :=
  { d with stored := Tab.set (objDefault d.part o) d.stored o (d.get o)
           storedSeq := Tab.set 0 d.storedSeq o (d.lastSeqOf o) }

def actStore : Act := { effect := fun _ _ _ d => pocKeys.foldl Dev.storeOne d }

/-- R291 restores the objects of a row: all that persist, but for the 0x9000 range, FABRIC_ID, the group claims, and
COMMIT_SEQ, which never repeats (R304). -/
def Row.restorable (r : Row) : Bool :=
  r.pers != .vol && r.idx / 4096 != 9 && r.idx != 0x1050 && 256 * r.idx + r.sub != Obj.fabricId && 256 * r.idx + r.sub != Obj.commitSeq

/-- The keys of a row. -/
def Row.keys (r : Row) : List Nat :=
  (List.range r.idxN).flatMap fun i => (List.range r.subN).map fun j => 256 * (r.idx + r.idxStep * i) + r.sub + j

/-- An object that RESTORE_DEFAULTS restores. -/
def restored (o : Nat) : Bool := ((findRow o).map fun r => r.1.restorable).getD false

/-- Every object that RESTORE_DEFAULTS restores. -/
def restoredKeys : List Nat := ((List.range 15).flatMap rowsOf).flatMap fun r => if r.restorable then r.keys else []

/-! Groups (R307, R308). -/

/-- Raise an event to the sessions that `p` selects and whose mask selects its class. -/
def Dev.raiseFor (p : Session → Bool) (e : Event) (d : Dev) : Dev :=
  let e := d.stamp e
  let told (s : Session) : Bool := p s && s.wants e.cls
  let d := d.put Obj.eventSeq e.seq
  { d with
    mgmt := { d.mgmt with
      eventLog := pushLog d.mgmt.eventLog e
      sessions := d.mgmt.sessions.map fun s => if told s then { s with unacked := pushEvent s.unacked e } else s }
    sent := d.sent ++ (d.mgmt.sessions.filter told).map fun s => .event s.slot (decide (256 ≤ s.unacked.length)) e }

/-- The caller may take or give up a group whose master is `m`. -/
def Dev.mayClaim (d : Dev) (c : Call) (m : Nat) : Bool :=
  m == 0xFF || m == d.callerCred c.caller || decide (3 ≤ (d.callerRole c.caller).getD 0)

def checkGroup (c : Call) (g : Nat) (d : Dev) : Nat :=
  if 1 ≤ g ∧ g ≤ 13 ∧ !d.mayClaim c (d.get (Obj.groupMaster g)) then Status.notMaster else Status.success

/-- GROUP_CLAIM: the caller's credential is master; the sessions of one that is replaced are told. -/
def actGroupClaim : Act :=
  { check := checkGroup
    effect := fun c g n d =>
      let old := d.get (Obj.groupMaster g)
      let new := d.callerCred c.caller
      let d := d.marking [Obj.groupMaster g] n fun d => d.put (Obj.groupMaster g) new
      if old = 0xFF ∨ old = new then d
      else d.raiseFor (fun s => s.cred == old)
        (info 0 0x8002 0 0xFFFF (0x1050 + g * 2 ^ 16 + n * 2 ^ 64 + new * 2 ^ 128)) }

/-- GROUP_RELEASE. -/
def actGroupRelease : Act :=
  { check := checkGroup
    effect := fun _ g n d => d.marking [Obj.groupMaster g] n fun d => d.put (Obj.groupMaster g) 0xFF }

/-! Sessions (R293, R298). -/

/-- SESSION_CLOSE: an open session ends after the message that carries it. -/
def actSessionClose : Act :=
  { effect := fun _ v _ d => if (d.session v).isSome then d.later (.close v) else d }

/-- EVENT_MASK: the session's own copy; the FM API has none. -/
def actEventMask : Act :=
  { effect := fun c v _ d => d.setSession (callerSlot c.caller) fun s => { s with mask := v % 16 } }

/-! Fabric time (R125, R311, R312, R316). -/

/-- A gate list runs. -/
def Dev.gatesRun (d : Dev) : Bool :=
  (Tab.keys d.net.gates).any fun q => (d.gate q).running.isSome && d.get (Obj.gateEnable q) == 1

/-- No source is locked any more: TIME_STATE takes a state, and gate lists that run report it once. -/
def Dev.loseLock (st : Nat) (d : Dev) : Dev :=
  let was := d.get Obj.timeState
  let d := (d.put Obj.timeState st).setMgmt fun m => { m with goodOffsets := 0, slew := 0, slewRun := 0 }
  d.errIf (was == 2 && d.gatesRun) { typ := 49, inst := 0 }

/-- TIME_SOURCE: a change is a loss of lock, then acquisition of the new source. -/
def actTimeSource : Act :=
  { effect := fun _ v n d =>
      if v = d.get Obj.timeSource then d
      else d.marking [Obj.timeState] n fun d => (d.put Obj.timeSource v).loseLock (if v = 0 then 0 else 1) }

/-! Checks of plain objects. -/

/-- An object that is stored where a condition on its value holds, and otherwise refused with BAD_VALUE. -/
def actIf (o : Nat) (ok : Call → Nat → Dev → Bool) : Act :=
  { storeAct o with check := fun c v d => if ok c v d then Status.success else Status.badValue }

/-- A contiguous IPv4 mask. -/
def contiguous (v : Nat) : Bool := Nat.land (0xFFFFFFFF - v) (0x100000000 - v) == 0

/-- One byte of UTF-8: the bytes still to come, and the bounds of the next. -/
def utf8Step (st : Option (Nat × Nat × Nat)) (b : Nat) : Option (Nat × Nat × Nat) :=
  match st with
  | none => none
  | some (0, _, _) =>
    if b < 0x80 then some (0, 0x80, 0xBF)
    else if 0xC2 ≤ b ∧ b ≤ 0xDF then some (1, 0x80, 0xBF)
    else if b = 0xE0 then some (2, 0xA0, 0xBF)
    else if b = 0xED then some (2, 0x80, 0x9F)
    else if 0xE1 ≤ b ∧ b ≤ 0xEF then some (2, 0x80, 0xBF)
    else if b = 0xF0 then some (3, 0x90, 0xBF)
    else if 0xF1 ≤ b ∧ b ≤ 0xF3 then some (3, 0x80, 0xBF)
    else if b = 0xF4 then some (3, 0x80, 0x8F)
    else none
  | some (k + 1, lo, hi) => if lo ≤ b ∧ b ≤ hi then some (k, 0x80, 0xBF) else none

/-- `n` bytes of UTF-8 (R287, Table 10.1). -/
def utf8 (n v : Nat) : Bool :=
  (((List.range n).map (byteAt v)).foldl utf8Step (some (0, 0x80, 0xBF))).elim false (·.1 == 0)

/-! The act of every object. -/

/-- 0x1000 to 0x1FFF, but RESTORE_DEFAULTS. -/
def actManage (o : Nat) : Act :=
  if o = Obj.sessionClose then actSessionClose
  else if o = Obj.fabricId then actFabricId
  else if o = Obj.deviceLabel then actIf o fun c v _ => utf8 c.len v
  else if o = Obj.store then actStore
  else if o = Obj.groupClaim then actGroupClaim
  else if o = Obj.groupRelease then actGroupRelease
  else if o = Obj.eventMask then actEventMask
  else if o = Obj.timeSource then actTimeSource
  else if o = Obj.timePtmQuay then actIf o fun _ v d => d.role v == 1
  else if o = Obj.ethEnable 0 then actEthEnable 0
  else if o = Obj.ethEnable 1 then actEthEnable 1
  else if o = Obj.ethIpv4Mask 0 ∨ o = Obj.ethIpv4Mask 1 then actIf o fun _ v _ => contiguous v
  else storeAct o

/-- 0x2000 to 0x2FFF. -/
def actQuay (o : Nat) : Act :=
  let q := o / 256 % 256
  if o / 65536 = 0x20 ∧ 0x10 ≤ q ∧ o % 256 = 1 then actBifurcation (q - 0x10)
  else if o / 65536 = 0x21 then
    match o % 256 with
    | 0x02 => actRole q
    | 0x03 => actNarrow q
    | 0x0A => actCxlOffer q
    | 0x0B => actMinWidth q
    | 0x0D => actWidthRequest q
    | 0x0F => actRestoreWidth q
    | _ => storeAct o
  else storeAct o

/-- 0x3000 to 0x3FFF. -/
def actSwitch (o : Nat) : Act :=
  let q := o / 256 % 256
  let sub := o % 256
  if o = Obj.shaperRefill then actShaper 0 0 .refill
  else if o = Obj.voqDepthInForce ∨ o = Obj.arbPolicyInForce then actInForce o
  else if o = Obj.quayDown then actQuayDown
  else if o = Obj.quayRelease then actQuayRelease
  else match o / 65536 with
    | 0x31 => if sub = 1 then actPriority q false else actPriority q true
    | 0x32 => if sub = 3 then actGateEnable q else if sub = 8 then actGateCommit q else storeAct o
    | 0x33 => if sub / 16 = 1 then actShaper q (sub % 16) .rate else if sub / 16 = 2 then actShaper q (sub % 16) .burst else storeAct o
    | 0x34 => actRouteBlock (sub - 1)
    | _ => storeAct o

/-- 0x4000 to 0x4FFF. -/
def actCoherence (o : Nat) : Act :=
  let b := o / 256 % 256
  if o / 65536 = 0x42 then
    match o % 256 with
    | 2 => actBasinEnable b
    | 3 => actBasinConfig b .homeSetBase
    | 4 => actBasinConfig b .homeSetSize
    | 5 => actBasinConfig b .members
    | 6 => actBasinConfig b .snoopTimeout
    | 7 => actBasinConfig b .nearCopy
    | 8 => actBasinReset b
    | 9 => actBasinOpen b
    | _ => storeAct o
  else storeAct o

/-- 0x5000 to 0x5FFF. -/
def actPool (o : Nat) : Act :=
  let i := o / 256
  let sub := o % 256
  if i = 0x5010 then
    if sub = 5 then actLedgerStart Dev.ledgerInit else if sub = 6 then actLedgerStart Dev.ledgerAdopt else actLedgerPlace o
  else if o = Obj.ledgerWrite then actLedgerWrite
  else if o = Obj.ledgerReadIndex then actLedgerReadIndex
  else if o = Obj.poolBarrier then actPoolBarrier
  else if o = Obj.allocGrant then actAllocGrant
  else if o = Obj.extentAnnounce then actExtentAnnounce
  else if o = Obj.migrate then actMigrate
  else if o = Obj.migrateAbort then actMigrateAbort
  else if 0x5080 ≤ i ∧ i < 0x50C0 then
    if sub = 1 then actMemdevEnable (i - 0x5080) else if sub ≤ 5 then actMemdevField (i - 0x5080) o else storeAct o
  else if 0x5100 ≤ i ∧ i < 0x5140 ∧ sub = 1 then actSlot (i - 0x5100) false
  else if 0x5100 ≤ i ∧ i < 0x5140 ∧ sub = 2 then actSlot (i - 0x5100) true
  else if 0x5200 ≤ i ∧ i < 0x5600 then
    match sub with
    | 1 => actBerthEnable (i - 0x5200)
    | 2 => actBerthBound (i - 0x5200) false
    | 3 => actBerthBound (i - 0x5200) true
    | 4 | 5 | 6 | 7 | 8 => actBerthField (i - 0x5200) o
    | 0x0C => actBerthFlush (i - 0x5200)
    | _ => storeAct o
  else if 0x5600 ≤ i ∧ i < 0x5640 ∧ sub = 1 then actSpan (i - 0x5600) false
  else if 0x5600 ≤ i ∧ i < 0x5640 ∧ sub = 2 then actSpan (i - 0x5600) true
  else storeAct o

/-- 0x6000 to 0x7FFF. -/
def actCrane (o : Nat) : Act :=
  if o = Obj.instConfig then actInstConfig
  else if o = Obj.instReset then actInstReset
  else if o = Obj.mboxH2mAck then actMboxAck
  else if o = Obj.mboxM2h then actMboxM2h
  else if o = Obj.customsBarrier then actCustomsBarrier
  else if o = Obj.regionSet then actRegionSet
  else if o = Obj.regionClearMaster then actRegionClear
  else if o = Obj.privilegeSet then actPrivilegeSet
  else if o = Obj.release then actRelease
  else storeAct o

/-- 0x8000 to 0x8FFF. SLOT_QUAY names a Downstream quay, or none. -/
def actPower (o : Nat) : Act :=
  let i := o / 256
  let sub := o % 256
  if o = Obj.syncEnable then actSyncEnable
  else if 0x8100 ≤ i ∧ i < 0x8130 then
    match sub with
    | 0x03 => actIf o fun _ v d => v == 0xFF || d.role v == 2
    | 0x0E => actSlotPower (i - 0x8100)
    | 0x0F => actSlotResetFault (i - 0x8100)
    | _ => storeAct o
  else if 0x8180 ≤ i ∧ i < 0x8182 then
    if sub = 2 then actBpEnable (i - 0x8180) else if sub = 8 then actBpResetFault (i - 0x8180) else storeAct o
  else storeAct o

/-- 0x9000 to 0x9FFF. -/
def actSecurity (o : Nat) : Act :=
  if o = Obj.selfTest then actSelfTest
  else if o = Obj.lifecycleArm then actLifecycleArm
  else if o = Obj.lifecycleConfirm then actLifecycleConfirm
  else if o = Obj.zeroise then actZeroise
  else if o = Obj.debugAuthorise then actDebugAuthorise
  else if o = Obj.debugRevoke then actDebugRevoke
  else if o / 256 = 0x9020 then actCredential o
  else if o = Obj.svnCommit then actSvnCommit
  else if o = Obj.keySlotRevoke then actKeySlotRevoke
  else if o / 65536 = 0x91 ∧ o % 256 = 1 then actIdeRequired (o / 256 % 256)
  else storeAct o

/-- 0xA000 to 0xBFFF. -/
def actFault (o : Nat) : Act :=
  let i := o / 256
  let sub := o % 256
  if 0xA010 ≤ i ∧ i < 0xA013 ∧ sub = 7 then actClassAck (i - 0xA010)
  else if o = Obj.sourceClear then actSourceClear
  else if o = Obj.fenceUnit then actFenceUnit
  else if o = Obj.fenceClear then actFenceClear
  else if i / 256 = 0xB2 then
    if sub = 1 then actWinEnable (i % 256) else if 2 ≤ sub ∧ sub ≤ 0x0A then actWinConfig (i % 256) o else storeAct o
  else if i / 256 = 0xB3 ∧ sub = 1 then actSensorEnable (i % 256)
  else storeAct o

/-- 0xC000 to 0xCFFF and 0xF000 to 0xFFFF. -/
def actWatch (o : Nat) : Act :=
  let i := o / 256
  let sub := o % 256
  if o = Obj.traceControl then actTraceControl
  else if o = Obj.traceFilter then actTraceFilter
  else if o = Obj.traceStart then actTraceStart
  else if o = Obj.traceStop then actTraceStop
  else if i / 256 = 0xC1 ∧ sub = 3 then actBwWindow (i % 256)
  else if i / 256 = 0xC5 then actInitClear (i % 256)
  else if 0xC1 ≤ i / 256 ∧ i / 256 ≤ 0xC4 ∧ sub / 16 = 1 then actCtrConfig i o
  else if 0xC1 ≤ i / 256 ∧ i / 256 ≤ 0xC4 ∧ sub / 16 = 3 then actCtrFilter o
  else if i / 16 = 0xF01 ∧ sub = 2 then actTgStart (i % 16)
  else if i / 16 = 0xF01 ∧ sub = 3 then actTgStop (i % 16)
  else if o = Obj.prbsPattern then actPrbsPattern
  else if o = Obj.prbsQuay then actPrbsQuay
  else storeAct o

/-- 0xD000 to 0xDFFF. -/
def actMode (o : Nat) : Act :=
  let i := o / 256
  if o = Obj.serviceGo then actServiceGo
  else if o = Obj.modeChange then actModeChange
  else if o = Obj.enterSalvage then actEnterSalvage
  else if o = Obj.recoveryReset then actRecoveryReset
  else if o = Obj.enterDrydock then actEnterDrydock
  else if o = Obj.leaveDrydock then actLeaveDrydock
  else if o = Obj.powerStateRequest then actPowerState
  else if i / 256 = 0xD1 then actProfile (i / 16 % 16) o
  else if 0xD201 ≤ i ∧ i ≤ 0xD207 ∧ o % 256 = 1 then actFunctionMode (i - 0xD200)
  else if o = Obj.decision then actDecision
  else storeAct o

/-- The act of an object, but RESTORE_DEFAULTS. -/
def actPlain (o : Nat) : Act :=
  match o / 256 / 4096 with
  | 1 => actManage o
  | 2 => actQuay o
  | 3 => actSwitch o
  | 4 => actCoherence o
  | 5 => actPool o
  | 6 | 7 => actCrane o
  | 8 => actPower o
  | 9 => actSecurity o
  | 10 | 11 => actFault o
  | 13 => actMode o
  | _ => actWatch o

/-! RESTORE_DEFAULTS. -/

/-- Instances return to UNBOUND, the default of INST_CONFIG. -/
def Dev.unbindAll (d : Dev) : Dev :=
  ((Tab.keys d.crane.insts).filter (decide <| · < 4096)).foldl (fun d i =>
    let d := d.resetInst i
    (d.setInst i fun _ => {}).rebind i (d.inst i) {}) d

/-- The objects that differ from their defaults return to them: each as a write of its default acts. -/
def Dev.restoreObjects (c : Call) (n : Nat) (d : Dev) : Dev :=
  let keys := (Tab.keys d.man).filter restored
  let d := keys.foldl (fun d o => (actPlain o).effect c (objDefault d.part o) n d) d
  keys.foldl (fun d o => d.put o (objDefault d.part o)) d

/-- The commit is the LAST_SEQ of every object it restores, in force and stored. -/
def Dev.markRestored (n : Nat) (d : Dev) : Dev :=
  { d with stored := d.stored.filter fun p => !restored p.1
           lastSeq := restoredKeys.foldl (fun t o => Tab.set 0 t o n) d.lastSeq
           storedSeq := pocKeys.foldl (fun t o => Tab.set 0 t o n) d.storedSeq }

def actRestoreDefaults : Act :=
  { check := fun _ _ d => if d.mode = 0 then Status.success else Status.wrongMode
    effect := fun c _ n d => ((d.restoreObjects c n).unbindAll).markRestored n }

/-- What a write to an object does. -/
def actOf (o : Nat) : Act := if o = Obj.restoreDefaults then actRestoreDefaults else actPlain o

end Sys2Proof.Machine
end

