-- ==== Sys2Proof/Machine/Zmp.lean ====
section
/-!
DEFINITION. ZMP: operations, request messages, frames, events, deferred answers and fabric time (R287 to R312, R316).
-/

namespace Sys2Proof.Machine

open Sys2Proof

/-! Operations as messages of their own (R301, R302). -/

/-- The key of an object reference. -/
def keyOf (o : ObjRef) : Nat := 256 * (o.index % 65536) + o.sub % 256

/-- What follows a message: sessions that end, then a waiting autostart (R29, R377). -/
def Dev.messageEnd (d : Dev) : Dev := (d.endMessage).tryAutostart

/-- A row that is a write of one object by ZMP. -/
def zmpRow (a : Act) (c : Call) (o v : Nat) (s : State) : Host.Outcome State Fault Refusal :=
  liveLift (fun d => (d.zmpWrite a c o v).messageEnd) s

/-- A reading operation of one message: its answer goes to the caller. -/
def Dev.answering (f : Dev → Dev × OpAnswer) (c : Call) (d : Dev) : Dev :=
  if d.callerOpen c.caller then (f d).1.send (.answer c.caller (f d).2) else d

/-- READ. -/
def execRead (c : Call) (o : ObjRef) (s : State) : Host.Outcome State Fault Refusal :=
  liveLift (Dev.answering (Dev.readOp c.caller (keyOf o)) c) s

/-- DESCRIBE. -/
def execDescribe (c : Call) (o : ObjRef) (s : State) : Host.Outcome State Fault Refusal :=
  liveLift (Dev.answering (fun d => (d, d.describeOp c.caller (keyOf o))) c) s

/-- NEXT. -/
def execNext (c : Call) (o : ObjRef) (s : State) : Host.Outcome State Fault Refusal :=
  liveLift (Dev.answering (fun d => (d, d.nextOp (keyOf o))) c) s

/-- WRITE. -/
def execWrite (c : Call) (o : ObjRef) (v : Nat) (s : State) : Host.Outcome State Fault Refusal :=
  zmpRow (actOf (keyOf o)) { c with expect := none } (keyOf o) v s

/-- WRITE_CAS. -/
def execWriteCas (c : Call) (o : ObjRef) (seq v : Nat) (s : State) : Host.Outcome State Fault Refusal :=
  zmpRow (actOf (keyOf o)) { c with expect := some seq } (keyOf o) v s

/-- STORE. -/
def execStore (c : Call) (v : Nat) (s : State) : Host.Outcome State Fault Refusal := zmpRow actStore c Obj.store v s

/-- RESTORE_DEFAULTS. -/
def execRestoreDefaults (c : Call) (v : Nat) (s : State) : Host.Outcome State Fault Refusal :=
  zmpRow actRestoreDefaults c Obj.restoreDefaults v s

/-- GROUP_CLAIM. -/
def execGroupClaim (c : Call) (v : Nat) (s : State) : Host.Outcome State Fault Refusal :=
  zmpRow actGroupClaim c Obj.groupClaim v s

/-- GROUP_RELEASE. -/
def execGroupRelease (c : Call) (v : Nat) (s : State) : Host.Outcome State Fault Refusal :=
  zmpRow actGroupRelease c Obj.groupRelease v s

/-- SESSION_CLOSE. -/
def execSessionClose (c : Call) (v : Nat) (s : State) : Host.Outcome State Fault Refusal :=
  zmpRow actSessionClose c Obj.sessionClose v s

/-- TIME_SOURCE. -/
def execTimeSourceWrite (c : Call) (v : Nat) (s : State) : Host.Outcome State Fault Refusal :=
  zmpRow actTimeSource c Obj.timeSource v s

/-! Request messages (R299, R300). -/

/-- The object an operation names. -/
def opKey : ZmpOp → Nat
  | .read o => keyOf o
  | .write o _ _ => keyOf o
  | .writeCas o _ _ _ => keyOf o
  | .describe o => keyOf o
  | .next o => keyOf o
  | .bad o => keyOf o

/-- The operation has no code of Table 10.10. -/
def opBad : ZmpOp → Bool
  | .bad _ => true
  | _ => false

/-- Bytes of value that an operation's answer carries, answered as SUCCESS would answer it. -/
def Dev.answerLen (d : Dev) : ZmpOp → Nat
  | .read o => d.readLen (keyOf o)
  | .write o _ _ => if keyOf o = Obj.allocGrant then 16 else 0
  | .writeCas o _ _ _ => if keyOf o = Obj.allocGrant then 16 else 0
  | .describe o => ((d.rowOf (keyOf o)).map fun r => describeLen r.1).getD 0
  | .next _ => 4
  | .bad _ => 0

/-- Bytes of the response as SUCCESS would answer it: operations are padded to a multiple of 8 B. -/
def Dev.responseLen (d : Dev) (ops : List ZmpOp) : Nat := 8 + (ops.map fun o => 16 + (d.answerLen o + 7) / 8 * 8).sum

/-- MSG_STATUS of a message that executes nothing: 1 MALFORMED, 2 TOO_LARGE; else 0. -/
def Dev.messageStatus (d : Dev) (m : ZmpMsg) : Nat :=
  if !m.wellFormed ∨ m.ops.length = 0 ∨ 32 < m.ops.length ∨ m.ops.any opBad then 1
  else if 4096 < m.bytes ∨ 4096 < d.responseLen m.ops then 2
  else 0

/-- One operation of a message. -/
def Dev.zmpOp (c : Caller) (env : Env) (op : ZmpOp) (d : Dev) : Dev × OpAnswer :=
  match op with
  | .read o => d.readOp c (keyOf o)
  | .write o len v => closeStale (keyOf o) v (d.manifestOp (actOf (keyOf o)) { caller := c, len := len, env := env } (keyOf o) v)
  | .writeCas o seq len v =>
    closeStale (keyOf o) v (d.manifestOp (actOf (keyOf o)) { caller := c, expect := some seq, len := len, env := env } (keyOf o) v)
  | .describe o => (d, d.describeOp c (keyOf o))
  | .next o => (d, d.nextOp (keyOf o))
  | .bad o => (d, statusAnswer Status.notExecuted (keyOf o))

/-- The operations of a message in their order; with `stop`, those after the first that fails are not executed. -/
def Dev.zmpOps (c : Caller) (env : Env) (stop : Bool) : List ZmpOp → Dev → Dev × List OpAnswer
  | [], d => (d, [])
  | op :: ops, d =>
    let r := d.zmpOp c env op
    if stop ∧ r.2.status ≠ Status.success then (r.1, r.2 :: ops.map fun o => statusAnswer Status.notExecuted (opKey o))
    else
      let q := r.1.zmpOps c env stop ops
      (q.1, r.2 :: q.2)

/-- A message and its response. -/
def Dev.runMessage (c : Caller) (m : ZmpMsg) (d : Dev) : Dev × Response :=
  let st := d.messageStatus m
  if st ≠ 0 then (d, { msgId := m.msgId, status := st, ops := [] })
  else
    let r := d.zmpOps c m.env m.stopOnError m.ops
    (r.1, { msgId := m.msgId, status := 0, ops := r.2 })

/-- The last four responses are kept. -/
def keepResponse (l : List Response) (r : Response) : List Response := (l ++ [r]).drop (l.length - 3)

/-- A request message of a session. -/
def Dev.zmpMessage (x : Session) (m : ZmpMsg) (d : Dev) : Dev :=
  match x.responses.find? (·.msgId == m.msgId) with
  | some r => d.send (.response x.slot r)
  | none =>
    if 4 ≤ m.unanswered then d.send (.response x.slot { msgId := m.msgId, status := 3, ops := [] })
    else
      let r := d.runMessage (.session x.slot) m
      ((r.1.setSession x.slot fun y => { y with responses := keepResponse y.responses r.2 }).send (.response x.slot r.2)).messageEnd

/-! Frames (R294 to R296). -/

/-- FRAME_ERROR: 1 bad header, 2 bad length, 3 no such session, 4 wrong binding. -/
def Dev.frameError (b : Binding) (code : Nat) (d : Dev) : Dev := (d.count Obj.frameErrors 1).send (.frame b 4 code)

/-- The 32 B of an IDENTIFY response. -/
def Dev.identity (d : Dev) : Nat :=
  d.get Obj.part + d.get Obj.vendorId * 2 ^ 8 + d.get Obj.deviceId * 2 ^ 24 + d.get Obj.fabricId * 2 ^ 40 +
    (16 - d.mgmt.sessions.length) * 2 ^ 56 + bytesAt ((d.bw.running.map (·.version)).getD 0) 0 24 * 2 ^ 64

/-- A SECURED frame. -/
def Dev.securedFrame (b : Binding) (slot : Nat) (m : ZmpMsg) (d : Dev) : Dev :=
  match d.session slot with
  | none => d.frameError b 3
  | some x => if x.binding = b.address then d.zmpMessage x m else d.frameError b 4

/-- ZMP_FRAME. -/
def effZmpFrame (f : Frame) (d : Dev) : Dev :=
  if !d.hearsFrame f.binding then d
  else if f.magic ≠ 0x5A4D ∨ f.version ≠ 1 then d.frameError f.binding 1
  else if !f.lenOk ∨ 4224 < f.bodyLen then d.frameError f.binding 2
  else match f.body with
    | .secured slot m => d.securedFrame f.binding slot m
    | .identify => d.send (.frame f.binding 3 d.identity)
    | .other => d.frameError f.binding 1

def execZmpFrame (f : Frame) (s : State) : Host.Outcome State Fault Refusal := liveLift (effZmpFrame f) s

/-- IDENTIFY. -/
def effIdentify (b : Binding) (d : Dev) : Dev := if d.hearsFrame b then d.send (.frame b 3 d.identity) else d

def execIdentify (b : Binding) (s : State) : Host.Outcome State Fault Refusal := liveLift (effIdentify b) s

/-! Events and deferred answers (R306, R310). -/

/-- EVENT_ACK. -/
def effEventAck (slot seq : Nat) (d : Dev) : Dev :=
  d.setSession slot fun x => { x with unacked := x.unacked.filter fun e => decide (seq < e.seq) }

def execEventAck (slot seq : Nat) (s : State) : Host.Outcome State Fault Refusal := liveLift (effEventAck slot seq) s

/-- EVENT_RETRY: what is not acknowledged is sent again. -/
def effEventRetry (d : Dev) : Dev := d.sendAll (d.mgmt.sessions.flatMap fun x => x.unacked.map fun e => .event x.slot false e)

def execEventRetry (s : State) : Host.Outcome State Fault Refusal := liveLift effEventRetry s

/-- COMMAND_ANSWER: an answer that is ready goes out as an event (Table 14.9). -/
def effCommandAnswer (slot seq status value : Nat) (d : Dev) : Dev :=
  if d.mgmt.ready.contains (slot, seq, status, value) then
    (d.setMgmt fun m => { m with
      ready := m.ready.erase (slot, seq, status, value)
      due := m.due.erase (slot, seq) }).raise
      (info 0 0x8003 0 0xFFFF (status + seq * 2 ^ 64 + (if status = 0 then value % 2 ^ 128 else 0) * 2 ^ 128))
  else d

def execCommandAnswer (slot seq status value : Nat) (s : State) : Host.Outcome State Fault Refusal :=
  liveLift (effCommandAnswer slot seq status value) s

/-- HEARTBEAT_TIMEOUT. -/
def effHeartbeatTimeout (slot : Nat) (d : Dev) : Dev := if (d.session slot).isSome then d.dropSession slot else d

def execHeartbeatTimeout (slot : Nat) (s : State) : Host.Outcome State Fault Refusal := liveLift (effHeartbeatTimeout slot) s

/-! Fabric time (R311, R312). -/

/-- A measurement of a source counts: 1 and 2 the PTP ports, 4 PTM on a Host quay that is UP (Table 3.4). -/
def Dev.measures (d : Dev) (src : Nat) : Bool :=
  let sel := d.get Obj.timeSource
  ((src == 1 || src == 2) && (sel == src || sel == 3)) || (src == 4 && d.ptmOn (d.get Obj.timePtmQuay) && d.isUp (d.get Obj.timePtmQuay))

/-- An offset that is stepped, not slewed: the first one, and one above 1 µs. -/
def Dev.stepsTime (d : Dev) (offset : Int) : Bool := !d.mgmt.aligned || decide (1000 < offset.natAbs)

/-- Fabric time is aligned: by a step, or by a slew that the time base carries out. -/
def Dev.align (offset : Int) (d : Dev) : Dev :=
  if d.stepsTime offset then
    (({ d with time := ((d.time : Int) + offset).toNat }.setMgmt fun m => { m with aligned := true, slew := 0, slewRun := 0 }).count
      Obj.timeStepCount 1).stepGates offset
  else d.setMgmt fun m => { m with slew := offset }

/-- Consecutive offsets below 100 ns with this one. -/
def Dev.goodRun (d : Dev) (offset : Int) : Nat := if offset.natAbs < 100 then d.mgmt.goodOffsets + 1 else 0

/-- TIME_STATE after a measurement: LOCKED from the sixteenth good offset, ACQUIRING from FREE_RUN and HOLDOVER. -/
def timeStateAfter (was run : Nat) : Nat := if 16 ≤ run then 2 else if was = 0 ∨ was = 3 then 1 else was

/-- An I32 value. -/
def clampI32 (i : Int) : Nat := ofSigned 32 (max (-(2 ^ 31)) (min i (2 ^ 31 - 1)))

/-- TIME_MEASUREMENT: the source's time minus fabric time. -/
def effTimeMeasurement (src : Nat) (offset : Int) (d : Dev) : Dev :=
  if d.measures src then
    let run := d.goodRun offset
    let d := d.putAll [(Obj.timeOffset, clampI32 offset), (Obj.timeState, timeStateAfter (d.get Obj.timeState) run)]
    (d.setMgmt fun m => { m with goodOffsets := run }).align offset
  else d

def execTimeMeasurement (src : Nat) (offset : Int) (s : State) : Host.Outcome State Fault Refusal :=
  liveLift (effTimeMeasurement src offset) s

/-- TIME_HOLDOVER: the time base runs on its own, and Type 49 is raised once. -/
def effTimeHoldover (d : Dev) : Dev := d.holdover

def execTimeHoldover (s : State) : Host.Outcome State Fault Refusal := liveLift effTimeHoldover s

/-- Nanoseconds that the time base advances in a tick: one, or one more or less when 10,000 ticks of a slew are over (100 ppm). -/
def Mgmt.tickLength (m : Mgmt) : Nat := if m.slew = 0 ∨ m.slewRun < 9999 then 1 else if 0 < m.slew then 2 else 0

/-- The slew after a tick. -/
def Mgmt.tickSlew (m : Mgmt) : Mgmt :=
  if m.slew = 0 then m
  else if m.slewRun < 9999 then { m with slewRun := m.slewRun + 1 }
  else { m with slewRun := 0, slew := if 0 < m.slew then m.slew - 1 else m.slew + 1 }

/-- The tiles whose reference is PRESENT. -/
def Dev.presentTiles (d : Dev) : List Nat := (List.range 8).filter fun t => !tileAbsent d.part t && d.get (Obj.refclkStatus t) == 1

/-- The core flits toward a quay that a decision could start now: the heads toward each of its outputs at a break point. -/
def Dev.startable (d : Dev) (q : Nat) : List CoreFlit :=
  ((d.portsOf q).filter fun o => !d.net.voq.any fun f => f.out == o && decide (f.left < f.units)).flatMap fun o => heads o [] d.net.voq

/-- A core flit waits only for partner credit (event 0x09), or only on its gate or shaper (event 0x0A). -/
def Dev.waitsOnly (d : Dev) (q code : Nat) (f : CoreFlit) : Bool :=
  let opened := d.gateAllows q f.cls f.units && d.shaperAllows q f.cls
  let paid := d.creditsFor q f
  d.roomFor f && d.streamAllows f && (if code = 0x09 then opened && !paid else paid && !opened)

/-- A nanosecond in which a core flit of a class that a counter selects waits is counted by it (Table 16.4). -/
def Dev.countWaits (q code : Nat) (d : Dev) : Dev :=
  let waiting := (d.startable q).filter (d.waitsOnly q code)
  if Tab.get 1 d.man Obj.countEnable = 1 then
    (List.range 8).foldl (fun e k =>
      if waiting.any fun f => d.counts (0xC100 + q) k code { cls := f.cls } then e.bumpCounter (0xC100 + q) k 1 else e) d
  else d

/-- The quays toward which core flits wait in VOQs. -/
def Dev.queuedQuays (d : Dev) : List Nat :=
  d.allQuays.filter fun q => d.net.voq.any fun f => decide (f.out < 128) && d.quayOfPort f.out == q

/-- A nanosecond of the time base: fabric time, the counters of the tiles (R430), and the events of Table 16.4 that count time:
0x09 and 0x0A of waiting core flits, 0x0B of HELD quays; and the event records that wait are written to their rings (R250). -/
def Dev.tick (d : Dev) : Dev :=
  if d.powered then
    let now := d.time + d.mgmt.tickLength
    let d := { d with time := now, mgmt := d.mgmt.tickSlew }
    let d := d.setObs fun o => { o with ticks := d.presentTiles.foldl (fun t k => Tab.set 0 t k (Tab.get 0 t k + 1)) o.ticks }
    let d := d.forEach d.queuedQuays fun q d => (d.countWaits q 0x09).countWaits q 0x0A
    let d := d.forEach (d.allQuays.filter fun q => d.qstate q == 4) fun q d => d.event (0xC100 + q) 0x0B 1 {}
    { (((d.endLaneRamp.craneGoOn).ringStores).tgGoOn).wakeForQueues with time := now }
  else d

end Sys2Proof.Machine
end

