-- ==== Sys2Proof/Machine/Fm.lean ====
section
/-!
DEFINITION. The CXL Fabric Manager API, PLDM and MCTP control (R295, R313, R314, R344, R471; Tables 10.15 and 10.16).
`Out.proto` carries their answers: protocol 1 PLDM, 2 MCTP control, 3 FM API, with a command code, a status and a value.
-/

namespace Sys2Proof.Machine

open Sys2Proof

/-! The FM API. Its commands by their opcodes in CXL 3.x. -/

abbrev FmCmd.getEvents : Nat := 0x0100
abbrev FmCmd.clearEvents : Nat := 0x0101
abbrev FmCmd.identify : Nat := 0x5100
abbrev FmCmd.portState : Nat := 0x5101
abbrev FmCmd.portControl : Nat := 0x5102
abbrev FmCmd.switchInfo : Nat := 0x5200
abbrev FmCmd.bind : Nat := 0x5201
abbrev FmCmd.unbind : Nat := 0x5202
abbrev FmCmd.tunnel : Nat := 0x5300
abbrev FmCmd.capacityAdd : Nat := 0x5604
abbrev FmCmd.capacityRelease : Nat := 0x5605
abbrev FmCmd.zmpTunnel : Nat := 0xC5A0

/-- The FM API return codes of CXL 3.x (PRESUMED, log entry 119: the spec names Unsupported and gives no number). -/
abbrev FmStatus.invalidInput : Nat := 2
abbrev FmStatus.unsupported : Nat := 3

/-- A transport carries MCTP. -/
def overMctp (b : Binding) : Bool := b.transport == 3 || b.transport == 4 || b.transport == 5

/-- A requester's MCTP message reaches the device. -/
def Dev.hearsMctp (d : Dev) (b : Binding) : Bool := overMctp b && d.hears b

/-- A transport's role cap is Fabric Manager or above. -/
def Dev.capsManager (d : Dev) (b : Binding) : Bool := decide (2 ≤ d.get (Obj.transportRoleCap (b.transport + 1)))

/-- FM API commands are accepted on a transport. -/
def Dev.fmOpen (d : Dev) (b : Binding) : Bool := d.get Obj.fmapiEnable == 1 && d.hearsMctp b && d.capsManager b

/-- The answer of an FM API command. -/
def Dev.fm (command status value : Nat) (d : Dev) : Dev := d.send (.proto 3 command status value)

/-- A command of the FM API: it is carried out, and what follows a message follows. -/
def fmRow (b : Binding) (f : Dev → Dev) (s : State) : Host.Outcome State Fault Refusal :=
  liveLift (fun d => if d.fmOpen b then (f d).messageEnd else d) s

/-- A READ for the FM API. -/
def Dev.fmRead (o : Nat) (d : Dev) : Dev := (d.readOp .fmApi o).1.send (.answer .fmApi (d.readOp .fmApi o).2)

/-- A WRITE for the FM API, with the length of its object, and its status. -/
def Dev.fmWrite (o v : Nat) (d : Dev) : Dev × Nat :=
  let r := closeStale o v (d.manifestOp (actOf o) { caller := .fmApi, len := ((findRow o).map fun r => r.1.size).getD 0 } o v)
  (r.1.send (.answer .fmApi r.2), r.2.status)

/-- Writes in order, up to the first that is refused, and its status. -/
def Dev.fmWrites : List (Nat × Nat) → Dev → Dev × Nat
  | [], d => (d, Status.success)
  | p :: l, d =>
    let r := d.fmWrite p.1 p.2
    if r.2 = Status.success then r.1.fmWrites l else r

/-- A command that is carried out as writes. -/
def Dev.fmDo (command : Nat) (l : List (Nat × Nat)) (d : Dev) : Dev := (d.fmWrites l).1.fm command (FmStatus.invalidInput * b2n ((d.fmWrites l).2 != 0)) (d.fmWrites l).2

/-- The identity objects, and the counts of quays. -/
def identityKeys : List Nat := ((List.range 9).map (0x100001 + ·)) ++ [Obj.fabricId, Obj.hostQuayCount, Obj.activeQuayCount]

/-- IDENTIFY_SWITCH_DEVICE. -/
def effIdentifySwitchDevice (d : Dev) : Dev := (identityKeys.foldl (fun d o => d.fmRead o) d).fm FmCmd.identify 0 0

def execIdentifySwitchDevice (b : Binding) (s : State) : Host.Outcome State Fault Refusal := fmRow b effIdentifySwitchDevice s

/-- The objects of Table 3.7 that a quay has and a role may read. -/
def quayKeys (q : Nat) : List Nat :=
  ((List.range 0x30).map fun k => 256 * (0x2100 + q) + k).filter fun o => ((findRow o).map fun r => r.1.readable).getD false

/-- GET_PHYSICAL_PORT_STATE. -/
def effGetPhysicalPortState (quays : List Nat) (d : Dev) : Dev :=
  (((quays.filter (decide <| · < 128)).flatMap quayKeys).foldl (fun d o => d.fmRead o) d).fm FmCmd.portState 0 0

def execGetPhysicalPortState (b : Binding) (quays : List Nat) (s : State) : Host.Outcome State Fault Refusal :=
  fmRow b (effGetPhysicalPortState quays) s

/-- RESET_PPB; a command that Table 10.16 does not list is answered Unsupported. -/
def effResetPpb (c : FmControl) (d : Dev) : Dev :=
  match c with
  | .resetPpb q => d.fmDo FmCmd.portControl [(Obj.quayDown, q), (Obj.quayRelease, q)]
  | .other code => d.fm code FmStatus.unsupported 0

def execResetPpb (b : Binding) (c : FmControl) (s : State) : Host.Outcome State Fault Refusal := fmRow b (effResetPpb c) s

/-- The bindings of a Host quay's virtual CXL switch, 3 B each: vPPB, then its target. -/
def Dev.switchInfo (d : Dev) (q : Nat) : Nat :=
  let l := d.mgmt.vppbs.filter fun p => p.1 == q
  l.length + 256 * packBytes (l.flatMap fun p => [p.2.1 % 256, p.2.2 % 256, p.2.2 / 256 % 256])

/-- GET_VIRTUAL_CXL_SWITCH_INFO. -/
def effGetVirtualCxlSwitchInfo (q : Nat) (d : Dev) : Dev :=
  if d.role q = 1 then d.fm FmCmd.switchInfo 0 (d.switchInfo q) else d.fm FmCmd.switchInfo FmStatus.invalidInput 0

def execGetVirtualCxlSwitchInfo (b : Binding) (q : Fin 128) (s : State) : Host.Outcome State Fault Refusal :=
  fmRow b (effGetVirtualCxlSwitchInfo q) s

/-- A vPPB of a Host quay and a Downstream quay that are both free to be bound. -/
def Dev.bindable (d : Dev) (q vppb target : Nat) : Bool :=
  d.role q == 1 && decide (target < 128) && d.role target == 2 &&
  !d.mgmt.vppbs.any fun p => (p.1 == q && p.2.1 == vppb) || p.2.2 == target

/-- BIND_VPPB. -/
def effBindVppb (q vppb target : Nat) (d : Dev) : Dev :=
  if d.bindable q vppb target then
    (d.setMgmt fun m => { m with vppbs := m.vppbs ++ [(q, vppb, target)] }).fm FmCmd.bind 0 0
  else d.fm FmCmd.bind FmStatus.invalidInput 0

def execBindVppb (b : Binding) (q : Fin 128) (vppb target : Nat) (s : State) : Host.Outcome State Fault Refusal :=
  fmRow b (effBindVppb q vppb target) s

/-- UNBIND_VPPB. -/
def effUnbindVppb (q vppb : Nat) (d : Dev) : Dev :=
  if d.mgmt.vppbs.any fun p => p.1 == q && p.2.1 == vppb then
    (d.setMgmt fun m => { m with vppbs := m.vppbs.filter fun p => !(p.1 == q && p.2.1 == vppb) }).fm FmCmd.unbind 0 0
  else d.fm FmCmd.unbind FmStatus.invalidInput 0

def execUnbindVppb (b : Binding) (q : Fin 128) (vppb : Nat) (s : State) : Host.Outcome State Fault Refusal :=
  fmRow b (effUnbindVppb q vppb) s

/-- Bytes of a body, up to the 4 KiB of one message. -/
def bodyBytes (body : Nat) : Nat := min 4096 ((Nat.log2 body + 8) / 8)

/-- The request that carries a tunnelled command from the management port of the Harbourmaster's cores 0 to 3 (R18). It is a
message, which Customs does not check (R265). -/
def tunnelRequest (q body : Nat) : OrigWait :=
  { quay := q, ini := .harbour FmCmd.tunnel, unit := 16 + (MgmtUnit.core 0).port, level := 3
    msg := { chan := .nonPosted, len := bodyBytes body, size := bodyBytes body, data := body % 2 ^ 32768 } }

/-- A multi-logical device is behind a Downstream quay: an enabled memory device of it has an LD-ID (R183). -/
def Dev.multiLogical (d : Dev) (q : Nat) : Bool :=
  (List.range 64).any fun i => d.get (Obj.memdevEnable i) == 1 && d.get (Obj.memdevQuay i) == q && d.get (Obj.memdevLd i) != 0xFF

/-- TUNNEL_MANAGEMENT_COMMAND: the FM-owned LD answers with ORIGINATED_RESPONSE. -/
def effTunnelManagementCommand (q body : Nat) (d : Dev) : Dev :=
  if d.role q = 2 ∧ d.isUp q ∧ d.multiLogical q then d.issue (tunnelRequest q body)
  else d.fm FmCmd.tunnel FmStatus.invalidInput 0

def execTunnelManagementCommand (b : Binding) (q : Fin 128) (body : Nat) (s : State) : Host.Outcome State Fault Refusal :=
  fmRow b (effTunnelManagementCommand q body) s

/-- INITIATE_DYNAMIC_CAPACITY_ADD. -/
def effInitiateDynamicCapacityAdd (a : DcAdd) (d : Dev) : Dev :=
  match a with
  | .free req => d.fmDo FmCmd.capacityAdd [(Obj.allocGrant, req)]
  | .prescriptive writes announce =>
    d.fmDo FmCmd.capacityAdd (writes.map (fun w => (Obj.ledgerWrite, w)) ++ [(Obj.extentAnnounce, announce)])

def execInitiateDynamicCapacityAdd (b : Binding) (a : DcAdd) (s : State) : Host.Outcome State Fault Refusal :=
  fmRow b (effInitiateDynamicCapacityAdd a) s

/-- INITIATE_DYNAMIC_CAPACITY_RELEASE: a release under R199. -/
def effInitiateDynamicCapacityRelease (n first pages : Nat) (d : Dev) : Dev :=
  (effCapacityRelease n first pages d).fm FmCmd.capacityRelease (FmStatus.invalidInput * b2n (!d.inBerth n first pages)) 0

def execInitiateDynamicCapacityRelease (b : Binding) (n : Fin 1024) (first pages : Nat) (s : State) :
    Host.Outcome State Fault Refusal := fmRow b (effInitiateDynamicCapacityRelease n first pages) s

/-- Events of the log after a number, as records. -/
def Dev.recordsAfter (d : Dev) (n count : Nat) : List Nat :=
  ((d.mgmt.eventLog.filter fun e => decide (n < e.seq)).take count).map Event.record

/-- Records one after another, 64 B each. -/
def packRecords (l : List Nat) : Nat := l.foldr (fun r v => r % 2 ^ 512 + 2 ^ 512 * v) 0

/-- GET_EVENT_RECORDS. -/
def effGetEventRecords (count : Nat) (d : Dev) : Dev :=
  d.fm FmCmd.getEvents 0 (packRecords (d.recordsAfter d.mgmt.fmPointer count))

def execGetEventRecords (b : Binding) (count : Nat) (s : State) : Host.Outcome State Fault Refusal :=
  fmRow b (effGetEventRecords count) s

/-- CLEAR_EVENT_RECORDS: only the read pointer moves. -/
def effClearEventRecords (upTo : Nat) (d : Dev) : Dev :=
  (d.setMgmt fun m => { m with fmPointer := max m.fmPointer upTo }).fm FmCmd.clearEvents 0 0

def execClearEventRecords (b : Binding) (upTo : Nat) (s : State) : Host.Outcome State Fault Refusal :=
  fmRow b (effClearEventRecords upTo) s

/-- ZMP_TUNNEL: its response goes back by the FM API. -/
def effZmpTunnel (m : ZmpMsg) (d : Dev) : Dev := (d.runMessage .fmApi m).1.send (.response 0 (d.runMessage .fmApi m).2)

def execZmpTunnel (b : Binding) (m : ZmpMsg) (s : State) : Host.Outcome State Fault Refusal := fmRow b (effZmpTunnel m) s

/-! PLDM (Table 10.15). -/

def Dev.pldm (command status value : Nat) (d : Dev) : Dev := d.send (.proto 1 command status value)

/-- An answer whose value the spec does not state. -/
def Dev.pldmFree (command : Nat) (d : Dev) : Dev := (d.pldm command 0 d.draw).drawn

/-- PLDM_BASE_COMMAND: GetTID, GetPLDMVersion, GetPLDMTypes (types 0, 2 and 5) and GetPLDMCommands. -/
def effPldmBaseCommand (b : Binding) (command : Nat) (d : Dev) : Dev :=
  if !d.hearsMctp b then d
  else if command = 4 then d.pldm 4 0 0x25
  else if command = 2 ∨ command = 3 ∨ command = 5 then d.pldmFree command
  else d.pldm command 5 0

def execPldmBaseCommand (b : Binding) (command _arg : Nat) (s : State) : Host.Outcome State Fault Refusal :=
  liveLift (effPldmBaseCommand b command) s

/-- The telemetry objects behind the numeric sensors: power, temperature, core rate, six rails' voltage and current, the sideband
sensors, and the bandwidth of each quay. -/
def sensorKey (n : Nat) : Option Nat :=
  if n = 0 then some Obj.powerMeasured
  else if n = 1 then some Obj.tjMax
  else if n = 2 then some Obj.coreRate
  else if n < 16 then none
  else if n < 22 then some (Obj.railVoltage (n - 16))
  else if n < 32 then none
  else if n < 38 then some (Obj.railCurrent (n - 32))
  else if n < 256 then none
  else if n < 512 then some (Obj.sensorValue (n - 256))
  else if n < 640 then some (Obj.bwRx (n - 512))
  else if n < 768 then some (Obj.bwTx (n - 640))
  else none

/-- GetSensorReading, GetPDR and PollForPlatformEventMessage by their codes. -/
abbrev PldmCode.getReading : Nat := 0x11
abbrev PldmCode.getPdr : Nat := 0x51
abbrev PldmCode.pollEvent : Nat := 0x0B

/-- Polling: the oldest event not yet read. -/
def Dev.pldmPoll (d : Dev) : Dev :=
  match d.mgmt.eventLog.find? fun e => decide (d.mgmt.pldmPointer < e.seq) with
  | none => d.pldm PldmCode.pollEvent 0 0
  | some e => (d.setMgmt fun m => { m with pldmPointer := e.seq }).pldm PldmCode.pollEvent 0 e.record

/-- PLDM_PLATFORM_COMMAND. -/
def effPldmPlatformCommand (b : Binding) (c : PldmCmd) (d : Dev) : Dev :=
  if !d.hearsMctp b then d
  else match c with
    | .sensorReading n =>
      match sensorKey n with
      | none => d.pldm PldmCode.getReading 0x80 0
      | some o => if d.exists' o then d.pldm PldmCode.getReading 0 (d.view .fmApi o) else d.pldm PldmCode.getReading 0x80 0
    | .pdr _ => d.pldmFree PldmCode.getPdr
    | .pollEvent => d.pldmPoll
    | .other n => d.pldm n 5 0

def execPldmPlatformCommand (b : Binding) (c : PldmCmd) (s : State) : Host.Outcome State Fault Refusal :=
  liveLift (effPldmPlatformCommand b c) s

/-! Firmware update (R344, R471). Command 0 of `Out.proto` 1 stands for the whole update. -/

/-- The slot that an update writes: the one that does not run, and A when the image in the flash runs. -/
def Dev.updateSlot (d : Dev) : Nat := if d.bw.runSlot = 0 then 1 else 0

/-- An image in a slot. -/
def Bw.place (k : Nat) (i : Image) (b : Bw) : Bw := if k = 0 then { b with imageA := some i } else { b with imageB := some i }

/-- The image is written, and judged: two device commits, with the slot VALID (1) or INVALID (2) at the end. -/
def Dev.update (k : Nat) (i : Image) (d : Dev) : Dev :=
  let d := (d.commit [(fwSlotState k, 3)]).setBw (Bw.place k i)
  if d.imageValid i then d.commit [(fwSlotState k, 1), (Obj.fwNextSlot, k)] else d.commit [(fwSlotState k, 2)]

/-- An update of the running device. -/
def Dev.liveUpdate (b : Binding) (i : Image) (d : Dev) : Dev :=
  if !d.hearsMctp b then d
  else if d.get Obj.pldmUpdateEnable = 1 ∧ d.capsManager b then
    (d.update d.updateSlot i).pldm 0 0 (b2n (d.imageValid i))
  else d.pldm 0 1 0

/-- The recovery loader's update: slot A, and a valid image is booted. -/
def Dev.loaderUpdate (b : Binding) (u : ImageUpdate) (d : Dev) : Dev :=
  if b.transport ≠ 3 ∧ b.transport ≠ 4 then d
  else
    let ok := d.imageValid u.image
    let d := (d.update 0 u.image).pldm 0 0 (b2n ok)
    if ok then (d.setBw fun x => { x with running := some u.image, runSlot := 0 }).startUp u.env else d

/-- PLDM_FIRMWARE_UPDATE. -/
def effPldmFirmwareUpdate (b : Binding) (u : ImageUpdate) (d : Dev) : Dev :=
  if d.boot = .loader then d.loaderUpdate b u else if d.powered then d.liveUpdate b u.image else d

def execPldmFirmwareUpdate (b : Binding) (u : ImageUpdate) (s : State) : Host.Outcome State Fault Refusal :=
  lift (effPldmFirmwareUpdate b u) s

/-! MCTP control (R295, R344). -/

/-- The message types of R295, one byte each after their number: 0x7E, 0x00, 0x01, 0x05 and 0x07. -/
def mctpTypes : Nat := packBytes [5, 0x7E, 0x00, 0x01, 0x05, 0x07]

/-- MCTP control messages are answered: the loader answers on I3C and SMBus. -/
def Dev.mctpOpen (d : Dev) (b : Binding) : Bool := if d.boot = .loader then b.transport == 3 || b.transport == 4 else d.powered && d.hearsMctp b

/-- MCTP_CONTROL: Get Message Type Support lists the types; the values of the other answers the spec does not state. -/
def effMctpControl (b : Binding) (command : Nat) (d : Dev) : Dev :=
  if !d.mctpOpen b then d
  else if command = 5 then d.send (.proto 2 5 0 mctpTypes)
  else (d.send (.proto 2 command 0 d.draw)).drawn

def execMctpControl (b : Binding) (command _arg : Nat) (s : State) : Host.Outcome State Fault Refusal :=
  lift (effMctpControl b command) s

end Sys2Proof.Machine
end

