-- ==== Sys2Proof/Machine/Dispatch.lean ====
section
/-!
DEFINITION. The dispatch: one arm for each command, one direct call of its meaning.
-/

namespace Sys2Proof.Machine

open Sys2Proof

def exec (i : Instr) (s : State) : Host.Outcome State Fault Refusal :=
  match i with
  | .handshakeEvaluation out => Sys2Proof.Machine.execHandshakeEvaluation out s
  | .wharfClockStop w => Sys2Proof.Machine.execWharfClockStop w s
  | .serviceGo c v => Sys2Proof.Machine.execServiceGo c v s
  | .modeChange c v => Sys2Proof.Machine.execModeChange c v s
  | .enterSalvage c v => Sys2Proof.Machine.execEnterSalvage c v s
  | .recoveryReset c v => Sys2Proof.Machine.execRecoveryReset c v s
  | .enterDrydock c v => Sys2Proof.Machine.execEnterDrydock c v s
  | .leaveDrydock c v => Sys2Proof.Machine.execLeaveDrydock c v s
  | .powerStateRequest c v => Sys2Proof.Machine.execPowerStateRequest c v s
  | .autostart => Sys2Proof.Machine.execAutostart s
  | .profileWrite c m sub v => Sys2Proof.Machine.execProfileWrite c m sub v s
  | .wharfRetrainDone w => Sys2Proof.Machine.execWharfRetrainDone w s
  | .sliceParkDone sl => Sys2Proof.Machine.execSliceParkDone sl s
  | .sliceUnparkDone sl => Sys2Proof.Machine.execSliceUnparkDone sl s
  | .lullEntry => Sys2Proof.Machine.execLullEntry s
  | .lullExit => Sys2Proof.Machine.execLullExit s
  | .lullEntryAbort => Sys2Proof.Machine.execLullEntryAbort s
  | .decision c v => Sys2Proof.Machine.execDecision c v s
  | .decisionLimitExpiry token => Sys2Proof.Machine.execDecisionLimitExpiry token s
  | .functionModeWrite c f v => Sys2Proof.Machine.execFunctionModeWrite c f v s
  | .decisionLimitWrite c f v => Sys2Proof.Machine.execDecisionLimitWrite c f v s
  | .bifurcationWrite c w v => Sys2Proof.Machine.execBifurcationWrite c w v s
  | .narrowWrite c q v => Sys2Proof.Machine.execNarrowWrite c q v s
  | .roleWrite c q v => Sys2Proof.Machine.execRoleWrite c q v s
  | .cxlOfferWrite c q v => Sys2Proof.Machine.execCxlOfferWrite c q v s
  | .minWidthWrite c q v => Sys2Proof.Machine.execMinWidthWrite c q v s
  | .wharfStart t refValid => Sys2Proof.Machine.execWharfStart t refValid s
  | .refclkAbsentCheck t => Sys2Proof.Machine.execRefclkAbsentCheck t s
  | .refclkLoss t => Sys2Proof.Machine.execRefclkLoss t s
  | .refclkReturn t => Sys2Proof.Machine.execRefclkReturn t s
  | .pllRelock w => Sys2Proof.Machine.execPllRelock w s
  | .laneFomSample q foms => Sys2Proof.Machine.execLaneFomSample q foms s
  | .laneLockLossTimeout q lane => Sys2Proof.Machine.execLaneLockLossTimeout q lane s
  | .widthRetrain q r => Sys2Proof.Machine.execWidthRetrain q r s
  | .restoreWidth c q v => Sys2Proof.Machine.execRestoreWidth c q v s
  | .widthRequest c q v => Sys2Proof.Machine.execWidthRequest c q v s
  | .partnerWidthRequest q width => Sys2Proof.Machine.execPartnerWidthRequest q width s
  | .l0pChangeDone q width => Sys2Proof.Machine.execL0pChangeDone q width s
  | .widthReissue q => Sys2Proof.Machine.execWidthReissue q s
  | .l1Entry q => Sys2Proof.Machine.execL1Entry q s
  | .l1Exit q => Sys2Proof.Machine.execL1Exit q s
  | .flitReceived q f => Sys2Proof.Machine.execFlitReceived q f s
  | .flitTransmit q n => Sys2Proof.Machine.execFlitTransmit q n s
  | .partnerReplayRequest q selective seq => Sys2Proof.Machine.execPartnerReplayRequest q selective seq s
  | .replayTimeout q => Sys2Proof.Machine.execReplayTimeout q s
  | .linkLoss q failed dlDown => Sys2Proof.Machine.execLinkLoss q failed dlDown s
  | .linkUp q r => Sys2Proof.Machine.execLinkUp q r s
  | .dlUp q => Sys2Proof.Machine.execDlUp q s
  | .fabricIdentityMessage q id => Sys2Proof.Machine.execFabricIdentityMessage q id s
  | .fabricIdentityTimeout q => Sys2Proof.Machine.execFabricIdentityTimeout q s
  | .quayDown c v => Sys2Proof.Machine.execQuayDown c v s
  | .quayRelease c v => Sys2Proof.Machine.execQuayRelease c v s
  | .hostPerstAssert q => Sys2Proof.Machine.execHostPerstAssert q s
  | .hostPerstDeassert q => Sys2Proof.Machine.execHostPerstDeassert q s
  | .hotResetReceived q => Sys2Proof.Machine.execHotResetReceived q s
  | .originatedRequestExpiry q slot gen => Sys2Proof.Machine.execOriginatedRequestExpiry q slot gen s
  | .originatedResponse q slot gen r => Sys2Proof.Machine.execOriginatedResponse q slot gen r s
  | .pbrFlitRoute q id m => Sys2Proof.Machine.execPbrFlitRoute q id m s
  | .routeBlockWrite c k v => Sys2Proof.Machine.execRouteBlockWrite c k v s
  | .fabricIdWrite c v => Sys2Proof.Machine.execFabricIdWrite c v s
  | .messageAdmission q m => Sys2Proof.Machine.execMessageAdmission q m s
  | .impoundPropagation master => Sys2Proof.Machine.execImpoundPropagation master s
  | .cellRecharge inp out cls => Sys2Proof.Machine.execCellRecharge inp out cls s
  | .priorityWrite c p weight v => Sys2Proof.Machine.execPriorityWrite c p weight v s
  | .priorityReachesArbiter out => Sys2Proof.Machine.execPriorityReachesArbiter out s
  | .gateCommit c q v => Sys2Proof.Machine.execGateCommit c q v s
  | .gateListStart q => Sys2Proof.Machine.execGateListStart q s
  | .gateEntryChange q => Sys2Proof.Machine.execGateEntryChange q s
  | .gateEnableWrite c q v => Sys2Proof.Machine.execGateEnableWrite c q v s
  | .shaperRefill => Sys2Proof.Machine.execShaperRefill s
  | .shaperWrite c q cls what v => Sys2Proof.Machine.execShaperWrite c q cls what v s
  | .queueSample => Sys2Proof.Machine.execQueueSample s
  | .hostBasinRequest b line r => Sys2Proof.Machine.execHostBasinRequest b line r s
  | .ringSnoopArrival sl key => Sys2Proof.Machine.execRingSnoopArrival sl key s
  | .snoopAnswer sl key a => Sys2Proof.Machine.execSnoopAnswer sl key a s
  | .nearCopyAck sl key => Sys2Proof.Machine.execNearCopyAck sl key s
  | .biconflict sl key host k => Sys2Proof.Machine.execBiconflict sl key host k s
  | .peerCopyDrop sl key => Sys2Proof.Machine.execPeerCopyDrop sl key s
  | .mLineEviction sl key => Sys2Proof.Machine.execMLineEviction sl key s
  | .writeBackComplete sl key performed => Sys2Proof.Machine.execWriteBackComplete sl key performed s
  | .snoopTimeoutExpiry sl key who => Sys2Proof.Machine.execSnoopTimeoutExpiry sl key who s
  | .basinEnableWrite c b v => Sys2Proof.Machine.execBasinEnableWrite c b v s
  | .basinConfigWrite c b what v => Sys2Proof.Machine.execBasinConfigWrite c b what v s
  | .basinReset c b v => Sys2Proof.Machine.execBasinReset c b v s
  | .resetWalkEnd b => Sys2Proof.Machine.execResetWalkEnd b s
  | .basinOpen c b v => Sys2Proof.Machine.execBasinOpen c b v s
  | .slotBindingWrite c h source v => Sys2Proof.Machine.execSlotBindingWrite c h source v s
  | .berthEnableWrite c n v => Sys2Proof.Machine.execBerthEnableWrite c n v s
  | .berthChange c n what v => Sys2Proof.Machine.execBerthChange c n what v s
  | .ledgerWalkDone sl line ok => Sys2Proof.Machine.execLedgerWalkDone sl line ok s
  | .ledgerInit c v => Sys2Proof.Machine.execLedgerInit c v s
  | .ledgerAdopt c v => Sys2Proof.Machine.execLedgerAdopt c v s
  | .ledgerWrite c v => Sys2Proof.Machine.execLedgerWrite c v s
  | .pageFenceDone index => Sys2Proof.Machine.execPageFenceDone index s
  | .poolBarrier c v => Sys2Proof.Machine.execPoolBarrier c v s
  | .poolBarrierDone => Sys2Proof.Machine.execPoolBarrierDone s
  | .allocGrant c v => Sys2Proof.Machine.execAllocGrant c v s
  | .zeroWaitExpiry target => Sys2Proof.Machine.execZeroWaitExpiry target s
  | .extentAnnounce c v => Sys2Proof.Machine.execExtentAnnounce c v s
  | .hostExtentResponse n first accept => Sys2Proof.Machine.execHostExtentResponse n first accept s
  | .addResponseExpiry n first => Sys2Proof.Machine.execAddResponseExpiry n first s
  | .capacityRelease n first pages => Sys2Proof.Machine.execCapacityRelease n first pages s
  | .pageZeroDone d page ok => Sys2Proof.Machine.execPageZeroDone d page ok s
  | .hostPrivateWrite a => Sys2Proof.Machine.execHostPrivateWrite a s
  | .berthFlush c n v => Sys2Proof.Machine.execBerthFlush c n v s
  | .memoryWriteFail q slot gen cause => Sys2Proof.Machine.execMemoryWriteFail q slot gen cause s
  | .poisonedWriteComplete d line => Sys2Proof.Machine.execPoisonedWriteComplete d line s
  | .prefetchHint sl key => Sys2Proof.Machine.execPrefetchHint sl key s
  | .migrate c v => Sys2Proof.Machine.execMigrate c v s
  | .baleDone m r => Sys2Proof.Machine.execBaleDone m r s
  | .sourcePageRelease d page => Sys2Proof.Machine.execSourcePageRelease d page s
  | .migrateAbort c v => Sys2Proof.Machine.execMigrateAbort c v s
  | .tierFold => Sys2Proof.Machine.execTierFold s
  | .tierSweep => Sys2Proof.Machine.execTierSweep s
  | .allowanceRefill e => Sys2Proof.Machine.execAllowanceRefill e s
  | .engineRound e => Sys2Proof.Machine.execEngineRound e s
  | .pieceComplete inst qid entry piece engine => Sys2Proof.Machine.execPieceComplete inst qid entry piece engine s
  | .queuePoll inst qid posted ok => Sys2Proof.Machine.execQueuePoll inst qid posted ok s
  | .invalidate inst qid => Sys2Proof.Machine.execInvalidate inst qid s
  | .disable inst qid => Sys2Proof.Machine.execDisable inst qid s
  | .disableClear inst qid => Sys2Proof.Machine.execDisableClear inst qid s
  | .craneEnable inst r => Sys2Proof.Machine.execCraneEnable inst r s
  | .createQueue inst ctx => Sys2Proof.Machine.execCreateQueue inst ctx s
  | .destroyQueue inst qid => Sys2Proof.Machine.execDestroyQueue inst qid s
  | .queryQueue inst qid ok => Sys2Proof.Machine.execQueryQueue inst qid ok s
  | .queueDestroyDone inst qid => Sys2Proof.Machine.execQueueDestroyDone inst qid s
  | .hostDecision inst token verdict => Sys2Proof.Machine.execHostDecision inst token verdict s
  | .h2mPost inst msg => Sys2Proof.Machine.execH2mPost inst msg s
  | .mboxH2mAck c v => Sys2Proof.Machine.execMboxH2mAck c v s
  | .mboxM2h c v => Sys2Proof.Machine.execMboxM2h c v s
  | .capRequest inst req => Sys2Proof.Machine.execCapRequest inst req s
  | .capRelease inst req => Sys2Proof.Machine.execCapRelease inst req s
  | .instConfig c v => Sys2Proof.Machine.execInstConfig c v s
  | .instReset c v => Sys2Proof.Machine.execInstReset c v s
  | .functionLevelReset inst => Sys2Proof.Machine.execFunctionLevelReset inst s
  | .instDrainExpiry inst => Sys2Proof.Machine.execInstDrainExpiry inst s
  | .regionSet c v => Sys2Proof.Machine.execRegionSet c v s
  | .regionClearMaster c v => Sys2Proof.Machine.execRegionClearMaster c v s
  | .privilegeSet c v => Sys2Proof.Machine.execPrivilegeSet c v s
  | .epochReachesChecker k => Sys2Proof.Machine.execEpochReachesChecker k s
  | .customsBarrier c v => Sys2Proof.Machine.execCustomsBarrier c v s
  | .customsBarrierDone => Sys2Proof.Machine.execCustomsBarrierDone s
  | .customsBarrierExpiry => Sys2Proof.Machine.execCustomsBarrierExpiry s
  | .releaseRecheck c v => Sys2Proof.Machine.execReleaseRecheck c v s
  | .releaseDiscard c v => Sys2Proof.Machine.execReleaseDiscard c v s
  | .zmpFrame f => Sys2Proof.Machine.execZmpFrame f s
  | .identify b => Sys2Proof.Machine.execIdentify b s
  | .read c o => Sys2Proof.Machine.execRead c o s
  | .write c o v => Sys2Proof.Machine.execWrite c o v s
  | .writeCas c o seq v => Sys2Proof.Machine.execWriteCas c o seq v s
  | .describe c o => Sys2Proof.Machine.execDescribe c o s
  | .next c o => Sys2Proof.Machine.execNext c o s
  | .eventAck slot seq => Sys2Proof.Machine.execEventAck slot seq s
  | .eventRetry => Sys2Proof.Machine.execEventRetry s
  | .commandAnswer slot seq status value => Sys2Proof.Machine.execCommandAnswer slot seq status value s
  | .store c v => Sys2Proof.Machine.execStore c v s
  | .restoreDefaults c v => Sys2Proof.Machine.execRestoreDefaults c v s
  | .groupClaim c v => Sys2Proof.Machine.execGroupClaim c v s
  | .groupRelease c v => Sys2Proof.Machine.execGroupRelease c v s
  | .sessionClose c v => Sys2Proof.Machine.execSessionClose c v s
  | .heartbeatTimeout slot => Sys2Proof.Machine.execHeartbeatTimeout slot s
  | .timeMeasurement src offset => Sys2Proof.Machine.execTimeMeasurement src offset s
  | .timeHoldover => Sys2Proof.Machine.execTimeHoldover s
  | .timeSourceWrite c v => Sys2Proof.Machine.execTimeSourceWrite c v s
  | .identifySwitchDevice b => Sys2Proof.Machine.execIdentifySwitchDevice b s
  | .getPhysicalPortState b quays => Sys2Proof.Machine.execGetPhysicalPortState b quays s
  | .resetPpb b q => Sys2Proof.Machine.execResetPpb b q s
  | .getVirtualCxlSwitchInfo b q => Sys2Proof.Machine.execGetVirtualCxlSwitchInfo b q s
  | .bindVppb b q vppb target => Sys2Proof.Machine.execBindVppb b q vppb target s
  | .unbindVppb b q vppb => Sys2Proof.Machine.execUnbindVppb b q vppb s
  | .tunnelManagementCommand b q body => Sys2Proof.Machine.execTunnelManagementCommand b q body s
  | .initiateDynamicCapacityAdd b a => Sys2Proof.Machine.execInitiateDynamicCapacityAdd b a s
  | .initiateDynamicCapacityRelease b n first pages => Sys2Proof.Machine.execInitiateDynamicCapacityRelease b n first pages s
  | .getEventRecords b count => Sys2Proof.Machine.execGetEventRecords b count s
  | .clearEventRecords b upTo => Sys2Proof.Machine.execClearEventRecords b upTo s
  | .zmpTunnel b m => Sys2Proof.Machine.execZmpTunnel b m s
  | .pldmBaseCommand b command arg => Sys2Proof.Machine.execPldmBaseCommand b command arg s
  | .pldmPlatformCommand b command => Sys2Proof.Machine.execPldmPlatformCommand b command s
  | .pldmFirmwareUpdate b image => Sys2Proof.Machine.execPldmFirmwareUpdate b image s
  | .mctpControl b command arg => Sys2Proof.Machine.execMctpControl b command arg s
  | .railPowerGood r nextGood => Sys2Proof.Machine.execRailPowerGood r nextGood s
  | .railPowerGoodTimeout r => Sys2Proof.Machine.execRailPowerGoodTimeout r s
  | .railPowerGoodLost r => Sys2Proof.Machine.execRailPowerGoodLost r s
  | .railPmbusRead r reading => Sys2Proof.Machine.execRailPmbusRead r reading s
  | .avsUpdate coreRate => Sys2Proof.Machine.execAvsUpdate coreRate s
  | .droop low => Sys2Proof.Machine.execDroop low s
  | .droopFatal volts => Sys2Proof.Machine.execDroopFatal volts s
  | .governorWindow demand => Sys2Proof.Machine.execGovernorWindow demand s
  | .foreLeadExpiry => Sys2Proof.Machine.execForeLeadExpiry s
  | .foreRampEnd => Sys2Proof.Machine.execForeRampEnd s
  | .syncFrame f => Sys2Proof.Machine.execSyncFrame f s
  | .syncHeartbeat => Sys2Proof.Machine.execSyncHeartbeat s
  | .syncBroken => Sys2Proof.Machine.execSyncBroken s
  | .powerControlUpdate => Sys2Proof.Machine.execPowerControlUpdate s
  | .thermalSample tj => Sys2Proof.Machine.execThermalSample tj s
  | .slotPresence sl => Sys2Proof.Machine.execSlotPresence sl s
  | .slotPresenceLost sl => Sys2Proof.Machine.execSlotPresenceLost sl s
  | .slotSeatEdge sl low => Sys2Proof.Machine.execSlotSeatEdge sl low s
  | .seatDebounceEnd sl => Sys2Proof.Machine.execSeatDebounceEnd sl s
  | .slotPowerOn c sl => Sys2Proof.Machine.execSlotPowerOn c sl s
  | .slotPowerOff c sl => Sys2Proof.Machine.execSlotPowerOff c sl s
  | .slotRampStart sl => Sys2Proof.Machine.execSlotRampStart sl s
  | .slotPowerGood sl => Sys2Proof.Machine.execSlotPowerGood sl s
  | .perstDelayExpiry sl => Sys2Proof.Machine.execPerstDelayExpiry sl s
  | .slotCurrentLimit sl => Sys2Proof.Machine.execSlotCurrentLimit sl s
  | .slotCurrentRecover sl => Sys2Proof.Machine.execSlotCurrentRecover sl s
  | .faultTimerExpiry sl => Sys2Proof.Machine.execFaultTimerExpiry sl s
  | .slotHardTrip sl => Sys2Proof.Machine.execSlotHardTrip sl s
  | .slotCooldownEnd sl => Sys2Proof.Machine.execSlotCooldownEnd sl s
  | .retryDelayExpiry sl => Sys2Proof.Machine.execRetryDelayExpiry sl s
  | .slotResetFault c sl v => Sys2Proof.Machine.execSlotResetFault c sl v s
  | .slotInputLow sl => Sys2Proof.Machine.execSlotInputLow sl s
  | .bpEnableWrite c b v => Sys2Proof.Machine.execBpEnableWrite c b v s
  | .bpPrechargeDone b => Sys2Proof.Machine.execBpPrechargeDone b s
  | .bpPrechargeExpiry b => Sys2Proof.Machine.execBpPrechargeExpiry b s
  | .bpCooldownEnd b => Sys2Proof.Machine.execBpCooldownEnd b s
  | .bpOvercurrent b => Sys2Proof.Machine.execBpOvercurrent b s
  | .bpResetFault c b v => Sys2Proof.Machine.execBpResetFault c b v s
  | .vauxGood st => Sys2Proof.Machine.execVauxGood st s
  | .vauxLoss => Sys2Proof.Machine.execVauxLoss s
  | .svnCommit c v => Sys2Proof.Machine.execSvnCommit c v s
  | .keySlotRevoke c v => Sys2Proof.Machine.execKeySlotRevoke c v s
  | .getVersion b => Sys2Proof.Machine.execGetVersion b s
  | .getCapabilities b => Sys2Proof.Machine.execGetCapabilities b s
  | .negotiateAlgorithms b offered => Sys2Proof.Machine.execNegotiateAlgorithms b offered s
  | .getDigests b => Sys2Proof.Machine.execGetDigests b s
  | .getCertificate b slot => Sys2Proof.Machine.execGetCertificate b slot s
  | .challenge b slot nonce => Sys2Proof.Machine.execChallenge b slot nonce s
  | .getMeasurements b index nonce => Sys2Proof.Machine.execGetMeasurements b index nonce s
  | .keyExchange b k => Sys2Proof.Machine.execKeyExchange b k s
  | .pskExchange b hint proofOk => Sys2Proof.Machine.execPskExchange b hint proofOk s
  | .endSession slot => Sys2Proof.Machine.execEndSession slot s
  | .keyUpdate slot => Sys2Proof.Machine.execKeyUpdate slot s
  | .setCertificate session slot chain => Sys2Proof.Machine.execSetCertificate session slot chain s
  | .credentialWrite c k v => Sys2Proof.Machine.execCredentialWrite c k v s
  | .keyProg q k => Sys2Proof.Machine.execKeyProg q k s
  | .kSetGo q stream set go => Sys2Proof.Machine.execKSetGo q stream set go s
  | .ideRekey q stream => Sys2Proof.Machine.execIdeRekey q stream s
  | .keySetRetirement q stream => Sys2Proof.Machine.execKeySetRetirement q stream s
  | .ideRequiredWrite c q v => Sys2Proof.Machine.execIdeRequiredWrite c q v s
  | .drbgReseed => Sys2Proof.Machine.execDrbgReseed s
  | .entropyHealthWindow ok => Sys2Proof.Machine.execEntropyHealthWindow ok s
  | .periodicSelfTest fails => Sys2Proof.Machine.execPeriodicSelfTest fails s
  | .selfTest c v => Sys2Proof.Machine.execSelfTest c v s
  | .tamper kind => Sys2Proof.Machine.execTamper kind s
  | .hardErrorReset env => Sys2Proof.Machine.execHardErrorReset env s
  | .zeroise c v => Sys2Proof.Machine.execZeroise c v s
  | .lifecycleArm c v => Sys2Proof.Machine.execLifecycleArm c v s
  | .lifecycleConfirm c v => Sys2Proof.Machine.execLifecycleConfirm c v s
  | .lifecycleArmingLapse => Sys2Proof.Machine.execLifecycleArmingLapse s
  | .debugAuthorise c v => Sys2Proof.Machine.execDebugAuthorise c v s
  | .debugPendingLapse => Sys2Proof.Machine.execDebugPendingLapse s
  | .debugRevoke c v => Sys2Proof.Machine.execDebugRevoke c v s
  | .errorReport e => Sys2Proof.Machine.execErrorReport e s
  | .classAck c cls v => Sys2Proof.Machine.execClassAck c cls v s
  | .stallDetect u => Sys2Proof.Machine.execStallDetect u s
  | .fencedRequestTimeout u => Sys2Proof.Machine.execFencedRequestTimeout u s
  | .fenceUnit c v => Sys2Proof.Machine.execFenceUnit c v s
  | .fenceRehashDone sl => Sys2Proof.Machine.execFenceRehashDone sl s
  | .fenceClear c v => Sys2Proof.Machine.execFenceClear c v s
  | .sourceClear c v => Sys2Proof.Machine.execSourceClear c v s
  | .salvageFlushEnd lost => Sys2Proof.Machine.execSalvageFlushEnd lost s
  | .busTransfer b => Sys2Proof.Machine.execBusTransfer b s
  | .farTransferDone b code data => Sys2Proof.Machine.execFarTransferDone b code data s
  | .clockTimeout b => Sys2Proof.Machine.execClockTimeout b s
  | .busClear b ok => Sys2Proof.Machine.execBusClear b ok s
  | .signalPoll b sample => Sys2Proof.Machine.execSignalPoll b sample s
  | .windowDataRead w a => Sys2Proof.Machine.execWindowDataRead w a s
  | .windowDataWrite w a => Sys2Proof.Machine.execWindowDataWrite w a s
  | .wrErrorClear w => Sys2Proof.Machine.execWrErrorClear w s
  | .winHoldExpiry w => Sys2Proof.Machine.execWinHoldExpiry w s
  | .discardTimerExpiry w => Sys2Proof.Machine.execDiscardTimerExpiry w s
  | .winEnableWrite c w v => Sys2Proof.Machine.execWinEnableWrite c w v s
  | .sensorRead n code data => Sys2Proof.Machine.execSensorRead n code data s
  | .voutModeRead n code data => Sys2Proof.Machine.execVoutModeRead n code data s
  | .ctrValueWrite c u k v => Sys2Proof.Machine.execCtrValueWrite c u k v s
  | .ctrOverflowClear c u v => Sys2Proof.Machine.execCtrOverflowClear c u v s
  | .counterConfigWrite c w v => Sys2Proof.Machine.execCounterConfigWrite c w v s
  | .bwWindowEnd q => Sys2Proof.Machine.execBwWindowEnd q s
  | .bwWindowWrite c q v => Sys2Proof.Machine.execBwWindowWrite c q v s
  | .initClear c ini v => Sys2Proof.Machine.execInitClear c ini v s
  | .telemetryPeriod => Sys2Proof.Machine.execTelemetryPeriod s
  | .traceStart c v => Sys2Proof.Machine.execTraceStart c v s
  | .traceStop c v => Sys2Proof.Machine.execTraceStop c v s
  | .extest => Sys2Proof.Machine.execExtest s
  | .samplePreload v => Sys2Proof.Machine.execSamplePreload v s
  | .idcode => Sys2Proof.Machine.execIdcode s
  | .clamp => Sys2Proof.Machine.execClamp s
  | .highz => Sys2Proof.Machine.execHighz s
  | .extestPulse => Sys2Proof.Machine.execExtestPulse s
  | .extestTrain => Sys2Proof.Machine.execExtestTrain s
  | .debugAccess a => Sys2Proof.Machine.execDebugAccess a s
  | .bypass => Sys2Proof.Machine.execBypass s
  | .tapReset => Sys2Proof.Machine.execTapReset s
  | .tgStart c g v => Sys2Proof.Machine.execTgStart c g v s
  | .tgStop c g v => Sys2Proof.Machine.execTgStop c g v s
  | .tgRequestResult g r => Sys2Proof.Machine.execTgRequestResult g r s
  | .prbsPatternWrite c v => Sys2Proof.Machine.execPrbsPatternWrite c v s
  | .laneLockLoss q lane => Sys2Proof.Machine.execLaneLockLoss q lane s
  | .laneLockRegain q lane => Sys2Proof.Machine.execLaneLockRegain q lane s
  | .refclkFirstArrival t => Sys2Proof.Machine.execRefclkFirstArrival t s
  | .enumerationDone q => Sys2Proof.Machine.execEnumerationDone q s
  | .ethLinkChange p up => Sys2Proof.Machine.execEthLinkChange p up s
  | .inBandInterrupt b addr => Sys2Proof.Machine.execInBandInterrupt b addr s

end Sys2Proof.Machine
end

