-- ==== Sys2Proof/WellFormed.lean ====
section
/-!
DEFINITION. Well-formed commands: what a sender can put into the fields of Tables 10.6 to 10.10.
-/

namespace Sys2Proof

/-- A session slot (Table 10.17). -/
def slotOk (n : Nat) : Bool := decide (1 ≤ n ∧ n ≤ 16)

/-- Who sends a command from outside: a session, or the FM API. -/
def callerOk : Caller → Bool
  | .session n => slotOk n
  | .fmApi => true
  | .device => false

/-- LENGTH is a 16-bit field, EXPECT_SEQ one of 64 bits (Table 10.10). -/
def callOk (c : Call) : Bool := callerOk c.caller && decide (c.len < 2 ^ 16) && decide (c.expect.getD 0 < 2 ^ 64)

/-- A value lies in LENGTH bytes. -/
def fits (c : Call) (v : Nat) : Bool := decide (v < 2 ^ (8 * c.len))

/-- INDEX has 16 bits, SUB 8. -/
def refOk (o : ObjRef) : Bool := decide (o.index < 2 ^ 16) && decide (o.sub < 2 ^ 8)

/-- A transport of Table 10.17. -/
def bindingOk (b : Binding) : Bool := decide (1 ≤ b.transport ∧ b.transport ≤ 5)

/-- An operation of a request. -/
def opOk : ZmpOp → Bool
  | .read o => refOk o
  | .write o len v => refOk o && decide (len < 2 ^ 16) && decide (v < 2 ^ (8 * len))
  | .writeCas o seq len v => refOk o && decide (len < 2 ^ 16) && decide (v < 2 ^ (8 * len)) && decide (seq < 2 ^ 64)
  | .describe o => refOk o
  | .next o => refOk o
  | .bad o => refOk o

/-- A request message: MSG_ID has 16 bits, COUNT 8 (Table 10.9). -/
def msgOk (m : ZmpMsg) : Bool := decide (m.msgId < 2 ^ 16) && decide (m.ops.length < 2 ^ 8) && m.ops.all opOk

/-- A frame's body. -/
def bodyOk : FrameBody → Bool
  | .secured n m => slotOk n && msgOk m
  | .identify => true
  | .other => true

/-- A frame: BODY_LENGTH has 16 bits (Table 10.6). -/
def frameOk (f : Frame) : Bool :=
  bindingOk f.binding && decide (f.magic < 2 ^ 16) && decide (f.version < 2 ^ 8) && decide (f.bodyLen < 2 ^ 16) && bodyOk f.body

/-- The operands of a command are ones that its sender can send. -/
def Instr.wf : Instr → Bool
  | .handshakeEvaluation _ => true
  | .wharfClockStop _ => true
  | .serviceGo c v => callOk c && fits c v
  | .modeChange c v => callOk c && fits c v
  | .enterSalvage c v => callOk c && fits c v
  | .recoveryReset c v => callOk c && fits c v
  | .enterDrydock c v => callOk c && fits c v
  | .leaveDrydock c v => callOk c && fits c v
  | .powerStateRequest c v => callOk c && fits c v
  | .autostart => true
  | .profileWrite c _ _ v => callOk c && fits c v
  | .wharfRetrainDone _ => true
  | .sliceParkDone _ => true
  | .sliceUnparkDone _ => true
  | .lullEntry => true
  | .lullExit => true
  | .lullEntryAbort => true
  | .decision c v => callOk c && fits c v
  | .decisionLimitExpiry _ => true
  | .functionModeWrite c _ v => callOk c && fits c v
  | .decisionLimitWrite c _ v => callOk c && fits c v
  | .bifurcationWrite c _ v => callOk c && fits c v
  | .narrowWrite c _ v => callOk c && fits c v
  | .roleWrite c _ v => callOk c && fits c v
  | .cxlOfferWrite c _ v => callOk c && fits c v
  | .minWidthWrite c _ v => callOk c && fits c v
  | .wharfStart _ _ => true
  | .refclkAbsentCheck _ => true
  | .refclkLoss _ => true
  | .refclkReturn _ => true
  | .pllRelock _ => true
  | .laneFomSample _ _ => true
  | .laneLockLossTimeout _ _ => true
  | .widthRetrain _ _ => true
  | .restoreWidth c _ v => callOk c && fits c v
  | .widthRequest c _ v => callOk c && fits c v
  | .partnerWidthRequest _ _ => true
  | .l0pChangeDone _ _ => true
  | .widthReissue _ => true
  | .l1Entry _ => true
  | .l1Exit _ => true
  | .flitReceived _ _ => true
  | .flitTransmit _ _ => true
  | .partnerReplayRequest _ _ _ => true
  | .replayTimeout _ => true
  | .linkLoss _ _ _ => true
  | .linkUp _ _ => true
  | .dlUp _ => true
  | .fabricIdentityMessage _ _ => true
  | .fabricIdentityTimeout _ => true
  | .quayDown c v => callOk c && fits c v
  | .quayRelease c v => callOk c && fits c v
  | .hostPerstAssert _ => true
  | .hostPerstDeassert _ => true
  | .hotResetReceived _ => true
  | .originatedRequestExpiry _ _ _ => true
  | .originatedResponse _ _ _ _ => true
  | .pbrFlitRoute _ _ _ => true
  | .routeBlockWrite c _ v => callOk c && fits c v
  | .fabricIdWrite c v => callOk c && fits c v
  | .messageAdmission _ _ => true
  | .impoundPropagation _ => true
  | .cellRecharge _ _ _ => true
  | .priorityWrite c _ _ v => callOk c && fits c v
  | .priorityReachesArbiter _ => true
  | .gateCommit c _ v => callOk c && fits c v
  | .gateListStart _ => true
  | .gateEntryChange _ => true
  | .gateEnableWrite c _ v => callOk c && fits c v
  | .shaperRefill => true
  | .shaperWrite c _ _ _ v => callOk c && fits c v
  | .queueSample => true
  | .hostBasinRequest _ _ _ => true
  | .ringSnoopArrival _ _ => true
  | .snoopAnswer _ _ _ => true
  | .nearCopyAck _ _ => true
  | .biconflict _ _ _ _ => true
  | .peerCopyDrop _ _ => true
  | .mLineEviction _ _ => true
  | .writeBackComplete _ _ _ => true
  | .snoopTimeoutExpiry _ _ _ => true
  | .basinEnableWrite c _ v => callOk c && fits c v
  | .basinConfigWrite c _ _ v => callOk c && fits c v
  | .basinReset c _ v => callOk c && fits c v
  | .resetWalkEnd _ => true
  | .basinOpen c _ v => callOk c && fits c v
  | .slotBindingWrite c _ _ v => callOk c && fits c v
  | .berthEnableWrite c _ v => callOk c && fits c v
  | .berthChange c _ _ v => callOk c && fits c v
  | .ledgerWalkDone _ _ _ => true
  | .ledgerInit c v => callOk c && fits c v
  | .ledgerAdopt c v => callOk c && fits c v
  | .ledgerWrite c v => callOk c && fits c v
  | .pageFenceDone _ => true
  | .poolBarrier c v => callOk c && fits c v
  | .poolBarrierDone => true
  | .allocGrant c v => callOk c && fits c v
  | .zeroWaitExpiry _ => true
  | .extentAnnounce c v => callOk c && fits c v
  | .hostExtentResponse _ _ _ => true
  | .addResponseExpiry _ _ => true
  | .capacityRelease _ _ _ => true
  | .pageZeroDone _ _ _ => true
  | .hostPrivateWrite _ => true
  | .berthFlush c _ v => callOk c && fits c v
  | .memoryWriteFail _ _ _ _ => true
  | .poisonedWriteComplete _ _ => true
  | .prefetchHint _ _ => true
  | .migrate c v => callOk c && fits c v
  | .baleDone _ _ => true
  | .sourcePageRelease _ _ => true
  | .migrateAbort c v => callOk c && fits c v
  | .tierFold => true
  | .tierSweep => true
  | .allowanceRefill _ => true
  | .engineRound _ => true
  | .pieceComplete _ _ _ _ _ => true
  | .queuePoll _ _ _ _ => true
  | .invalidate _ _ => true
  | .disable _ _ => true
  | .disableClear _ _ => true
  | .craneEnable _ _ => true
  | .createQueue _ _ => true
  | .destroyQueue _ _ => true
  | .queryQueue _ _ _ => true
  | .queueDestroyDone _ _ => true
  | .hostDecision _ _ _ => true
  | .h2mPost _ _ => true
  | .mboxH2mAck c v => callOk c && fits c v
  | .mboxM2h c v => callOk c && fits c v
  | .capRequest _ _ => true
  | .capRelease _ _ => true
  | .instConfig c v => callOk c && fits c v
  | .instReset c v => callOk c && fits c v
  | .functionLevelReset _ => true
  | .instDrainExpiry _ => true
  | .regionSet c v => callOk c && fits c v
  | .regionClearMaster c v => callOk c && fits c v
  | .privilegeSet c v => callOk c && fits c v
  | .epochReachesChecker _ => true
  | .customsBarrier c v => callOk c && fits c v
  | .customsBarrierDone => true
  | .customsBarrierExpiry => true
  | .releaseRecheck c v => callOk c && fits c v
  | .releaseDiscard c v => callOk c && fits c v
  | .zmpFrame f => frameOk f
  | .identify b => bindingOk b
  | .read c o => callOk c && refOk o
  | .write c o v => callOk c && refOk o && fits c v
  | .writeCas c o seq v => callOk c && refOk o && fits c v && decide (seq < 2 ^ 64)
  | .describe c o => callOk c && refOk o
  | .next c o => callOk c && refOk o
  | .eventAck slot _ => slotOk slot
  | .eventRetry => true
  | .commandAnswer _ _ _ _ => true
  | .store c v => callOk c && fits c v
  | .restoreDefaults c v => callOk c && fits c v
  | .groupClaim c v => callOk c && fits c v
  | .groupRelease c v => callOk c && fits c v
  | .sessionClose c v => callOk c && fits c v
  | .heartbeatTimeout slot => slotOk slot
  | .timeMeasurement _ _ => true
  | .timeHoldover => true
  | .timeSourceWrite c v => callOk c && fits c v
  | .identifySwitchDevice b => bindingOk b
  | .getPhysicalPortState b _ => bindingOk b
  | .resetPpb b _ => bindingOk b
  | .getVirtualCxlSwitchInfo b _ => bindingOk b
  | .bindVppb b _ _ _ => bindingOk b
  | .unbindVppb b _ _ => bindingOk b
  | .tunnelManagementCommand b _ _ => bindingOk b
  | .initiateDynamicCapacityAdd b _ => bindingOk b
  | .initiateDynamicCapacityRelease b _ _ _ => bindingOk b
  | .getEventRecords b _ => bindingOk b
  | .clearEventRecords b _ => bindingOk b
  | .zmpTunnel b m => bindingOk b && msgOk m
  | .pldmBaseCommand b _ _ => bindingOk b
  | .pldmPlatformCommand b _ => bindingOk b
  | .pldmFirmwareUpdate b _ => bindingOk b
  | .mctpControl b _ _ => bindingOk b
  | .railPowerGood _ _ => true
  | .railPowerGoodTimeout _ => true
  | .railPowerGoodLost _ => true
  | .railPmbusRead _ _ => true
  | .avsUpdate _ => true
  | .droop _ => true
  | .droopFatal _ => true
  | .governorWindow _ => true
  | .foreLeadExpiry => true
  | .foreRampEnd => true
  | .syncFrame _ => true
  | .syncHeartbeat => true
  | .syncBroken => true
  | .powerControlUpdate => true
  | .thermalSample _ => true
  | .slotPresence _ => true
  | .slotPresenceLost _ => true
  | .slotSeatEdge _ _ => true
  | .seatDebounceEnd _ => true
  | .slotPowerOn c _ => callOk c
  | .slotPowerOff c _ => callOk c
  | .slotRampStart _ => true
  | .slotPowerGood _ => true
  | .perstDelayExpiry _ => true
  | .slotCurrentLimit _ => true
  | .slotCurrentRecover _ => true
  | .faultTimerExpiry _ => true
  | .slotHardTrip _ => true
  | .slotCooldownEnd _ => true
  | .retryDelayExpiry _ => true
  | .slotResetFault c _ v => callOk c && fits c v
  | .slotInputLow _ => true
  | .bpEnableWrite c _ v => callOk c && fits c v
  | .bpPrechargeDone _ => true
  | .bpPrechargeExpiry _ => true
  | .bpCooldownEnd _ => true
  | .bpOvercurrent _ => true
  | .bpResetFault c _ v => callOk c && fits c v
  | .vauxGood _ => true
  | .vauxLoss => true
  | .svnCommit c v => callOk c && fits c v
  | .keySlotRevoke c v => callOk c && fits c v
  | .getVersion b => bindingOk b
  | .getCapabilities b => bindingOk b
  | .negotiateAlgorithms b _ => bindingOk b
  | .getDigests b => bindingOk b
  | .getCertificate b _ => bindingOk b
  | .challenge b _ _ => bindingOk b
  | .getMeasurements b _ _ => bindingOk b
  | .keyExchange b _ => bindingOk b
  | .pskExchange b _ _ => bindingOk b
  | .endSession slot => slotOk slot
  | .keyUpdate slot => slotOk slot
  | .setCertificate session _ _ => slotOk session
  | .credentialWrite c _ v => callOk c && fits c v
  | .keyProg _ _ => true
  | .kSetGo _ _ _ _ => true
  | .ideRekey _ _ => true
  | .keySetRetirement _ _ => true
  | .ideRequiredWrite c _ v => callOk c && fits c v
  | .drbgReseed => true
  | .entropyHealthWindow _ => true
  | .periodicSelfTest _ => true
  | .selfTest c v => callOk c && fits c v
  | .tamper _ => true
  | .hardErrorReset _ => true
  | .zeroise c v => callOk c && fits c v
  | .lifecycleArm c v => callOk c && fits c v
  | .lifecycleConfirm c v => callOk c && fits c v
  | .lifecycleArmingLapse => true
  | .debugAuthorise c v => callOk c && fits c v
  | .debugPendingLapse => true
  | .debugRevoke c v => callOk c && fits c v
  | .errorReport _ => true
  | .classAck c _ v => callOk c && fits c v
  | .stallDetect _ => true
  | .fencedRequestTimeout _ => true
  | .fenceUnit c v => callOk c && fits c v
  | .fenceRehashDone _ => true
  | .fenceClear c v => callOk c && fits c v
  | .sourceClear c v => callOk c && fits c v
  | .salvageFlushEnd _ => true
  | .busTransfer _ => true
  | .farTransferDone _ _ _ => true
  | .clockTimeout _ => true
  | .busClear _ _ => true
  | .signalPoll _ _ => true
  | .windowDataRead _ _ => true
  | .windowDataWrite _ _ => true
  | .wrErrorClear _ => true
  | .winHoldExpiry _ => true
  | .discardTimerExpiry _ => true
  | .winEnableWrite c _ v => callOk c && fits c v
  | .sensorRead _ _ _ => true
  | .voutModeRead _ _ _ => true
  | .ctrValueWrite c _ _ v => callOk c && fits c v
  | .ctrOverflowClear c _ v => callOk c && fits c v
  | .counterConfigWrite c _ v => callOk c && fits c v
  | .bwWindowEnd _ => true
  | .bwWindowWrite c _ v => callOk c && fits c v
  | .initClear c _ v => callOk c && fits c v
  | .telemetryPeriod => true
  | .traceStart c v => callOk c && fits c v
  | .traceStop c v => callOk c && fits c v
  | .extest => true
  | .samplePreload _ => true
  | .idcode => true
  | .clamp => true
  | .highz => true
  | .extestPulse => true
  | .extestTrain => true
  | .debugAccess _ => true
  | .bypass => true
  | .tapReset => true
  | .tgStart c _ v => callOk c && fits c v
  | .tgStop c _ v => callOk c && fits c v
  | .tgRequestResult _ _ => true
  | .prbsPatternWrite c v => callOk c && fits c v
  | .laneLockLoss _ _ => true
  | .laneLockRegain _ _ => true
  | .refclkFirstArrival _ => true
  | .enumerationDone _ => true
  | .ethLinkChange _ _ => true
  | .inBandInterrupt _ _ => true

end Sys2Proof
end

