-- ==== Sys2Proof/Safety.lean ====
section
/-!
DEFINITION. The terms that statements about the device use: how an event and an accepted write complete, what a write
needs to be accepted, a device that is Off, and a well-formed state.
-/

namespace Sys2Proof.Machine

open Sys2Proof

/-- Every command that waits is well formed. -/
def State.queueWf (s : State) : Prop := ∀ i ∈ s.pending, i.wf = true

/-- The sparse tables that hold the objects, their LAST_SEQ and their stored values are in canonical form, so that equal
contents are equal data. -/
def Dev.tablesWf (d : Dev) : Prop :=
  Tab.wf (objDefault d.part) d.man = true ∧ Tab.wf (fun _ => 0) d.lastSeq = true ∧ Tab.wf (fun _ => 0) d.storedSeq = true

/-- VAUX is absent and the device runs nothing (R370). -/
def Dev.isOff (d : Dev) : Prop := d.powered = false ∧ d.boot = .off

/-- A command other than the arrival and the loss of VAUX. -/
def notVaux : Instr → Bool
  | .vauxGood _ => false
  | .vauxLoss => false
  | _ => true

/-- The command is the arrival of VAUX. -/
def isVauxGood : Instr → Bool
  | .vauxGood _ => true
  | _ => false

/-- The command `i` is carried out in every state whose device runs and meets `c`: the next state is the present one with its
device changed by `f`. The queue, and whatever of the device `f` does not touch, stay as they were. -/
def Runs (i : Instr) (c : Dev → Prop) (f : Dev → Dev) : Prop :=
  ∀ s : State, s.dev.powered = true → c s.dev → exec i s = .next { s with dev := f s.dev }

/-- What the general rules ask of a write (R300): the device runs and hears the caller, and the object, the caller's role and
group, the length, the condition, the range and the journal give no status but SUCCESS. -/
def Dev.admits (d : Dev) (c : Call) (o v : Nat) : Prop :=
  d.powered = true ∧ d.callerOpen c.caller = true ∧ d.generalStatus c o v = Status.success ∧ journalStatus c o = Status.success

/-- The value that LENGTH bytes hold. -/
def valueOf (c : Call) (w : Nat) : Nat := w % 2 ^ (8 * c.len)

/-- The answer of an accepted write. -/
def Dev.successTo (d : Dev) (c : Call) (o : Nat) (r : Reply) : Out :=
  .answer c.caller (answerOf Status.success o d.nextSeq (d.lastSeqOf o) r)

/-- The write that `i` spells completes: in every state that meets the general rules and the command's own conditions `own`,
the next state has the write's commit, then the effect `f` with the write's number, then its answer with the reply `r`, and
then what follows the message. -/
def Writes (i : Instr) (c : Call) (o w : Nat) (own : Dev → Prop) (f : Nat → Dev → Dev) (r : Dev → Reply := fun _ => .none)
    (after : Dev → Dev := fun d => d) : Prop :=
  ∀ s : State, s.dev.admits c o (valueOf c w) → own s.dev →
    exec i s = .next { s with dev := after ((f s.dev.nextSeq (s.dev.commitWrite c o (r s.dev))).send (s.dev.successTo c o (r s.dev))) }

/-- The object takes the value. -/
def stores (o v : Nat) (_ : Nat) (d : Dev) : Dev := d.put o v

/-- No condition beyond the general rules. -/
def anyTime (_ : Dev) : Prop := True

/-- Region `n` of master `m` takes part in the check and contains the address (R267). -/
def CTable.covers (t : CTable) (m n addr : Nat) : Prop :=
  n < 256 ∧ regionValid (t.region m n) = true ∧ regionFirst (t.region m n) ≤ addr / 4096 ∧ addr / 4096 ≤ regionLast (t.region m n)

/-- The fold of a home key (R136). -/
def foldOf (k : Nat) : Nat := bits k 0 16 ^^^ bits k 16 16 ^^^ bits k 32 16 ^^^ bits k 48 16

end Sys2Proof.Machine
end

