-- ==== Sys2Proof/Certificates/Slice0/Obligations.lean ====
section
/-!
DEFINITION. The statements for the provers: the queue, the objects, the rules of the units, and for every command where it
completes and with what next state.
-/

open Sys2Proof Sys2Proof.Machine

/-! The queue and the machine as a whole. -/

/-- O1. A step runs the command at the front of the queue, on the state with the queue's rest. -/
def Obligations.StepRunsFrontCommand : Prop :=
  ∀ (c : Instr) (rest : List Instr) (s : State), s.pending = c :: rest → step s = exec c { s with pending := rest }

/-- O2. The model's own choice for an empty queue (log entry 2): a device that runs lets one nanosecond of its time base pass, and
the queue stays empty; one that does not run stays as it is. -/
def Obligations.EmptyQueueIdles : Prop :=
  (∀ s : State, s.pending = [] → step s = .next { s with dev := s.dev.tick }) ∧
  (∀ s : State, s.pending = [] → s.dev.powered = false → step s = .next s) ∧
  (∀ s : State, s.pending = [] → s.dev.powered = true → s.dev.mgmt.slew = 0 →
    ∃ t : State, step s = .next t ∧ t.pending = [] ∧ t.dev.time = s.dev.time + 1)

/-- O3. Every command is carried out in every state: it ends in a next state, and it leaves the queue to the step. The model's
own choices in it: log entry 5. -/
def Obligations.EveryCommandIsAnswered : Prop :=
  ∀ (c : Instr) (s : State), ∃ t : State, exec c s = .next t ∧ t.pending = s.pending

/-- O4. An Off device stays Off (R370). With VAUX absent, every command but its arrival and its loss leaves the whole state as
it was; and a step of a state that is Off, with no arrival of VAUX waiting, gives a state that is Off with none waiting. The
model's own choices in it: log entry 5. -/
def Obligations.OffDeviceStaysOff : Prop :=
  (∀ (c : Instr) (s : State), s.dev.isOff → notVaux c = true → exec c s = .next s) ∧
  (∀ s t : State, s.dev.isOff → (∀ i ∈ s.pending, isVauxGood i = false) → step s = .next t →
    t.dev.isOff ∧ ∀ i ∈ t.pending, isVauxGood i = false)

/-- O5. After reset the device runs, is in Slipway and in Standby at fabric time 0 with the power request of its own under
way, no session is open, nothing waits, no link is up, and every object table is in canonical form (R371, R372, R311). The
model's own choices in it: log entries 1 and 6. -/
def Obligations.ResetState : Prop :=
  State.reset.pending = [] ∧ State.reset.dev.powered = true ∧ State.reset.dev.mode = 0 ∧ State.reset.dev.power = 2 ∧
  State.reset.dev.time = 0 ∧ State.reset.dev.modes.ownPowerReq = true ∧ State.reset.dev.mgmt.sessions = [] ∧
  State.reset.dev.lines = [] ∧ State.reset.dev.tablesWf ∧ (∀ q : Fin 128, State.reset.dev.isUp q = false)

/-! The objects (R286 to R305). -/

/-- O6. An object reads as it was last put, whatever its value; a put leaves every other object as it was and keeps the
canonical form of the table, so that equal contents are equal data. The model's own choices in it: log entry 94. -/
def Obligations.ObjectsReadBack : Prop :=
  (∀ (d : Dev) (o v : Nat), (d.put o v).get o = v) ∧
  (∀ (d : Dev) (o p v : Nat), p ≠ o → (d.put o v).get p = d.get p) ∧
  (∀ (d : Dev) (o v : Nat), d.tablesWf → (d.put o v).tablesWf) ∧
  (∀ (d : Dev) (o n : Nat), d.tablesWf → (d.mark o n).tablesWf ∧ (d.mark o n).lastSeqOf o = n ∧
    ∀ p : Nat, p ≠ o → (d.mark o n).lastSeqOf p = d.lastSeqOf p)

/-- O7. The serialiser (R300, R302, R304, R305). A write that is judged takes the next commit sequence number, whether it is accepted or
refused; a refused one changes nothing else; an accepted one sets LAST_SEQ of its object to its number, before its effect. A judgement
never gives a status above the one that the object, the access code, the role, the master, the unit, the length, the condition and
the range give. Numbers rise by one, and after a start they resume at the next block of 65,536. -/
def Obligations.SerialiserJudges : Prop :=
  (∀ (a : Act) (c : Call) (o w : Nat) (d : Dev), d.judge a c o (valueOf c w) ≠ Status.success →
    (d.manifestOp a c o w).1 = d.takeSeq ∧ (d.manifestOp a c o w).2.status = d.judge a c o (valueOf c w) ∧
    (d.manifestOp a c o w).2.seq = d.nextSeq) ∧
  (∀ (a : Act) (c : Call) (o w : Nat) (d : Dev), d.judge a c o (valueOf c w) = Status.success →
    (d.manifestOp a c o w).2.status = Status.success ∧ (d.manifestOp a c o w).2.seq = d.nextSeq ∧
    ∃ e : Dev, (d.manifestOp a c o w).1 = a.effect c (valueOf c w) d.nextSeq e ∧ e.nextSeq = d.nextSeq + 1 ∧
      e.lastSeqOf o = d.nextSeq ∧ (∀ p : Nat, p ≠ o → e.lastSeqOf p = d.lastSeqOf p) ∧
      (∀ p : Nat, p ≠ Obj.commitSeq → e.get p = d.get p)) ∧
  (∀ (a : Act) (c : Call) (o v : Nat) (d : Dev), d.generalStatus c o v ≠ Status.success →
    d.judge a c o v ≠ Status.success ∧ d.judge a c o v ≤ d.generalStatus c o v) ∧
  (∀ d : Dev, d.takeSeq.nextSeq = d.nextSeq + 1 ∧ (∀ p : Nat, d.takeSeq.lastSeqOf p = d.lastSeqOf p) ∧
    ∀ p : Nat, p ≠ Obj.commitSeq → d.takeSeq.get p = d.get p) ∧
  (∀ d : Dev, d.nextSeq < d.mgmt.seqBlock → d.takeSeq.nextSeq < d.takeSeq.mgmt.seqBlock ∧
    d.nextBlock.nextSeq = d.mgmt.seqBlock ∧ d.nextSeq < d.nextBlock.nextSeq ∧ d.nextBlock.nextSeq < d.nextBlock.mgmt.seqBlock)

/-- O8. What the loss of VAUX keeps (Table 10.4, R290). A persistent object keeps its value and its LAST_SEQ; a
persistent-on-commit object has its stored value, or its default where none is stored; a volatile object has its default. The
model's own choices in it: log entry 31. -/
def Obligations.PowerLossKeepsPersistent : Prop :=
  ∀ (s : State) (o : Nat), s.dev.tablesWf → Tab.wf (objDefault s.dev.part) s.dev.stored = true →
    (∀ p ∈ s.dev.stored, persOf p.1 = .poc) → (∀ p ∈ s.dev.storedSeq, persOf p.1 = .poc) →
    ∃ d : Dev, exec .vauxLoss s = .next { s with dev := d } ∧
      (persOf o = .per → d.get o = s.dev.get o ∧ d.lastSeqOf o = s.dev.lastSeqOf o) ∧
      (persOf o = .poc → d.get o = Tab.get (objDefault s.dev.part o) s.dev.stored o ∧ d.lastSeqOf o = Tab.get 0 s.dev.storedSeq o) ∧
      (persOf o = .vol → d.get o = objDefault s.dev.part o ∧ d.lastSeqOf o = 0)

/-- O9. FABRIC_ID (R96): from a caller that may write it, a value above 0x7FF is refused with BAD_VALUE, a legal one outside Slipway
with WRONG_MODE, and the object keeps its value; a legal one in Slipway is the object's new value. -/
def Obligations.FabricIdWriteRule : Prop :=
  ∀ (s : State) (c : Call) (v r : Nat), s.dev.powered = true → s.dev.callerOpen c.caller = true → s.dev.callerRole c.caller = some r →
    2 ≤ r → s.dev.mastered c.caller 1 = false → c.len = 2 → c.expect = some (s.dev.lastSeqOf Obj.fabricId) →
    c.env.journalFails = false →
    ∃ (t : State) (a : OpAnswer), exec (.fabricIdWrite c v) s = .next t ∧ t.dev.sent = s.dev.sent ++ [.answer c.caller a] ∧
      (0x7FF < valueOf c v → a.status = Status.badValue ∧ t.dev.get Obj.fabricId = s.dev.get Obj.fabricId) ∧
      (valueOf c v ≤ 0x7FF → s.dev.mode ≠ 0 → a.status = Status.wrongMode ∧ t.dev.get Obj.fabricId = s.dev.get Obj.fabricId) ∧
      (valueOf c v ≤ 0x7FF → s.dev.mode = 0 → a.status = Status.success ∧ t.dev.get Obj.fabricId = valueOf c v)

/-! Rules of the units. -/

/-- O10. The check of Customs (R24, R270, R271). A VALID region that contains the address and no other decides by its PRIV, then
by its grant, and passes its CACHE and ORDER; two give OVERLAP, for a privileged master as well; with none, the default map passes a
privileged master in a service mode, and every other access is NO_MATCH. -/
def Obligations.CustomsCheckDecides : Prop :=
  ∀ (d : Dev) (t : CTable) (m kind addr : Nat), Tab.wf (fun _ => 0) t.regions = true →
    ((∀ n : Nat, ¬ t.covers m n addr) →
      ((d.mode = 1 ∨ d.mode = 2 ∨ d.mode = 3) → t.privileged m = true → t.check d.service m kind addr = .pass 256 0 false) ∧
      ((d.mode = 1 ∨ d.mode = 2 ∨ d.mode = 3) → t.privileged m = false → t.check d.service m kind addr = .fail 2 0xFFFF) ∧
      (¬ (d.mode = 1 ∨ d.mode = 2 ∨ d.mode = 3) → t.check d.service m kind addr = .fail 2 0xFFFF)) ∧
    (∀ n : Nat, t.covers m n addr → (∀ k : Nat, t.covers m k addr → k = n) →
      let r := t.region m n
      (regionPriv r = true → t.privileged m = false → t.check d.service m kind addr = .fail 4 n) ∧
      ((regionPriv r = true → t.privileged m = true) → regionGrants r kind = false → t.check d.service m kind addr = .fail 1 n) ∧
      ((regionPriv r = true → t.privileged m = true) → regionGrants r kind = true →
        t.check d.service m kind addr = .pass n (regionCache r) (regionStrict r))) ∧
    (∀ n k : Nat, t.covers m n addr → t.covers m k addr → n ≠ k → ∃ r : Nat, t.check d.service m kind addr = .fail 3 r)

/-- O11. A lane's warning (R63, R65): of samples in a row whose FOM, at the quay's rate, is below FOM_WARN_LEVEL, from a lane that was at
the level before, the tenth raises one Correctable error and no other does, however many follow; a sample at the level or above raises
none and lets the next ten in a row raise one again. -/
def Obligations.LaneWarningOnce : Prop :=
  (∀ (d : Dev) (q : Fin 128) (i : Fin 16) (ests : List Nat), Tab.get 0 (d.quay q).warnRun i = 0 → bitAt (d.quay q).warned i = false →
    (∀ e ∈ ests, fomOf (d.quay q).rate e < d.get (Obj.fomWarnLevel q)) →
    (ests.foldl (fun d e => d.sampleLane q i e) d).lines =
      d.lines ++ (if 10 ≤ ests.length then
        [{ typ := 1, inst := d.deviceLane q i (d.quay q).rev, unit := q.val, detail := 2 ^ i.val }] else [])) ∧
  (∀ (d : Dev) (q : Fin 128) (i : Fin 16) (est : Nat), d.get (Obj.fomWarnLevel q) ≤ fomOf (d.quay q).rate est →
    (d.sampleLane q i est).lines = d.lines ∧ Tab.get 0 ((d.sampleLane q i est).quay q).warnRun i = 0 ∧
    bitAt ((d.sampleLane q i est).quay q).warned i = false)

/-- O12. Home keys and home slices (R136, R137). The key of a private line has K[63] and K[62:48] 0, the berth in K[47:38] and the line in
K[37:0]; its home is the slice in byte X mod 256 of HOME_MAP. The key of a line of a Basin has K[63] 1, the Basin in K[53:48] and the
line in K[41:0], and 0 between; its home is the base of the Basin's home set plus X mod its size. X is the fold of the key. -/
def Obligations.HomeSlices : Prop :=
  (∀ (d : Dev) (berth line : Nat), berth < 1024 → line < 2 ^ 38 →
    let k := privateKey berth line
    bits k 63 1 = 0 ∧ bits k 48 15 = 0 ∧ bits k 38 10 = berth ∧ bits k 0 38 = line ∧
    d.homeOf k = byteAt (d.get Obj.homeMap) (foldOf k % 256)) ∧
  (∀ (d : Dev) (b line : Nat), b < 64 → line < 2 ^ 42 →
    let k := basinKey b line
    bits k 63 1 = 1 ∧ bits k 54 9 = 0 ∧ bits k 48 6 = b ∧ bits k 42 6 = 0 ∧ bits k 0 42 = line ∧
    d.homeOf k = (d.basin b).setBase + foldOf k % (d.basin b).setSize)

/-- O13. CREDENTIAL is read-restricted (R349). A session below Security Officer that reads an entry receives ROLE; a session
that may read it sees the PSK bytes of a KIND 2 entry as 0; and after an accepted write of an entry outside Drydock no session
is bound to it. (In Drydock the end of a session may start a recovery reset, R364.) The model's own choices in it: log entry
30. -/
def Obligations.CredentialsAreGuarded : Prop :=
  (∀ (d : Dev) (slot r : Nat) (k : Fin 63), d.callerRole (.session slot) = some r → r < 3 →
    (d.readOp (.session slot) (Obj.credential (k + 1))).2.status = Status.role) ∧
  (∀ (d : Dev) (slot r : Nat) (k : Fin 63), d.callerRole (.session slot) = some r → 3 ≤ r →
    (d.readOp (.session slot) (Obj.credential (k + 1))).2.status = Status.success ∧
    (credKind (d.get (Obj.credential (k + 1))) = 2 →
      bytesAt (d.readOp (.session slot) (Obj.credential (k + 1))).2.value 16 48 = 0)) ∧
  (∀ (s : State) (c : Call) (k : Fin 64) (v : Nat), s.dev.mgmt.after = [] → s.dev.mode ≠ 4 →
    s.dev.admits c (Obj.credential (k + 1)) (valueOf c v) →
    credKind (valueOf c v) ≤ 2 → credRole (valueOf c v) ≤ 3 →
    ∃ t : State, exec (.credentialWrite c k v) s = .next t ∧ ∀ x ∈ t.dev.mgmt.sessions, x.cred ≠ k)

/-! Reference clocks and wharves (R17, R18, R58, R59, R472). -/

/-- O14. The events of reference clocks and wharf clocks complete. A tile's wharves start when the core rails are up and the
tile has not been started; the absence check reports a used tile of which no clock came; a loss, a return, a relock and a
stopped wharf clock change the tile, its wharves and their quays. -/
def Obligations.ClockEventsComplete : Prop :=
  (∀ w : Fin 32, Runs (.wharfClockStop w) (fun d => d.wharfRuns w = true) fun d =>
    let d := d.put (Obj.wharfState w) 2
    ((d.forEach (d.quaysOfWharf w) Dev.holdLink).err { typ := 9, inst := w }).setNet fun n => { n with relock := Nat.lor n.relock (2 ^ w.val) }) ∧
  (∀ (t : Fin 8), Runs (.wharfStart t true)
    (fun d => d.coreOn = true ∧ tileAbsent d.part t = false ∧ bitAt d.net.started t = false) fun d =>
    (d.setNet fun n => { n with started := Nat.lor n.started (2 ^ t.val) }).startTile t) ∧
  (∀ (t : Fin 8), Runs (.wharfStart t false)
    (fun d => d.coreOn = true ∧ tileAbsent d.part t = false ∧ bitAt d.net.started t = false) fun d =>
    d.setNet fun n => { n with started := Nat.lor n.started (2 ^ t.val), absentDue := Nat.lor n.absentDue (2 ^ t.val) }) ∧
  (∀ t : Fin 8, Runs (.refclkAbsentCheck t)
    (fun d => bitAt d.net.absentDue t = true ∧ d.get (Obj.refclkStatus t) = 0 ∧ (wharvesOf t).any d.wharfUsed = true) fun d =>
    (d.err { typ := 10, inst := t }).setNet fun n => { n with absentDue := setBit n.absentDue t false }) ∧
  (∀ t : Fin 8, Runs (.refclkFirstArrival t)
    (fun d => d.coreOn = true ∧ bitAt d.net.started t = true ∧ d.get (Obj.refclkStatus t) = 0) (Dev.startTile t)) ∧
  (∀ t : Fin 8, Runs (.refclkLoss t) (fun d => d.get (Obj.refclkStatus t) = 1) fun d =>
    ((((d.put (Obj.refclkStatus t) 2).count (Obj.refclkLossCount t) 1).setNet fun n =>
      { n with relock := stopRelock t n.relock }).forEach (wharvesOf t) fun w d =>
      (d.put (Obj.wharfState w) 2).forEach (d.quaysOfWharf w) Dev.holdLink).err { typ := 10, inst := t }) ∧
  (∀ t : Fin 8, Runs (.refclkReturn t)
    (fun d => d.get (Obj.refclkStatus t) = 2 ∧ bits d.net.relock (4 * t) 4 = 0) fun d =>
    (d.forEach (List.range 16) fun i d => d.count (Obj.tbLossCount (16 * t + i)) 1).setNet fun n =>
      { n with relock := Nat.lor n.relock (15 * 2 ^ (4 * t.val)) }) ∧
  (∀ w : Fin 32, Runs (.pllRelock w) (fun d => bitAt d.net.relock w = true) fun d =>
    let d := d.setNet fun n => { n with relock := setBit n.relock w false }
    let d := (d.putIf (d.get (Obj.refclkStatus (w / 4)) == 2) (Obj.refclkStatus (w / 4)) 1).put (Obj.wharfState w) 1
    (d.count (Obj.pllRelockCount w) 1).forEach (d.quaysOfWharf w) Dev.tryTrain)

/-! Lanes, widths and L1 (R60 to R76). -/

/-- O15. The lane events complete on a quay that is UP: samples are taken lane by lane and lanes with eight samples below the
fail level fail; a lane that lost lock and is not the last is noted; one that regains it is noted; one that stays lost fails;
a held quay that has finished its retrain comes up at what the retrain found; a lost link is held and its failed lanes fail.
The model's own choices in it: log entry 51. -/
def Obligations.LaneEventsComplete : Prop :=
  (∀ (q : Fin 128) (foms : List Nat), Runs (.laneFomSample q foms)
    (fun d => d.isUp q = true ∧ (d.quay q).l1 = false) fun d =>
    let e := (foms.zipIdx.take (d.cfgWidth q)).foldl (fun d p => d.sampleLane q p.2 p.1) d
    e.lanesFail q ((List.range (e.cfgWidth q)).filter fun i => Tab.get 0 (e.quay q).failRun i == 8)) ∧
  (∀ (q : Fin 128) (i : Fin 16), Runs (.laneLockLoss q i)
    (fun d => d.isUp q = true ∧ i.val < (d.quay q).width ∧ Nat.lor (d.quay q).lockLost (2 ^ i.val) ≠ 2 ^ (d.quay q).width - 1) fun d =>
    d.setQuay q fun k => { k with lockLost := Nat.lor (d.quay q).lockLost (2 ^ i.val) }) ∧
  (∀ (q : Fin 128) (i : Fin 16), Runs (.laneLockRegain q i) anyTime fun d =>
    d.setQuay q fun k => { k with lockLost := setBit k.lockLost i false }) ∧
  (∀ (q : Fin 128) (i : Fin 16), Runs (.laneLockLossTimeout q i)
    (fun d => d.isUp q = true ∧ bitAt (d.quay q).lockLost i = true) fun d =>
    (d.setQuay q fun k => { k with lockLost := setBit k.lockLost i false }).lanesFail q [i.val]) ∧
  (∀ (q : Fin 128) (r : TrainResult), Runs (.widthRetrain q r)
    (fun d => (d.quay q).retrain = some .rate ∧ d.qstate q = 4 ∧ d.wharfRuns (q / 4) = true) fun d =>
    let top := linkTop (d.get (Obj.cxlOffer q)) (d.role q) (d.quay q).protocol r
    let e := (d.setQuay q (Quay.newRate top (d.rateCap q))).askPreset q r
    e.finishRetrain q (Retrain.rate.want (e.cfgWidth q) (e.quay q).width) r.failed) ∧
  (∀ (q : Fin 128) (failed : Nat) (down : Bool), Runs (.linkLoss q failed down)
    (fun d => d.qstate q = 3 ∨ d.qstate q = 4) fun d =>
    let e := (d.holdLink q).setQuay q (Quay.lose down)
    e.lanesFail q (e.failedTraining q failed))

/-- O16. L0p and L1 (R62, R73 to R76): a partner's request is accepted when the device has none of its own; a change that is
done is the width in force; a lost request is issued again; L1 is entered where it is allowed and left with the exit burst.
The link layer (R79 to R83): with nothing to send, an idle flit carries the waiting credit returns; a replay is requested and
sent again, selectively or from the flit named; after as many consecutive replays without progress as the mode allows (four in
flit mode; the model's three in non-flit mode, log entry 113) the next timeout takes the link into Recovery, and an earlier
one sends the replay buffer again. The model's own choices in it: log entries 52 and 55. -/
def Obligations.LinkPowerAndReplayComplete : Prop :=
  (∀ (q : Fin 128) (w : Nat), Runs (.partnerWidthRequest q w)
    (fun d => d.isUp q = true ∧ (d.quay q).l0p = true ∧ (d.quay q).wreq = none ∧ roleWidth (d.role q) w = true)
    (Dev.acceptWidth q w)) ∧
  (∀ (q : Fin 128) (w : Nat), Runs (.l0pChangeDone q w)
    (fun d => d.isUp q = true ∧ (d.quay q).l0p = true ∧ [1, 2, 4, 8, 16].contains w = true ∧ w ≤ d.cfgWidth q ∧
      roleWidth (d.role q) w = true) fun d =>
    ((d.setQuay q fun k => { k with width := w }).put (Obj.currentWidth q) w).reviewRequest q w) ∧
  (∀ (q : Fin 128) (r : WidthReq), Runs (.widthReissue q)
    (fun d => (d.quay q).wreq = some r ∧ d.isUp q = true ∧ r.reissue = true) fun d =>
    ((d.setQuay q fun k => { k with wreq := some { r with sent := true, reissue := false } }).wakeLanes q r.width).send
      (.link q (.widthRequest r.width))) ∧
  (∀ q : Fin 128, Runs (.l1Entry q) (fun d => d.isUp q = true ∧ d.l1Allowed q = true) fun d =>
    d.setQuay q fun k => { k with l1 := true }) ∧
  (∀ q : Fin 128, Runs (.l1Exit q) (fun d => (d.quay q).l1 = true) fun d =>
    (d.setQuay q fun k => { k with l1 := false }).exitIdle q (d.quay q).width) ∧
  (∀ (q : Fin 128) (n : Nat), Runs (.flitTransmit q n)
    (fun d => d.linkOn q = true ∧ ((d.transmit q n).quay q).txSeq = (d.quay q).txSeq) fun d =>
    ((d.setQuay q fun k => { k with returns := [] }).event (0xC100 + q) 0x02 1 {}).send
      (.flit q (d.quay q).txSeq (d.quay q).rxSeq [] (d.quay q).returns)) ∧
  (∀ (q : Fin 128) (n : Nat), Runs (.flitTransmit q n)
    (fun d => d.linkOn q = true ∧ ((d.transmit q n).quay q).txSeq ≠ (d.quay q).txSeq) (Dev.transmit q n)) ∧
  (∀ (q : Fin 128) (seq : Nat), Runs (.partnerReplayRequest q true seq) (fun d => d.replayOn q = true) fun d =>
    (d.event (0xC100 + q) 0x04 1 {}).resend q ((d.quay q).replay.filter fun f => f.seq == seq)) ∧
  (∀ (q : Fin 128) (seq : Nat), Runs (.partnerReplayRequest q false seq) (fun d => d.replayOn q = true) fun d =>
    (d.event (0xC100 + q) 0x04 1 {}).resend q ((d.quay q).replay.dropWhile fun f => f.seq != seq)) ∧
  (∀ q : Fin 128, Runs (.replayTimeout q)
    (fun d => d.replayOn q = true ∧ (d.quay q).replay ≠ [] ∧ maxReplays (d.quay q).protocol ≤ (d.quay q).replays) fun d =>
    ((d.holdLink q).setQuay q fun k => { k with replays := 0 }).send (.link q .recovery)) ∧
  (∀ q : Fin 128, Runs (.replayTimeout q)
    (fun d => d.replayOn q = true ∧ (d.quay q).replay ≠ [] ∧ (d.quay q).replays < maxReplays (d.quay q).protocol) fun d =>
    (d.resend q (d.quay q).replay).setQuay q fun k => { k with replays := k.replays + 1 })

/-! Quays and routing: the writes (R5, R47, R50 to R57, R70 to R75, R88, R89, R98). -/

/-- O17. The writes that shape a quay complete: BIFURCATION, NARROW and ROLE are accepted in Slipway, where their wharf is cut
anew; NARROW is for a quay of one position that is not a Fabric quay; ROLE Fabric is for a quay that is not narrow, and ROLE
Host for one of at most 64. CXL_OFFER holds an offer of the role, MIN_WIDTH a width of the cut, checked again when raised;
RESTORE_WIDTH clears the failed lanes and retrains a quay that is UP or HELD. The model's own choices in it: log entry 53. -/
def Obligations.QuayWritesComplete : Prop :=
  (∀ (c : Call) (w : Fin 32) (v : Nat), Writes (.bifurcationWrite c w v) c (Obj.bifurcation w) v (fun d => d.mode = 0) fun _ d =>
    d.recut w fun d => (d.put (Obj.bifurcation w) (valueOf c v)).unnarrow w) ∧
  (∀ (c : Call) (q : Fin 128) (v : Nat), Writes (.narrowWrite c q v) c (Obj.narrow q) v
    (fun d => d.mode = 0 ∧ (valueOf c v = 0 ∨ (d.positions q ≤ 1 ∧ d.role q ≠ 3))) fun _ d =>
    d.recut (q / 4) fun d => d.put (Obj.narrow q) (valueOf c v)) ∧
  (∀ (c : Call) (q : Fin 128) (v : Nat), Writes (.roleWrite c q v) c (Obj.role q) v
    (fun d => d.mode = 0 ∧ (valueOf c v = 3 → d.get (Obj.narrow q) = 0) ∧
      (valueOf c v = 1 → d.role q = 1 ∨ d.hostRoles < 64)) fun _ d =>
    d.recut (q / 4) fun d =>
      d.putAll [(Obj.role q, valueOf c v), (Obj.cxlOffer q, if valueOf c v = 3 then 0x3D else 0x1F)]) ∧
  (∀ (c : Call) (q : Fin 128) (v : Nat), Writes (.cxlOfferWrite c q v) c (Obj.cxlOffer q) v
    (fun d => offerOk (d.role q) (valueOf c v) = true) fun _ d => d.put (Obj.cxlOffer q) (d.storedOf (Obj.cxlOffer q) (valueOf c v))) ∧
  (∀ (c : Call) (q : Fin 128) (v : Nat), Writes (.minWidthWrite c q v) c (Obj.minWidth q) v
    (fun d => valueOf c v ≤ d.get (Obj.configWidth q)) fun _ d =>
    let e := d.put (Obj.minWidth q) (valueOf c v)
    if d.get (Obj.minWidth q) < valueOf c v ∧ e.isUp q = true then e.checkMinWidth q (e.get (Obj.currentWidth q)) else e) ∧
  (∀ (c : Call) (q : Fin 128) (v : Nat), Writes (.restoreWidth c q v) c (Obj.restoreWidth q) v anyTime fun _ d =>
    if d.qstate q = 3 ∨ d.qstate q = 4 then (d.put (Obj.failedLanes q) 0).startRetrain q .all else d.put (Obj.failedLanes q) 0)

/-- O18. The commands on a quay's link complete: WIDTH_REQUEST, on a quay that is UP with L0p in effect and enabled, with none of
its own outstanding and for a width that works, is done at once for the width in force, and is else sent and reads PENDING, after
the idle lanes are woken when it widens; QUAY_DOWN takes a quay that exists DOWN; QUAY_RELEASE lets a DOWN one train; ROUTE_BLOCK is
stored; FABRIC_ID is written in Slipway. -/
def Obligations.QuayCommandsComplete : Prop :=
  (∀ (c : Call) (q : Fin 128) (v : Nat) (p : Nat × Bool), Writes (.widthRequest c q v) c (Obj.widthRequest q) v
    (fun d => d.widest q = some p ∧ valueOf c v ≤ p.1 ∧ (d.quay q).wreq = none ∧ d.isUp q = true ∧ (d.quay q).l0p = true ∧
      d.get (Obj.l0pEnable q) ≠ 0 ∧ roleWidth (d.role q) (valueOf c v) = true) fun _ d =>
    if valueOf c v = d.get (Obj.currentWidth q) then d.put (Obj.widthRequestStatus q) 3
    else
      let d := (d.setQuay q fun k => { k with wreq := some { width := valueOf c v, sent := true, reissue := false } }).put
        (Obj.widthRequestStatus q) 1
      (d.wakeLanes q (valueOf c v)).send (.link q (.widthRequest (valueOf c v)))) ∧
  (∀ (c : Call) (v : Nat), Writes (.quayDown c v) c Obj.quayDown v
    (fun d => valueOf c v < 128 ∧ d.qstate (valueOf c v) ≠ 0 ∧ d.qstate (valueOf c v) ≠ 5) fun n d =>
    d.marking (downObjs (valueOf c v)) n (Dev.declareDown (valueOf c v) .command)) ∧
  (∀ (c : Call) (v : Nat), Writes (.quayRelease c v) c Obj.quayRelease v
    (fun d => valueOf c v < 128 ∧ d.qstate (valueOf c v) = 1) fun _ d =>
    (d.setQuay (valueOf c v) fun k => { k with
      downBy := if d.role (valueOf c v) = 2 ∧ d.slotAbsent (valueOf c v) then .presence else .none }).tryTrain (valueOf c v)) ∧
  (∀ (c : Call) (k : Fin 64) (v : Nat), Writes (.routeBlockWrite c k v) c (Obj.routeBlock k) v anyTime fun _ d =>
    d.put (Obj.routeBlock k) (d.storedOf (Obj.routeBlock k) (valueOf c v))) ∧
  (∀ (c : Call) (v : Nat), Writes (.fabricIdWrite c v) c Obj.fabricId v (fun d => d.mode = 0) (stores Obj.fabricId (valueOf c v)))

/-! Links that come and go (R79, R87 to R100, R183, R374). -/

/-- O19. The events that bring a quay's link up and down complete: a flit that fails its integrity check makes its stream
INSECURE and is dropped; one that trained comes up with the protocol that both ends settle on, when it is offered and a Fabric
partner does PBR, at the widest width that works; DL_Up after a DL_Down advertises the credits anew and resends the replay
buffer, and a Fabric quay first sends its identity; the partner's identity, or none, is judged; a Host quay goes DOWN with its
PERST or a hot reset and may train again when PERST is deasserted; the memory devices behind an enumerated quay are
enumerated. The model's own choices in it: log entries 51 and 56. -/
def Obligations.LinkEventsComplete : Prop :=
  (∀ (q : Fin 128) (f : RxFlit), Runs (.flitReceived q f)
    (fun d => d.linkOn q = true ∧ (d.stream q f.stream).failed = false ∧
      (f.crcOk && !f.ideOk && (d.stream q f.stream).st == 2) = false)
    (Dev.receiveFlit q f)) ∧
  (∀ (q : Fin 128) (f : RxFlit), Runs (.flitReceived q f)
    (fun d => d.linkOn q = true ∧ (d.stream q f.stream).failed = false ∧ f.crcOk = true ∧ f.ideOk = false ∧ (d.stream q f.stream).st = 2)
    fun d => ((d.setIde q f.stream IdeStream.fail).count (Obj.ideIntegrityFails q) 1).err { typ := 11, inst := q, unit := q }) ∧
  (∀ (q : Fin 128) (r : TrainResult) (w p : Nat) (rev : Bool), Runs (.linkUp q r)
    (fun d => d.linksUp q = true ∧ p = settledProtocol (d.get (Obj.cxlOffer q)) (d.role q) (d.rateCap q) r ∧
      protocolOffered (d.get (Obj.cxlOffer q)) (d.role q) p = true ∧ (d.role q = 3 → r.pbr = true) ∧ d.qstate q = 2 ∧
      ((d.setQuay q fun k => { k with partnerMax := r.partnerMax }).trainedLanes q r.failed false).settled q
        (((d.setQuay q fun k => { k with partnerMax := r.partnerMax }).trainedLanes q r.failed false).cfgWidth q) = some (w, rev)) fun d =>
    let e := (d.setQuay q fun k => { k with partnerMax := r.partnerMax }).trainedLanes q r.failed false
    let offer := e.get (Obj.cxlOffer q)
    let e := (e.takeWidth q w rev).setQuay q (Quay.trained r p (linkTop offer (e.role q) p r) (e.rateCap q) (e.get (Obj.eiExitBurst q))
      (e.get (Obj.clocking q) == 1) (r.bi && bitAt offer 4 && decide (4 ≤ p)))
    (e.askPreset q r).firstUp q) ∧
  (∀ q : Fin 128, Runs (.dlUp q) (fun d => (d.quay q).dlDown = true ∧ (d.quay q).l0 = true) fun d =>
    let d := ((d.spent q).setQuay q fun k => { k with dlDown := false, credits := [], returns := [] }).advertise q
    if d.role q = 3 then (d.setQuay q fun k => { k with awaitId := true }).send (.link q (.identity (d.get Obj.fabricId)))
    else d.resendHeld q) ∧
  (∀ (q : Fin 128) (id : Nat), Runs (.fabricIdentityMessage q id) anyTime (Dev.judgePartner q (.w512 id))) ∧
  (∀ q : Fin 128, Runs (.fabricIdentityTimeout q) anyTime (Dev.judgePartner q .other)) ∧
  (∀ q : Fin 128, Runs (.hostPerstAssert q)
    (fun d => (d.setQuay q fun k => { k with perst := true }).role q = 1 ∧
      (d.setQuay q fun k => { k with perst := true }).qstate q ≠ 0) fun d =>
    (d.setQuay q fun k => { k with perst := true }).downByDevice q .presence) ∧
  (∀ q : Fin 128, Runs (.hostPerstDeassert q) anyTime fun d =>
    (d.setQuay q fun k => { k with perst := false, downBy := if k.downBy = .presence then .none else k.downBy }).tryTrain q) ∧
  (∀ q : Fin 128, Runs (.hotResetReceived q) (fun d => d.role q = 1 ∧ d.qstate q ≠ 0) (Dev.downByDevice q .presence)) ∧
  (∀ q : Fin 128, Runs (.enumerationDone q) (fun d => d.role q = 2 ∧ d.alive q = true) fun d => (d.enumerate q true).probe q)

/-- O20. The requests that the device originates, and PBR flits in transit, complete (R90 to R108): a response closes its request
and crosses the core, in the response class of its level, toward what waits for it; one that is not answered in time expires and fails with a timeout; a PBR flit for another device
goes on by the routes. -/
def Obligations.OriginatedRequestsComplete : Prop :=
  (∀ (q : Fin 128) (slot gen : Nat) (o : Orig), Runs (.originatedRequestExpiry q slot gen) (fun d => d.origAt q slot gen = some o)
    fun d => (((d.noteTimeout o).expireOrig o).failOrig o.ini 1).issueWaiting q) ∧
  (∀ (q : Fin 128) (slot gen data : Nat) (o : Orig) (p : Nat × Nat × Option Nat), Runs (.originatedResponse q slot gen (.data data))
    (fun d => d.origAt q slot gen = some o ∧
      ((d.payloadIn q 64 {}).dropOrig o).wayTo q (4 + o.level) (rspMsg q slot (.data data)).chan o.ini = some p) fun d =>
    (((d.payloadIn q 64 {}).dropOrig o).enqueue p.1 p.2.1 (4 + o.level) p.2.2
      { msg := rspMsg q slot (.data data), rsp := some (o, .data data) }).issueWaiting q) ∧
  (∀ (q : Fin 128) (slot gen : Nat) (r : MemRsp), Runs (.originatedResponse q slot gen r)
    (fun d => d.origAt q slot gen = none) fun d => (d.freeResponse q slot r).lateOrUnexpected q slot gen) ∧
  (∀ (q : Fin 128) (id : Nat) (m : Msg), Runs (.pbrFlitRoute q id m)
    (fun d => d.isUp q = true ∧ d.power ≠ 1 ∧ d.role q = 3 ∧ id ≠ d.get Obj.fabricId ∧ m.len ≤ 4096 ∧
      (isResponse m.chan = true ∨ (d.ideStops q = false ∧ (d.metered && meteredMsg m) = false))) fun d =>
    (d.notePassed id (d.transitLevel q id m) m).routePbr (arriving q q (d.transitLevel q id m) d.time
      { msg := { m with dest := id }, pbr := true }) { msg := { m with dest := id }, pbr := true })

/-! The switch core (R16, R107 to R129). -/

/-- O21. The switch core's events complete: an output's evaluation moves what it grants, the responses it grants end their
requests, and a slice output delivers what it grants; a flit that holds reserved cells is charged to the shared pool when that
is allowed; a priority value reaches its arbiter's queue; the queues are sampled. The model's own choices in it: log entries
59 and 60. -/
def Obligations.SwitchEventsComplete : Prop :=
  (∀ o : Fin 196, Runs (.handshakeEvaluation o) (fun _ => sliceOfPort o = none) fun d =>
    ((d.evaluate o).2.filterMap (·.rsp)).foldl (fun d p => d.endResponse p.1 p.2) (d.evaluate o).1) ∧
  (∀ (o : Fin 196) (s : Nat), Runs (.handshakeEvaluation o) (fun _ => sliceOfPort o = some s) fun d =>
    ((d.evaluate o).2.filterMap (·.acc)).foldl (fun d a => d.deliver s a)
      ((((d.evaluate o).2.filterMap (·.rsp)).foldl (fun d p => d.endResponse p.1 p.2) (d.evaluate o).1).retryStrict s)) ∧
  (∀ (inp out : Fin 196) (cls : Fin 8) (f : CoreFlit), Runs (.cellRecharge inp out cls)
    (fun d => d.net.voq.find? (fun f => f.inp == inp.val && f.out == out.val && f.cls == cls.val && decide (1 ≤ f.reserved)) = some f ∧
      d.mayRecharge inp out cls = true) fun d =>
    ((d.setNet fun n => { n with
      voq := rechargeFirst (fun f => f.inp == inp.val && f.out == out.val && f.cls == cls.val && decide (1 ≤ f.reserved)) n.voq }).creditUnit f
      (f.units - f.left + f.shared)).landWaiting inp) ∧
  (∀ (o : Fin 196) (w : PrioWrite) (rest : List PrioWrite), Runs (.priorityReachesArbiter o) (fun d => (d.arb o).coming = w :: rest)
    fun d => d.setArb o fun a => { a with coming := rest, waiting := a.waiting ++ [w] }) ∧
  Runs .queueSample anyTime (fun d => d.forEach (List.range 1024) fun i d => d.samplePair (i / 8) (i % 8)) ∧
  Runs .shaperRefill anyTime (fun d => d.forEach (List.range 1024) fun i d => d.refillBucket (i / 8) (i % 8))

/-- O22. Priorities, gates and shapers complete: CLASS_PRIORITY goes to its own arbiter and INPUT_WEIGHT to every arbiter;
GATE_COMMIT is accepted for a sound list with none pending; a pending list starts at its time and shows itself; the running
list shows its entry; GATE_ENABLE and the shaper's objects are written. The model's own choices in it: log entry 15. -/
def Obligations.PrioritiesAndGatesComplete : Prop :=
  (∀ (c : Call) (p : Fin 196) (v : Nat), Writes (.priorityWrite c p true v) c (Obj.inputWeight p) v anyTime fun _ d =>
    (d.put (Obj.inputWeight p) (valueOf c v)).sendPrio (List.range 196) (.weight p (valueOf c v))) ∧
  (∀ (c : Call) (p : Fin 196) (v : Nat), Writes (.priorityWrite c p false v) c (Obj.classPriority p) v anyTime fun _ d =>
    (d.put (Obj.classPriority p) (d.storedOf (Obj.classPriority p) (valueOf c v))).sendPrio [p.val]
      (.priority (d.storedOf (Obj.classPriority p) (valueOf c v)))) ∧
  (∀ (c : Call) (q : Fin 128) (v : Nat), Writes (.gateCommit c q v) c (Obj.gateCommit q) v
    (fun d => (d.shadow q).ok = true ∧ d.get (Obj.gateStatus q) ≠ 2) fun _ d => d.gatePend q) ∧
  (∀ (q : Fin 128) (g : GateList) (t : Nat), Runs (.gateListStart q) (fun d => (d.gate q).pending = some (g, t) ∧ t ≤ d.time) fun d =>
    ((d.setGate q fun _ => { running := some g, pending := none }).put (Obj.gateStatus q) 1).showList q g) ∧
  (∀ (q : Fin 128) (g : GateList), Runs (.gateEntryChange q) (fun d => (d.gate q).running = some g) fun d =>
    d.put (Obj.gateCurrentEntry q) (entryAt g.entries 0 (g.pos d.time)).1) ∧
  (∀ (c : Call) (q : Fin 128) (v : Nat), Writes (.gateEnableWrite c q v) c (Obj.gateEnable q) v anyTime
    (stores (Obj.gateEnable q) (valueOf c v))) ∧
  (∀ (c : Call) (q : Fin 128) (cls : Fin 8) (w : ShaperObj) (v : Nat), Writes (.shaperWrite c q cls w v) c (shaperObj q cls w) v
    (fun _ => w = .rate → valueOf c v = 0 → cls.val < 4) (stores (shaperObj q cls w) (valueOf c v)))

/-! Customs (R261 to R283). -/

/-- O23. Messages at a quay's ingress complete: a request in Lull ends Lull and is admitted as any other; an answer is
admitted unchecked; a message that crosses 4 KiB is dropped, counted and reported as Type 6; a message of no access kind is
admitted unchecked; a request of an impounded master is held; any other is checked against the table in force at the switch
input it goes through. The model's own choices in it: log entries 61, 75 and 90. -/
def Obligations.AdmissionComplete : Prop :=
  (∀ (q : Fin 128) (m : Msg), Runs (.messageAdmission q m) (fun d => d.power = 1 ∧ d.isUp q = true ∧ d.receives q m.chan = true ∧ isResponse m.chan = false)
    fun d => d.endLull.admitMessage q m) ∧
  (∀ (q : Fin 128) (m : Msg), Runs (.messageAdmission q m) (fun d => d.isUp q = true ∧ d.receives q m.chan = true ∧ isResponse m.chan = true ∧ crosses4K m = false) fun d =>
    (d.payloadIn q m.len (d.msgWho q (d.levelOf q m) m)).admitUnchecked q (d.levelOf q m) m) ∧
  (∀ (q : Fin 128) (m : Msg), Runs (.messageAdmission q m)
    (fun d => d.isUp q = true ∧ d.receives q m.chan = true ∧ isResponse m.chan = false ∧ d.power ≠ 1 ∧ d.quayWindow q = false ∧
      (d.ideStops q && !toDevice q m) = false ∧ (d.metered && meteredMsg m) = false ∧ crosses4K m = true) fun d =>
    ((((d.payloadIn q m.len (d.msgWho q (d.levelOf q m) m)).freeMsg q m).count Obj.malformedDrops 1).send (.aer q 1)).err
      { typ := 6, inst := q, unit := q }) ∧
  (∀ (q : Fin 128) (m : Msg), Runs (.messageAdmission q m)
    (fun d => d.isUp q = true ∧ d.receives q m.chan = true ∧ isResponse m.chan = true ∧ crosses4K m = true) fun d =>
    ((((d.payloadIn q m.len (d.msgWho q (d.levelOf q m) m)).freeMsg q m).count Obj.malformedDrops 1).send (.aer q 1)).err
      { typ := 6, inst := q, unit := q }) ∧
  (∀ (q : Fin 128) (m : Msg), Runs (.messageAdmission q m)
    (fun d => d.isUp q = true ∧ d.receives q m.chan = true ∧ isResponse m.chan = false ∧ d.power ≠ 1 ∧ d.quayWindow q = false ∧
      (d.ideStops q && !toDevice q m) = false ∧ (d.metered && meteredMsg m) = false ∧ crosses4K m = false ∧ kindOfMsg m = 0) fun d =>
    (d.payloadIn q m.len (d.msgWho q (d.levelOf q m) m)).admitUnchecked q (d.levelOf q m) m) ∧
  (∀ (q : Fin 128) (m : Msg) (ms : Nat), Runs (.messageAdmission q m)
    (fun d => d.isUp q = true ∧ d.receives q m.chan = true ∧ isResponse m.chan = false ∧ d.power ≠ 1 ∧ d.quayWindow q = false ∧
      (d.ideStops q && !toDevice q m) = false ∧ (d.metered && meteredMsg m) = false ∧ crosses4K m = false ∧ kindOfMsg m ≠ 0 ∧
      d.heldBy q (d.inputOf q (d.levelOf q m) m) m = some ms) fun d =>
    (d.payloadIn q m.len (d.msgWho q (d.levelOf q m) m)).setCustoms fun c => { c with
      held := c.held ++ [{ master := ms, input := d.inputOf q (d.levelOf q m) m, quay := q, msg := m, level := d.levelOf q m }] }) ∧
  (∀ (q : Fin 128) (m : Msg), Runs (.messageAdmission q m)
    (fun d => d.isUp q = true ∧ d.receives q m.chan = true ∧ isResponse m.chan = false ∧ d.power ≠ 1 ∧ d.quayWindow q = false ∧
      (d.ideStops q && !toDevice q m) = false ∧ (d.metered && meteredMsg m) = false ∧ crosses4K m = false ∧ kindOfMsg m ≠ 0 ∧
      d.heldBy q (d.inputOf q (d.levelOf q m) m) m = none) fun d =>
    (d.payloadIn q m.len (d.msgWho q (d.levelOf q m) m)).checkMsg
      (d.checker (d.inputOf q (d.levelOf q m) m) (b2n (d.role q == 3))) q (d.levelOf q m) m)

/-- O24. The commands of Customs complete: REGION_SET writes one region of one master, REGION_CLEAR_MASTER clears a master's
regions, and PRIVILEGE_SET a master's privilege, each as a new epoch of the tables; the barrier takes the epoch in force, is
done when every checker and access is past it, and expires with what is outstanding; a table reaches its checker; an impound
reaches every checker; RELEASE frees a master's held requests, checked again or discarded. The model's own choices in it: log
entry 74. -/
def Obligations.CustomsCommandsComplete : Prop :=
  (∀ (c : Call) (v : Nat), Writes (.regionSet c v) c Obj.regionSet v (fun d =>
      writableMaster (bits (valueOf c v) 0 16) = true ∧ absentMaster d.part (bits (valueOf c v) 0 16) = false ∧
      regionCache (bits (valueOf c v) 64 128) ≠ 3 ∧ bits (valueOf c v) 24 40 = 0 ∧ bits (bits (valueOf c v) 64 128) 8 4 = 0 ∧
      bits (bits (valueOf c v) 64 128) 64 12 = 0 ∧
      (regionValid (bits (valueOf c v) 64 128) = true → regionFirst (bits (valueOf c v) 64 128) ≤ regionLast (bits (valueOf c v) 64 128) ∧
        (regionValid (d.newestTable.region (bits (valueOf c v) 0 16) (bits (valueOf c v) 16 8)) = true ∨ d.newestTable.used < 32768)))
    fun _ d =>
    d.newTable { d.newestTable with
      regions := Tab.set 0 d.newestTable.regions (256 * bits (valueOf c v) 0 16 + bits (valueOf c v) 16 8)
        (if regionValid (bits (valueOf c v) 64 128) then bits (valueOf c v) 64 128 else 0) }) ∧
  (∀ (c : Call) (v : Nat), Writes (.regionClearMaster c v) c Obj.regionClearMaster v
    (fun d => writableMaster (valueOf c v) = true ∧ absentMaster d.part (valueOf c v) = false) fun _ d =>
    d.newTable { d.newestTable with regions := d.newestTable.regions.filter fun p => p.1 / 256 != valueOf c v }) ∧
  (∀ (c : Call) (v : Nat), Writes (.privilegeSet c v) c Obj.privilegeSet v
    (fun d => writableMaster (bits (valueOf c v) 0 16) = true ∧ absentMaster d.part (bits (valueOf c v) 0 16) = false ∧
      bits (valueOf c v) 16 8 ≤ 1) fun _ d =>
    d.newTable { d.newestTable with
      flips := Tab.set 0 d.newestTable.flips (bits (valueOf c v) 0 16) (b2n ((bits (valueOf c v) 16 8 == 1) != defaultPrivilege (bits (valueOf c v) 0 16))) }) ∧
  (∀ (c : Call) (v : Nat), Writes (.customsBarrier c v) c Obj.customsBarrier v (fun d => d.get Obj.customsBarrierStatus ≠ 1) fun _ d =>
    d.putAll [(Obj.customsBarrierEpoch, d.get Obj.customsEpoch), (Obj.customsBarrierStatus, 1)]) ∧
  Runs .customsBarrierDone (fun d => d.get Obj.customsBarrierStatus = 1 ∧ d.checkerBehind (d.get Obj.customsBarrierEpoch) = false ∧
      d.openChecks (d.get Obj.customsBarrierEpoch) = 0) (fun d =>
    (d.put Obj.customsBarrierStatus 2).stateChange (sourceId 14 0) Obj.customsBarrierStatus) ∧
  Runs .customsBarrierExpiry (fun d => d.get Obj.customsBarrierStatus = 1) (fun d =>
    (d.putAll [(Obj.customsBarrierStatus, 3), (Obj.barrierOutstanding, d.openChecks (d.get Obj.customsBarrierEpoch))]).stateChange
      (sourceId 14 0) Obj.customsBarrierStatus) ∧
  (∀ k : Fin 196, Runs (.epochReachesChecker k) anyTime fun d =>
    (d.setCustoms fun c => { c with lag := Tab.set 0 c.lag k (Tab.get 0 c.lag k - 1) }).trimTables) ∧
  (∀ m : Nat, Runs (.impoundPropagation m) anyTime fun d => d.setCustoms fun c => { c with
    impounds := c.impounds.map fun x => if x.master = m then { x with everywhere := true } else x }) ∧
  (∀ (c : Call) (v : Nat), Writes (.releaseRecheck c v) c Obj.release v
    (fun d => bits (valueOf c v) 16 8 ≤ 1 ∧ d.impounded (bits (valueOf c v) 0 16) = true) fun _ d =>
    d.afterRelease (bits (valueOf c v) 0 16) (bits (valueOf c v) 16 8 == 1)) ∧
  (∀ (c : Call) (v : Nat), Writes (.releaseDiscard c v) c Obj.release v
    (fun d => bits (valueOf c v) 16 8 ≤ 1 ∧ d.impounded (bits (valueOf c v) 0 16) = true) fun _ d =>
    d.afterRelease (bits (valueOf c v) 0 16) (bits (valueOf c v) 16 8 == 1))

/-! Modes and power states (R25 to R45, R317, R318, R369 to R378). -/

/-- O25. The mode commands complete: SERVICE_GO from Slipway, out of Standby, with the Ledger configured and outside Scrapped;
MODE_CHANGE between service modes; ENTER_DRYDOCK from Slipway by the session that holds D2 or D3; each with no transition
under way. RECOVERY_RESET in Salvage and LEAVE_DRYDOCK in Drydock reset the device once the message is answered; ENTER_SALVAGE
enters Salvage; a profile's object is written, and a live change follows when its mode is in force. The model's own choices in
it: log entries 40 and 42. -/
def Obligations.ModeCommandsComplete : Prop :=
  (∀ (c : Call) (v : Nat), Writes (.serviceGo c v) c Obj.serviceGo v
    (fun d => d.mode = 0 ∧ d.power ≠ 2 ∧ d.get Obj.ledgerState ≠ 0 ∧ d.get Obj.lifecycle ≠ 3 ∧ d.inTransition = false) fun n d =>
    d.marking modeObjs n fun d => (d.setModes fun m => { m with autoLive := false }).beginTransition (valueOf c v) false d.powerLimit) ∧
  (∀ (c : Call) (v : Nat), Writes (.modeChange c v) c Obj.modeChange v
    (fun d => d.service = true ∧ valueOf c v ≠ d.mode ∧ d.inTransition = false) fun n d =>
    d.marking modeObjs n (Dev.beginTransition (valueOf c v) false d.powerLimit)) ∧
  (∀ (c : Call) (v : Nat), Writes (.enterSalvage c v) c Obj.enterSalvage v anyTime fun n d =>
    d.marking salvageObjs n (Dev.enterSalvage 0 none)) ∧
  (∀ (c : Call) (v : Nat), Writes (.recoveryReset c v) c Obj.recoveryReset v (fun d => d.mode = 5)
    (fun n d => d.marking modeObjs n fun d => (d.put Obj.targetMode 0).later (.reset c.env)) (after := Dev.endMessage)) ∧
  (∀ (c : Call) (v : Nat), Writes (.enterDrydock c v) c Obj.enterDrydock v
    (fun d => d.mode = 0 ∧ d.dockHolder.map (·.1) = some (callerSlot c.caller) ∧ d.inTransition = false) fun n d =>
    d.marking modeObjs n fun d => (d.setModes fun m => { m with autoLive := false }).beginTransition 4 true d.powerLimit) ∧
  (∀ (c : Call) (v : Nat), Writes (.leaveDrydock c v) c Obj.leaveDrydock v (fun d => d.mode = 4)
    (fun n d => d.marking modeObjs n fun d => (d.put Obj.targetMode 0).later (.reset c.env)) (after := Dev.endMessage)) ∧
  (∀ (c : Call) (m : Fin 3) (sub : Fin 10) (v : Nat),
    Writes (.profileWrite c m sub v) c (0xD11000 + 4096 * m.val + sub) v
    (fun d => d.mode = m + 1 → d.inTransition = false) fun n d =>
    let e := d.put (0xD11000 + 4096 * m.val + sub) (d.storedOf (0xD11000 + 4096 * m.val + sub) (valueOf c v))
    if d.mode = m + 1 then e.marking modeObjs n (Dev.beginTransition (m + 1) false d.powerLimit) else e)

/-- O26. The events of a transition and of Lull complete: the autostart delay ends; a wharf has retrained; a slice has parked
or returned with nothing left to write back; the device enters Lull from Slipway or a service mode when it is idle and nothing
else is under way, leaves it, and gives up entering it; the control update takes the power limit and settles what waits for
it. The model's own choices in it: log entries 42, 44 and 45. -/
def Obligations.TransitionEventsComplete : Prop :=
  Runs .autostart (fun d => d.modes.autoRuns = true) (fun d => (d.setModes fun m => { m with autoElapsed := some (d.get Obj.autostartDelay) }).tryAutostart) ∧
  (∀ (w : Fin 32) (t : Transition), Runs (.wharfRetrainDone w) (fun d => d.modes.trans = some t ∧ t.nowWharves.contains w.val = true ∧
      d.wharfRuns w = true) fun d =>
    let d := d.forEach (d.quaysOfWharf w) Dev.endRate
    ((d.setTrans (some { t with nowWharves := t.nowWharves.filter (· != w.val) })).nextWharves).settle) ∧
  (∀ s : Fin 16, Runs (.sliceParkDone s) (fun d => d.get (Obj.sliceState s) = 1 ∧ d.busyFor (d.atHome s) = false ∧
      (d.slice s).working = false) fun d =>
    let d := d.parkSlice s
    let d := d.setModes fun m => { m with lullParked := if m.lullEntry then m.lullParked ++ [s.val] else m.lullParked }
    ((if d.modes.unpark = [] then d else d.unparkNow []).parkNext).settle) ∧
  (∀ s : Fin 16, Runs (.sliceUnparkDone s)
    (fun d => d.modes.unpark.head? = some s.val ∧ d.get (Obj.sliceState s) = 3 ∧ d.busyFor (d.comingHome s) = false) fun d =>
    let d := (d.returnSlice s).setModes fun m => { m with
      unpark := m.unpark.drop 1, lullParked := m.lullParked.filter (· != s.val) }
    ((d.basinsReady).unparkNow []).unparked) ∧
  Runs .lullEntry (fun d => d.get Obj.lullEnable = 1 ∧ d.power = 0 ∧ (d.mode = 0 ∨ d.service = true) ∧ d.inTransition = false ∧
      d.modes.unpark = [] ∧ d.modes.parkTo = none ∧ d.idle = true) (fun d =>
    ((d.put Obj.powerState 1).setModes fun m => { m with
      lullEntry := true, lullParked := [], parkTo := some (d.get Obj.lullActiveSlices) }).parkNext) ∧
  Runs .lullExit (fun d => d.power = 1 ∧ d.modes.lullEntry = false ∧ d.modes.lullExit = false) Dev.leaveLull ∧
  Runs .lullEntryAbort (fun d => d.power = 1 ∧ d.modes.lullEntry = true) (fun d =>
    ((d.settleUnparks).setModes fun m => { m with lullEntry := false, parkTo := none }).leaveLull) ∧
  Runs .powerControlUpdate anyTime (fun d => ((d.takeLimit.controlUpdate).endReturn).settle)

/-- O27. Power states (R36 to R39, R317, R318, R369): a request for Standby outside the service modes and for Full with
nothing under way is carried out; its answer is deferred when the state changes, and a request that arrives while Full is
being reached may wait. A rail that gives its power-good enables the next, and the last one reaches Full; a rail that does
not, or is good too early, ends the rise; one that loses it after giving it raises Type 42, reads as failed, and takes the
device to Standby, or ends the rise that was under way. The model's own choices in it: log entries 25, 47 and 50. -/
def Obligations.PowerStateCompletes : Prop :=
  (∀ (c : Call) (v : Nat), Writes (.powerStateRequest c v) c Obj.powerStateRequest v
    (fun d => (valueOf c v = 2 → d.service = false) ∧ d.inTransition = false ∧
      (d.powerChanging = true → d.mayWait (valueOf c v) = true))
    (fun n d => d.marking modeObjs n (Dev.requestPower (callerSlot c.caller) c.env.prebias (valueOf c v) n))
    (r := fun d => if d.powerChanging ∨ valueOf c v ≠ d.power then .deferred else .none)) ∧
  (∀ (r : Fin 6) (b : Bool), Runs (.railPowerGood r b) (fun d => d.tide.rising = some r.val ∧ railAfter r = none) fun d =>
    ((d.put (Obj.railState r) 2).reachFull).tryAutostart) ∧
  (∀ (r : Fin 6) (n : Nat), Runs (.railPowerGood r false) (fun d => d.tide.rising = some r.val ∧ railAfter r = some n) fun d =>
    ((d.put (Obj.railState r) 2).enableRail n).tryAutostart) ∧
  (∀ (r : Fin 6) (n : Nat), Runs (.railPowerGood r true) (fun d => d.tide.rising = some r.val ∧ railAfter r = some n) fun d =>
    (((d.put (Obj.railState r) 2).railErr n).failPowerUp).tryAutostart) ∧
  (∀ r : Fin 6, Runs (.railPowerGoodTimeout r) (fun d => d.tide.rising = some r.val) fun d =>
    ((d.disableRail 3 r).railErr r).failPowerUp) ∧
  (∀ r : Fin 6, Runs (.railPowerGoodLost r) (fun d => d.tide.rising ≠ some r.val ∧ d.railState r = 2 ∧ d.power ≠ 2)
    fun d => (d.enterStandby.put (Obj.railState r) 3).collect
      { typ := 42, inst := r, unit := r, detail := d.get (Obj.railVoltage r) }) ∧
  (∀ r : Fin 6, Runs (.railPowerGoodLost r) (fun d => d.tide.rising ≠ some r.val ∧ d.railState r = 2 ∧ d.power = 2)
    fun d => (d.failPowerUp.put (Obj.railState r) 3).collect
      { typ := 42, inst := r, unit := r, detail := d.get (Obj.railVoltage r) })

/-- O28. VAUX and temperature (R330, R369 to R373, R392, R450): with VAUX good an Off device starts, or is held in its ROM in
test mode; without VAUX the device is Off; each sample is TJ_MAX and is judged against the throttle, Type 44 and the trip of
Type 45. The model's own choices in it: log entries 6 and 40. -/
def Obligations.VauxAndThermalComplete : Prop :=
  (∀ (f : StartFacts) (s : State), s.dev.boot = .off → f.testMode = false →
    exec (.vauxGood f) s = .next { s with dev := (s.dev.vauxRises f.ethMode).powerUp f.env }) ∧
  (∀ (f : StartFacts) (s : State), s.dev.boot = .off → f.testMode = true →
    exec (.vauxGood f) s = .next { s with dev := { s.dev.vauxRises f.ethMode with boot := .held } }) ∧
  (∀ s : State, ∃ d : Dev, exec .vauxLoss s = .next { s with dev := d } ∧ d.powered = false ∧ d.boot = .off ∧ d.part = s.dev.part ∧
    d.net = {} ∧ d.modes = {} ∧ d.tide = {} ∧ d.coh = {} ∧ d.lines = [] ∧ d.mgmt.sessions = [] ∧ d.mgmt.eventLog = [] ∧
    d.pool.ledger = s.dev.pool.ledger ∧ d.pool.pages = s.dev.pool.pages ∧ d.sent = s.dev.loseVaux.sent) ∧
  (∀ tj : Nat, Runs (.thermalSample tj) (fun d => (d.put Obj.tjMax tj).coreOn = false) fun d =>
    ((d.put Obj.tjMax tj).thermalError tj).thermalTrip tj) ∧
  (∀ tj : Nat, Runs (.thermalSample tj) (fun d => (d.put Obj.tjMax tj).coreOn = true) fun d =>
    (((d.put Obj.tjMax tj).throttle tj).thermalError tj).thermalTrip tj)

/-! Decisions, faults and fencing (R40 to R44, R384 to R404). -/

/-- O29. Decisions complete: DECISION with a pending token, and an ALTERNATIVE that its function takes, is carried out; so is
a verdict through an instance's own register; a limit that ends gives the expiry default; MODE of a function gives every
operation of it that default, and its limit is stored. The model's own choices in it: log entries 22 and 30. -/
def Obligations.DecisionsComplete : Prop :=
  (∀ (c : Call) (v : Nat) (x : Decision), Writes (.decision c v) c Obj.decision v
    (fun d => 1 ≤ (verdictOf (valueOf c v)).fn ∧ (verdictOf (valueOf c v)).fn ≤ 7 ∧ (verdictOf (valueOf c v)).verdict ≤ 2 ∧
      d.decided (verdictOf (valueOf c v)) = some x ∧ x.stale = false ∧
      ((verdictOf (valueOf c v)).verdict = 2 → d.altOk x (verdictOf (valueOf c v)).arg = true))
    (fun _ d => d.giveRuling (verdictOf (valueOf c v))) (after := Dev.endMessage)) ∧
  (∀ (i : Fin 4096) (token verdict : Nat), Runs (.hostDecision i token verdict)
    (fun d => d.ownsToken i token = true ∧ verdict ≤ 2) fun d =>
    d.giveRuling { token := token, fn := 7, verdict := verdict, arg := 0 }) ∧
  (∀ (token : Nat) (x : Decision), Runs (.decisionLimitExpiry token)
    (fun d => d.modes.decisions.find? (·.token == token) = some x) (Dev.expireOne Dev.salvageBy x)) ∧
  (∀ (c : Call) (f : Fin 7) (v : Nat), Writes (.functionModeWrite c f v) c (Obj.functionMode (f + 1)) v anyTime
    (fun _ d => if f.val + 1 = 4 then (d.put (Obj.functionMode (f + 1)) (valueOf c v)).expireWindows
      else (d.put (Obj.functionMode (f + 1)) (valueOf c v)).expireAll Dev.salvageBy fun x => x.fn == f + 1)
    (after := Dev.endMessage)) ∧
  (∀ (c : Call) (f : Fin 7) (v : Nat), Writes (.decisionLimitWrite c f v) c (Obj.decisionLimit (f + 1)) v anyTime fun _ d =>
    d.put (Obj.decisionLimit (f + 1)) (d.storedOf (Obj.decisionLimit (f + 1)) (valueOf c v)))

/-- O30. Error reports and acknowledgements complete: an error given, or else the oldest on the error lines, is collected; a
unit that stalls is reported; CLASS_ACK of a LATCHED class with its count clears the latch; SOURCE_CLEAR forgets one source,
or all. The model's own choices in it: log entries 84 and 85. -/
def Obligations.CollectorCompletes : Prop :=
  (∀ e : Err, Runs (.errorReport (some e)) anyTime (Dev.collect e)) ∧
  (∀ (e : Err) (rest : List Err), Runs (.errorReport none) (fun d => d.lines = e :: rest) fun d =>
    ({ d with lines := rest }).collect e) ∧
  (∀ u : UnitRef, Runs (.stallDetect u) anyTime (Dev.collect (stallErr u))) ∧
  (∀ (c : Call) (k : Fin 3) (v : Nat), Writes (.classAck c k v) c (Obj.classAck k) v
    (fun d => d.get (Obj.classState k) = 2 ∧ d.get (Obj.classCount k) = valueOf c v) fun _ d =>
    d.putAll [(Obj.status k, 0), (Obj.firstSource k, 0), (Obj.firstTime k, 0), (Obj.firstType k, 0), (Obj.classState k, 0)]) ∧
  (∀ (c : Call) (v : Nat), Writes (.sourceClear c v) c Obj.sourceClear v anyTime fun _ d =>
    d.setFaults fun f => { f with sources := if valueOf c v = 0xFFFF then [] else Tab.drop f.sources (valueOf c v) })

/-- O31. Fencing and the salvage flush complete: FENCE_UNIT fences a unit that is not fenced and may be; FENCE_CLEAR marks a
unit of the part for its test; the requests open to a fenced slice end in time, and its fence ends when the rehash is done;
the flush ends with what it lost. The model's own choices in it: log entry 85. -/
def Obligations.FencingCompletes : Prop :=
  (∀ (c : Call) (v : Nat) (u : FenceUnit), Writes (.fenceUnit c v) c Obj.fenceUnit v
    (fun d => unitArg (valueOf c v) = some u ∧ d.isFenced u = false ∧ d.mayFence u = true) fun n d =>
    (d.marking fenceObjs n (Dev.fenceNow u)).stateChange 0 (fenceObj u)) ∧
  (∀ (c : Call) (v : Nat) (u : FenceUnit), Writes (.fenceClear c v) c Obj.fenceClear v
    (fun d => unitArg (valueOf c v) = some u ∧ absentUnit d.part u = false) fun _ d => d.markClear u) ∧
  (∀ (s : Fin 16) (f : Fencing), Runs (.fencedRequestTimeout (.slice s))
    (fun d => d.faults.fencing.find? (fun f => f.slice == s.val && !f.ended) = some f) (Dev.endOpen f)) ∧
  (∀ (s : Fin 16) (f : Fencing), Runs (.fenceRehashDone s)
    (fun d => d.faults.fencing.find? (fun f => f.slice == s.val && f.ended) = some f) (Dev.endFencing f)) ∧
  (∀ lost : Nat, Runs (.salvageFlushEnd lost) (fun d => d.faults.flushing = true ∧ d.flushLeft = 0) fun d =>
    ((d.setFaults fun f => { f with flushing := false }).putAll
      [(Obj.salvageFlushState, if lost = 0 then 2 else 3), (Obj.salvageLostLines, min lost 0xFFFFFFFE)]).salvageEvent)

/-! Coherence (R135 to R173). -/

/-- O32. The coherence events complete: a host's Basin request ends Lull and reaches its home slice, and so does its private
write (R201), unless it stands at a fenced slice; a ring snoop is answered by its target; an answer of a slice or of a host is
taken at a home that is not fenced; a near copy is installed and acknowledged, and the home's directory notes it; a BIConflict
is acknowledged when its transaction has taken it, and else kept; a clean copy at a peer is dropped; a modified line is
evicted when the victim buffer has room; a write-back that was performed completes, and one that was not fails; a mark of
poison that was written is done (R205). The model's own choices in it: log entry 62. -/
def Obligations.CoherenceEventsComplete : Prop :=
  (∀ (b : Fin 64) (line : Nat) (r : BasinReq), Runs (.hostBasinRequest b line r)
    (fun d => (d.wakeFor (d.basinAccess b line r)).stranded ((d.wakeFor (d.basinAccess b line r)).basinAccess b line r) = false)
    fun d =>
    let d := d.wakeFor (d.basinAccess b line r)
    let a := d.basinAccess b line r
    (d.takeInbox a).arrive (d.doorOf a.key) a) ∧
  (∀ a : Access, Runs (.hostPrivateWrite a) (fun d => isWrite a.op = true ∧ isBasinKey a.key = false ∧
      (d.wakeFor a).stranded a = false) fun d => ((d.wakeFor a).takeInbox a).arrive ((d.wakeFor a).homeOf a.key) a) ∧
  (∀ (n : Fin 16) (k : Nat) (r : RingSnoop), Runs (.ringSnoopArrival n k)
    (fun d => d.coh.snoops.find? (fun r => r.target == n.val && r.key == k) = some r ∧ d.sliceFenced n = false) fun d =>
    (d.setCoh fun c => { c with snoops := c.snoops.erase r }).answerSnoop n r) ∧
  (∀ (s n : Fin 16) (k : Nat) (x : RingAnswer), Runs (.snoopAnswer s k (.ring n))
    (fun d => d.sliceFenced s = false ∧
      d.coh.answers.find? (fun x => x.home == s.val && x.origin == n.val && x.key == k) = some x) fun d =>
    ((d.setCoh fun c => { c with answers := c.answers.erase x }).ringAnswer s x).pump s) ∧
  (∀ (s : Fin 16) (k : Nat) (h : Fin 64) (data : Option Nat), Runs (.snoopAnswer s k (.host h data)) (fun d => d.sliceFenced s = false) fun d =>
    (d.hostAnswer s k h data).pump s) ∧
  (∀ (s : Fin 16) (k : Nat) (t : Tx) (n : Nat), Runs (.nearCopyAck s k)
    (fun d => d.sliceFenced s = false ∧ d.tx s k = some t ∧ t.near = some n ∧
      (if (((d.setTx s k fun t => { t with near := none }).dirEnt s k).isSome || n == s.val) &&
          !(d.setTx s k fun t => { t with near := none }).sliceFenced n then
        (d.setTx s k fun t => { t with near := none }).install n { key := k, st := .f, data := t.data.getD 0 } else none) = none)
    fun d => (d.setTx s k fun t => { t with near := none }).pump s) ∧
  (∀ (s : Fin 16) (k : Nat) (t : Tx) (n : Nat) (e : Dev), Runs (.nearCopyAck s k)
    (fun d => d.sliceFenced s = false ∧ d.tx s k = some t ∧ t.near = some n ∧
      (if (((d.setTx s k fun t => { t with near := none }).dirEnt s k).isSome || n == s.val) &&
          !(d.setTx s k fun t => { t with near := none }).sliceFenced n then
        (d.setTx s k fun t => { t with near := none }).install n { key := k, st := .f, data := t.data.getD 0 } else none) = some e)
    fun _ => ((if n = s.val then e else e.setDir s k fun x => { x with peer := true }).demote n k).pump s) ∧
  (∀ (s : Fin 16) (k : Nat) (h : Fin 64), Runs (.biconflict s k h .read)
    (fun d => d.sliceFenced s = false ∧ (d.slice s).conflict.any (fun p => p.1 == k && p.2.acc.host == h.val) = true) fun d =>
    d.send (.biConflictAck h k)) ∧
  (∀ (s : Fin 16) (k : Nat) (h : Fin 64), Runs (.biconflict s k h .write)
    (fun d => d.sliceFenced s = false ∧ ((d.tx s k).map fun t : Tx => t.crossed.contains h.val).getD false = false) fun d =>
    (d.setSlice s fun x => { x with conflicts := x.conflicts ++ [(k, h.val, true)] }).overtake s k h) ∧
  (∀ (s : Fin 16) (k : Nat) (l : SLine), Runs (.peerCopyDrop s k)
    (fun d => d.line s k = some l ∧ isBasinKey k = true ∧ d.sliceFenced s = false ∧ d.homeOf k ≠ s.val ∧ (l.st = .s ∨ l.st = .f)) (Dev.dropLine s k)) ∧
  (∀ (s : Fin 16) (k : Nat) (l : SLine), Runs (.mLineEviction s k)
    (fun d => d.line s k = some l ∧ l.st = .m ∧ d.sliceFenced s = false ∧ (d.slice s).victims.length < 64 ∧ (d.tx s k).isNone = true) (Dev.evictM s l)) ∧
  (∀ (s : Fin 16) (k : Nat) (a : MemAcc), Runs (.writeBackComplete s k true)
    (fun d => d.pool.accesses.find? (fun a => a.slice == s.val && a.key == k && kindOf a == 1 && a.write) = some a) fun d =>
    (d.closeOrig a.id).memDone a 0 false) ∧
  (∀ (s : Fin 16) (k : Nat) (a : MemAcc), Runs (.writeBackComplete s k false)
    (fun d => d.pool.accesses.find? (fun a => a.slice == s.val && a.key == k && kindOf a == 1 && a.write) = some a) fun d =>
    ((d.closeOrig a.id).memFailed a 3).abortFailed) ∧
  (∀ (m : Fin 64) (line : Nat) (a : MemAcc), Runs (.poisonedWriteComplete m line)
    (fun d => d.pool.accesses.find? (fun a => a.dev == m.val && a.line == line && a.goal == MemFor.poison) = some a) fun d =>
    (d.closeOrig a.id).memDone a 0 false)

/-- O33. Basins complete (R163 to R173): BASIN_ENABLE starts a Basin in a service mode, and its clearing starts the reset walk
of one that is UP or DOWN; the configuration is written where the home set is sound and the Basin is not live; BASIN_RESET
starts the walk of a DOWN Basin in a service mode; the walk that has ended disables the Basin, or brings it UP or OPEN by its
cause; BASIN_OPEN brings an OPEN one UP; a snoop that times out in a Basin that is UP takes it DOWN and raises Type 28. The
model's own choices in it: log entry 64. -/
def Obligations.BasinsComplete : Prop :=
  (∀ (c : Call) (b : Fin 64) (v : Nat), Writes (.basinEnableWrite c b v) c (Obj.basinEnable b) v
    (fun d => valueOf c v = 1 ∧ ((d.nextSet b).any (fun s => d.get (Obj.sliceState s) == 4) = false ∨ d.basinState b ≠ 0)) fun _ d =>
    let e := d.put (Obj.basinEnable b) 1
    if e.basinState b = 0 ∧ e.service = true then e.enableBasin b else e) ∧
  (∀ (c : Call) (b : Fin 64) (v : Nat), Writes (.basinEnableWrite c b v) c (Obj.basinEnable b) v
    (fun _ => valueOf c v = 0) fun _ d =>
    let d := d.put (Obj.basinEnable b) 0
    if d.service = true ∧ (d.basinState b = 1 ∨ d.basinState b = 2) then
      (if d.basinState b = 1 then d.endBasin b else d).startWalkOf b [] true
    else d.setBasin b fun x => { x with enabling := false }) ∧
  (∀ (c : Call) (b : Fin 64) (w : BasinObj) (v : Nat), Writes (.basinConfigWrite c b w v) c (basinObj b w) v
    (fun d => (w = .homeSetBase → setOk d.part (valueOf c v) (d.get (Obj.homeSetSize b)) = true ∧ d.basinLive b = false) ∧
      (w = .homeSetSize → setOk d.part (d.get (Obj.homeSetBase b)) (valueOf c v) = true ∧ d.basinLive b = false) ∧
      (w = .members → (d.basinLive b && Nat.land (d.get (Obj.members b)) (valueOf c v) != d.get (Obj.members b)) = false)) fun _ d =>
    let gone := (d.membersOf b).filter fun h => !bitAt (valueOf c v) h
    let d := if w = .members ∧ d.basinState b = 2 then d.setBasin b fun x => { x with removed := x.removed ++ gone } else d
    d.put (basinObj b w) (valueOf c v)) ∧
  (∀ (c : Call) (b : Fin 64) (v : Nat), Writes (.basinReset c b v) c (Obj.basinReset b) v
    (fun d => d.basinState b = 2 ∧ d.service = true ∧ d.setBusy b = false) fun _ d =>
    d.startWalkOf b ((causeHost (d.get (Obj.downCause b))).toList ++ (d.basin b).removed) false) ∧
  (∀ b : Fin 64, Runs (.resetWalkEnd b) (fun d => d.basinState b = 3 ∧ d.service = true ∧ d.walking b = false ∧ (d.basin b).enabling = false) fun d =>
    let d := d.forEach (d.homeSet b) fun s d => d.setSlice s fun x => { x with
      lines := x.lines.filter fun l => !ofBasin b l.key, dir := x.dir.filter fun e => !ofBasin b e.key }
    if (d.basin b).disabling = true then ((d.put (Obj.basinState b) 0).setBasin b fun _ => {}).basinEvent b
    else
      let c := d.get (Obj.downCause b) / 4096
      if c = 1 ∨ c = 4 then d.openBasin b else (d.put (Obj.basinState b) 4).basinEvent b) ∧
  (∀ (c : Call) (b : Fin 64) (v : Nat), Writes (.basinOpen c b v) c (Obj.basinOpen b) v
    (fun d => d.basinState b = 4 ∧ d.service = true ∧ d.setFenced b = false) fun _ d => d.openBasin b) ∧
  (∀ (s : Fin 16) (k : Nat) (who : SnoopTarget), Runs (.snoopTimeoutExpiry s k who)
    (fun d => d.outstanding s k who = true ∧ d.service = true ∧ d.basinState (basinOfKey k) = 1) fun d =>
    let d := d.basinFall (basinOfKey k) (timeoutCause who)
    d.err { typ := 28, inst := basinOfKey k, unit := basinOfKey k, report := d.basinPayload (basinOfKey k) })

/-! Pooled memory (R176 to R223). -/

/-- O34. Slots, berths and the Ledger's own commands complete: a slot's binding is written when its source is free and the
slot is not in use; a berth is enabled when it meets R177 and disabled when no entry beyond it is VALID, as a new epoch;
LEDGER_WRITE writes an entry; the pool barrier takes the epoch in force and is done when no earlier access is open; a walk
that returns is closed and its accesses go on; the fence of a page that needs no write-back ends when no request of the page
is open (R186); a flush of a berth writes back what is dirty there and is answered when that is done (R203). The model's own
choices in it: log entries 65 and 66. -/
def Obligations.LedgerCommandsComplete : Prop :=
  (∀ (c : Call) (h : Fin 64) (v : Nat), Writes (.slotBindingWrite c h true v) c (Obj.slotSource h) v
    (fun d => d.sourceTaken h (d.get (Obj.slotKind h)) (valueOf c v) = false ∧ (d.get (Obj.slotKind h) = 1 → valueOf c v ≤ 127) ∧
      d.slotInUse h = false) (stores (Obj.slotSource h) (valueOf c v))) ∧
  (∀ (c : Call) (h : Fin 64) (v : Nat), Writes (.slotBindingWrite c h false v) c (Obj.slotKind h) v
    (fun d => d.sourceTaken h (valueOf c v) (d.get (Obj.slotSource h)) = false ∧ (valueOf c v = 1 → d.get (Obj.slotSource h) ≤ 127) ∧
      d.slotInUse h = false) (stores (Obj.slotKind h) (valueOf c v))) ∧
  (∀ (c : Call) (n : Fin 1024) (v : Nat), Writes (.berthEnableWrite c n v) c (Obj.berthEnable n) v
    (fun d => valueOf c v = 1 ∧ d.get (Obj.berthEnable n) = 0 ∧ d.berthOk n (d.get (Obj.berthBase n)) (d.get (Obj.berthLimit n)) = true)
    fun _ d => if d.get (Obj.berthEnable n) = 1 then d else d.put (Obj.berthEnable n) 1) ∧
  (∀ (c : Call) (n : Fin 1024) (v : Nat), Writes (.berthChange c n .disable v) c (Obj.berthEnable n) v
    (fun d => valueOf c v = 0 ∧ d.berthHolds n 0 = false) fun _ d =>
    if d.get (Obj.berthEnable n) = 0 then d else ((d.shrink n 0).put (Obj.berthEnable n) 0).newEpoch) ∧
  (∀ (c : Call) (v : Nat), Writes (.ledgerWrite c v) c Obj.ledgerWrite v (fun d => checkLedgerWrite (valueOf c v) d = 0) fun _ d =>
    d.writeEntry (bits (valueOf c v) 0 32) (Nat.land (bits (valueOf c v) 64 64) entryMask) true) ∧
  (∀ (c : Call) (v : Nat), Writes (.poolBarrier c v) c Obj.poolBarrier v (fun d => d.get Obj.barrierStatus ≠ 1) fun _ d =>
    d.putAll [(Obj.barrierEpoch, d.epoch), (Obj.barrierStatus, 1)]) ∧
  Runs .poolBarrierDone (fun d => d.get Obj.barrierStatus = 1 ∧ d.openBefore (d.get Obj.barrierEpoch) = false) (fun d =>
    (d.put Obj.barrierStatus 2).stateChange (sourceId 15 0) Obj.barrierStatus) ∧
  (∀ (s : Fin 16) (line : Nat) (ok : Bool), Runs (.ledgerWalkDone s line ok)
    (fun d => d.pool.walks.any (fun w => w.slice == s.val && w.line == line) = true) fun d =>
    (d.closeWalk s line).endWalk s line ok) ∧
  (∀ (i : Nat) (f : PageFence), Runs (.pageFenceDone i)
    (fun d => d.pool.fences.find? (·.index == i) = some f ∧ d.pageBusy i = false ∧ f.writeBack = false) (Dev.endFence f)) ∧
  (∀ (c : Call) (n : Fin 1024) (v : Nat), Writes (.berthFlush c n v) c (Obj.berthFlush n) v
anyTime
    (fun seq d =>
      let d := ((d.dirtyInBerth n).filter fun p => !d.cleaning p.1 p.2.key && !d.writing p.1 p.2.key).foldl
        (fun d p => d.writeBackLine p) d
      if d.cleaningOf n = [] then d.answerReady (callerSlot c.caller) seq 0 0
      else d.setPool fun p => { p with flushes := p.flushes ++ [(callerSlot c.caller, seq, d.cleaningOf n)] })
    (r := fun _ => .deferred)) ∧
  (∀ (c : Call) (v : Nat), Writes (.ledgerInit c v) c Obj.ledgerInit v (fun d => d.mode = 0)
    (fun n d => d.marking [Obj.ledgerState] n Dev.ledgerInit) (after := Dev.tryAutostart)) ∧
  (∀ (c : Call) (v : Nat), Writes (.ledgerAdopt c v) c Obj.ledgerAdopt v (fun d => d.mode = 0)
    (fun n d => d.marking [Obj.ledgerState] n Dev.ledgerAdopt) (after := Dev.tryAutostart))

/-- O35. Capacity completes (R194 to R200): ALLOC_GRANT is asked and answered now or when it is decided; a wait for zeroed
pages settles; an announced extent lies in VALID entries of its berth; a host accepts or declines an extent, or lets it lapse;
a release inside a berth unmaps it; a zeroed page is FREE, one that failed is zeroed again, and after the third failure is
RESERVED and reported as Type 37. The model's own choices in it: log entries 25 and 68. -/
def Obligations.CapacityCompletes : Prop :=
  (∀ (c : Call) (v : Nat), Writes (.allocGrant c v) c Obj.allocGrant v anyTime
    (fun n d => let e := d.capAsk none (valueOf c v) (askerOf c.caller n)
      match d.capNow none (valueOf c v) (askerOf c.caller n) with
      | some r => if bits r 0 8 = 0 then e else e.count Obj.allocRefusals 1
      | none => e)
    (r := fun d => match d.capNow none (valueOf c v) (askerOf c.caller d.nextSeq) with
      | some r => .now r 16
      | none => .deferred)) ∧
  (∀ (target : Nat) (r : CapReq), Runs (.zeroWaitExpiry target)
    (fun d => d.pool.caps.find? (fun r => r.target == target && r.zeroWait) = some r) (Dev.settleCap r)) ∧
  (∀ (c : Call) (v : Nat), Writes (.extentAnnounce c v) c Obj.extentAnnounce v
    (fun d => bits (valueOf c v) 0 16 < 1024 ∧
      d.inBerth (bits (valueOf c v) 0 16) (bits (valueOf c v) 32 32) (bits (valueOf c v) 64 32) = true ∧
      ((List.range (bits (valueOf c v) 64 32)).all fun i =>
        entryValid (d.ledgerAt (d.get (Obj.ledgerFirst (bits (valueOf c v) 0 16)) + bits (valueOf c v) 32 32 + i))) = true) fun _ d =>
    d.announce (bits (valueOf c v) 0 16) [(bits (valueOf c v) 32 32, bits (valueOf c v) 64 32)]) ∧
  (∀ (n : Fin 1024) (first : Nat) (x : Extent), Runs (.hostExtentResponse n first true) (fun d => d.extentAt n first = some x) fun d =>
    d.setPool fun p => { p with extents := p.extents.erase x }) ∧
  (∀ (n : Fin 1024) (first : Nat) (x : Extent), Runs (.hostExtentResponse n first false) (fun d => d.extentAt n first = some x)
    (Dev.declineExtent x)) ∧
  (∀ (n : Fin 1024) (first : Nat) (x : Extent), Runs (.addResponseExpiry n first) (fun d => d.extentAt n first = some x)
    (Dev.declineExtent x)) ∧
  (∀ (n : Fin 1024) (first pages : Nat), Runs (.capacityRelease n first pages) (fun d => d.inBerth n first pages = true) fun d =>
    (d.unmap n first pages).setPool fun p => { p with
      extents := p.extents.filter fun x => !(x.berth == n.val && decide (first ≤ x.first ∧ x.first + x.pages ≤ first + pages)) }) ∧
  (∀ (m : Fin 64) (p : Nat) (z : Nat × Nat × Nat × Nat), Runs (.pageZeroDone m p true)
    (fun d => d.crane.zeroing.find? (fun z => z.1 == m.val && z.2.1 == p && z.2.2.1 == 32) = some z) fun d =>
    let d := (d.endOwn (· == .zero m p)).setCrane fun c => { c with zeroing := c.zeroing.erase z }
    (((d.setPage m p 0).cleanLines m (d.dpaLine m p 0) 32768).setPool fun x => { x with
      zeroFails := Tab.set 0 x.zeroFails (pageKey m p) 0 }).retryCaps)

/-- O36. Accesses and hints complete (R186, R201 to R210): a host's private write ends Lull and is taken to its home slice,
unless it stands at a fenced one; a page's fence waits while a request of the page is open or a write-back of its own lines
is, writes back the page's dirty lines it has not yet written, and else ends; BERTH_FLUSH writes back every dirty line of the
berth that is not being written, is answered at once when nothing of the berth is being written back, and else is kept with
what it waits for; a memory write fails by each cause: a time-out ends its request and keeps the slot, a request not yet sent
is withdrawn, a device's error or the loss of the quay ends it; a mark of poison that was written is done; a prefetch hint
that is taken within the power ceiling reads its line, and one that is not taken is counted. The model's own choices in it:
log entries 8 and 12. -/
def Obligations.AccessesComplete : Prop :=
  (∀ a : Access, Runs (.hostPrivateWrite a) (fun d => isWrite a.op = true ∧ isBasinKey a.key = false ∧
      (d.wakeFor a).stranded a = false) fun d => ((d.wakeFor a).takeInbox a).arrive ((d.wakeFor a).homeOf a.key) a) ∧
  (∀ (i : Nat) (f : PageFence), Runs (.pageFenceDone i)
    (fun d => d.pool.fences.find? (·.index == i) = some f ∧ d.pageBusy i = false ∧ f.writeBack = false) (Dev.endFence f)) ∧
  (∀ (i : Nat) (f : PageFence), Runs (.pageFenceDone i)
    (fun d => d.pool.fences.find? (·.index == i) = some f ∧
      (d.pageBusy i = true ∨ (f.writeBack = true ∧ f.lines.any (fun p => d.cleaning p.1 p.2) = true))) fun d => d) ∧
  (∀ (i : Nat) (f : PageFence), Runs (.pageFenceDone i)
    (fun d => d.pool.fences.find? (·.index == i) = some f ∧ d.pageBusy i = false ∧ f.writeBack = true ∧
      f.lines.any (fun p => d.cleaning p.1 p.2) = false) fun d =>
    if ((d.dirtyOf i).any fun p => !f.lines.contains (p.1, p.2.key)) = true then d.backPage i else d.endFence f) ∧
  (∀ (c : Call) (n : Fin 1024) (v : Nat), Writes (.berthFlush c n v) c (Obj.berthFlush n) v anyTime
    (fun seq d =>
      let d := ((d.dirtyInBerth n).filter fun p => !d.cleaning p.1 p.2.key && !d.writing p.1 p.2.key).foldl
        (fun d p => d.writeBackLine p) d
      if d.cleaningOf n = [] then d.answerReady (callerSlot c.caller) seq 0 0
      else d.setPool fun p => { p with flushes := p.flushes ++ [(callerSlot c.caller, seq, d.cleaningOf n)] })
    (r := fun _ => .deferred)) ∧
  (∀ (q : Fin 128) (slot gen : Nat) (o : Orig) (id : Nat) (a : MemAcc), Runs (.memoryWriteFail q slot gen 1)
    (fun d => d.origAt q slot gen = some o ∧ o.ini = .mem id ∧ d.accOf id = some a ∧ a.write = true) fun d =>
    ((((d.noteTimeout o).expireOrig o).issueWaiting q).memFailed a 1).abortFailed) ∧
  (∀ (q : Fin 128) (slot gen : Nat) (cause : Fin 4) (o : Orig) (id : Nat) (a : MemAcc), Runs (.memoryWriteFail q slot gen cause)
    (fun d => d.origAt q slot gen = some o ∧ o.ini = .mem id ∧ d.accOf id = some a ∧ a.write = true ∧ cause ≠ 0 ∧ cause ≠ 1 ∧
      o.sent = false) fun d =>
    (((d.expireOrig o).issueWaiting q).memFailed a cause).abortFailed) ∧
  (∀ (q : Fin 128) (slot gen : Nat) (o : Orig) (id : Nat) (a : MemAcc), Runs (.memoryWriteFail q slot gen 2)
    (fun d => d.origAt q slot gen = some o ∧ o.ini = .mem id ∧ d.accOf id = some a ∧ a.write = true ∧ o.sent = true) fun d =>
    (((d.dropOrig o).issueWaiting q).memFailed a 2).abortFailed) ∧
  (∀ (q : Fin 128) (slot gen : Nat) (o : Orig) (id : Nat) (a : MemAcc), Runs (.memoryWriteFail q slot gen 3)
    (fun d => d.origAt q slot gen = some o ∧ o.ini = .mem id ∧ d.accOf id = some a ∧ a.write = true ∧ o.sent = true) fun d =>
    ((((d.noteDone o).dropOrig o).issueWaiting q).memFailed a 3).abortFailed) ∧
  (∀ (m : Fin 64) (line : Nat) (a : MemAcc), Runs (.poisonedWriteComplete m line)
    (fun d => d.pool.accesses.find? (fun a => a.dev == m.val && a.line == line && a.goal == MemFor.poison) = some a) fun d =>
    (d.closeOrig a.id).memDone a 0 false) ∧
  (∀ (s : Fin 16) (k : Nat), Runs (.prefetchHint s k) (fun d => d.pool.hints.contains (s.val, k) = true ∧ d.metered = false)
    fun d =>
    let d := d.setPool fun p => { p with hints := p.hints.erase (s.val, k) }
    if d.takesHint s k = true then
      (d.setSlice s fun x => { x with txs := x.txs ++ [{ key := k, serves := .prefetch, stages := [.readMem, .keep] }] }).pump s
    else d.count Obj.prefetchDiscards 1)

/-- O37. Migration and tiering complete (R211 to R221): MIGRATE starts a migration that R212 allows; a bale that was copied,
or copied back, moves it on, and one that failed turns it back; a source page with nothing left in it is zeroed and its
migration ends; MIGRATE_ABORT turns a migration back; the access counts are folded and the sweep looks at the next VALID
entry. The model's own choices in it: log entry 69. -/
def Obligations.MigrationCompletes : Prop :=
  (∀ (c : Call) (v : Nat), Writes (.migrate c v) c Obj.migrate v
    (fun d => d.checkMigrate (bits (valueOf c v) 0 32) (bits (valueOf c v) 32 8) (bits (valueOf c v) 64 32) = 0) fun _ d =>
    d.startMig (bits (valueOf c v) 0 32) (bits (valueOf c v) 32 8) (bits (valueOf c v) 64 32) false) ∧
  (∀ (slot : Fin 256) (p late : Nat) (g : Mig), Runs (.baleDone slot (.done p late))
    (fun d => d.pool.migs.find? (fun g => g.slot == slot.val && g.copying) = some g ∧ g.failed = false ∧ d.baleReady g = true)
    fun d =>
    let d := d.event (0xC300 + g.engine) 0x44 1 {}
    if g.reversing = true then d.baleBack g p late else (d.baleCopied g p).abortFailed) ∧
  (∀ (slot : Fin 256) (line cause : Nat) (g : Mig), Runs (.baleDone slot (.failed line cause))
    (fun d => d.pool.migs.find? (fun g => g.slot == slot.val && g.copying) = some g) (Dev.baleFailed g line cause)) ∧
  (∀ (m : Fin 64) (p : Nat) (x : Releasing) (g : Mig), Runs (.sourcePageRelease m p)
    (fun d => d.pool.releasing.find? (fun x => x.dev == m.val && x.page == p) = some x ∧ d.remains x = false ∧
      ((d.setPool fun y => { y with releasing := y.releasing.erase x }).toZeroing m p).pool.migs.find?
        (fun g => g.finishing && g.srcDev == m.val && g.srcPage == p) = some g) fun d =>
    ((((d.setPool fun y => { y with releasing := y.releasing.erase x }).toZeroing m p).freeMig g.slot).count Obj.migrationsDone 1)) ∧
  (∀ (c : Call) (v : Nat) (g : Mig), Writes (.migrateAbort c v) c Obj.migrateAbort v
    (fun d => valueOf c v < 256 ∧ d.pool.migs.find? (·.slot == valueOf c v) = some g) fun _ d => d.abortMig g) ∧
  Runs .tierFold (fun d => d.tiering = true) (fun d => d.forEach (List.range 16) fun s d =>
    ((d.tlb s).foldl (fun d t => d.foldCount t) d).setTlb s fun l => l.map fun t => { t with count := 0 }) ∧
  (∀ i e : Nat, Runs .tierSweep (fun d => d.tiering = true ∧ d.nextValid d.pool.sweep = some (i, e) ∧ entryMigrating e = false) fun d =>
    let d := d.setPool fun p => { p with sweep := i + 1 }
    let d := match d.tierWanted e with
      | some t => d.tierPropose i t
      | none => d
    let e := d.ledgerAt i
    d.setPool fun p => { p with ledger := Tab.set 0 p.ledger i (setBits e 48 8 (entryAccess e / 2)) })

/-! Crane (R224 to R260). -/

/-- O38. The engines complete: the refill gives an engine and every instance on it their allowance; a round of an engine that
runs takes its shares and steps its bales, its zeroing and its queues, the first two not while its master is impounded, the
queues not in Lull; a piece whose reads and writes have all ended, the writes to its destination among them, settles its
queue. The model's own choices in it: log entries 71 and 72. -/
def Obligations.EnginesComplete : Prop :=
  (∀ e : Fin 16, Runs (.allowanceRefill e) anyTime fun d =>
    let g : Int := (d.engine e).share * 480
    let d := d.setEngine e fun x => { x with bucket := gain x.bucket g }
    d.setCrane fun c => { c with
      insts := c.insts.map fun p => (p.1, { p.2 with
        buckets := Tab.set 65536 p.2.buckets e
          (gain (p.2.bucket e) (g * (p.2.shareOn e : Int) / 100)) }) }) ∧
  (∀ e : Fin 16, Runs (.engineRound e) (fun d => d.get (Obj.engineState e) = 0 ∧ d.coreOn = true ∧ d.mode ≠ 5) fun d =>
    let d := (d.takeShares e).craneGoOn
    let d := if d.impounded (engineMaster e) = true then d else (d.stepBales e).stepZero e
    if d.power = 1 then d else d.stepQueues e) ∧
  (∀ (i : Fin 4096) (qid entry k : Nat) (e : Fin 16) (q : Queue) (x : Desc), Runs (.pieceComplete i qid entry k e)
    (fun d => d.queue i qid = some q ∧ q.exec.find? (fun x => x.entry == entry && (x.flyingOn e).contains k) = some x ∧
      ((d.sendWrites q x k).accsOf i qid entry k).all (·.ended) = true ∧
      ((q.op x).writesDst = true →
        ((d.sendWrites q x k).accsOf i qid entry k).any (fun a => a.part == 2 || a.status != 0) = true)) fun d =>
    ((d.sendWrites q x k).endPiece q x k).settleQueue i qid)

/-- O39. The queues complete (R233 to R247): a poll of a queue that is served, has room and no read of its ring under way
takes an entry it can read at once, and reads on where that was posted; ends where memory gave no entry; reads the entry
through its home slice where the line is in use there; and puts the queue in ERROR where Customs bars the read. A poll that
leaves an entry in a cache ends Lull. INVALIDATE discards the cached entries of a queue that runs or is paused; DISABLE drains
a queue of format 1, and its clearing starts it again at its head; a queue that is being destroyed and is empty is dropped.
The model's own choices in it: log entry 71. -/
def Obligations.QueuesComplete : Prop :=
  (∀ (i : Fin 4096) (qid : Nat) (l : List Nat) (q : Queue) (v : Option Nat), Runs (.queuePoll i qid l true)
    (fun d => d.queue i qid = some q ∧ d.served q = true ∧ q.cache.length < 8 ∧ d.sideAccs i qid AccPart.ring = [] ∧
      (d.craneCheck (d.engineOf i qid) i 1 (q.ctx.ringBase + 64 * q.fetch)).passes = true ∧
      (d.event (0xC300 + d.engineOf i qid) 0x43 1 { master := instMaster i }).entryRead q (some (l.map some)) = .entry v) fun d =>
    let e := (d.event (0xC300 + d.engineOf i qid) 0x43 1 { master := instMaster i }).takeEntry q v
    (if e.2 = true then e.1.pollN i qid 7 (some (l.map some).tail) else e.1).wakeForQueues) ∧
  (∀ (i : Fin 4096) (qid : Nat) (l : List Nat) (ok : Bool) (q : Queue), Runs (.queuePoll i qid l ok)
    (fun d => d.queue i qid = some q ∧ d.served q = true ∧ q.cache.length < 8 ∧ d.sideAccs i qid AccPart.ring = [] ∧
      (d.craneCheck (d.engineOf i qid) i 1 (q.ctx.ringBase + 64 * q.fetch)).passes = true ∧
      (d.event (0xC300 + d.engineOf i qid) 0x43 1 { master := instMaster i }).entryRead q
        (some (l.map some ++ if ok = true then [] else [none])) = .nothing) fun d =>
    (d.event (0xC300 + d.engineOf i qid) 0x43 1 { master := instMaster i }).wakeForQueues) ∧
  (∀ (i : Fin 4096) (qid : Nat) (l : List Nat) (ok : Bool) (q : Queue) (region cache : Nat) (strict : Bool), Runs (.queuePoll i qid l ok)
    (fun d => d.queue i qid = some q ∧ d.served q = true ∧ q.cache.length < 8 ∧ d.sideAccs i qid AccPart.ring = [] ∧
      d.craneCheck (d.engineOf i qid) i 1 (q.ctx.ringBase + 64 * q.fetch) = .pass region cache strict ∧
      (d.event (0xC300 + d.engineOf i qid) 0x43 1 { master := instMaster i }).entryRead q
        (some (l.map some ++ if ok = true then [] else [none])) = .waits) fun d =>
    let r := (d.event (0xC300 + d.engineOf i qid) 0x43 1 { master := instMaster i }).openCheck
      (d.craneChecker false (d.engineOf i qid)) (instMaster i) region false
    (r.1.openReads { id := 0, inst := i, qid := qid, entry := q.fetch, piece := 0, part := AccPart.ring, line := 0, chk := r.2 } cache
      (q.ctx.ringBase + 64 * q.fetch)).wakeForQueues) ∧
  (∀ (i : Fin 4096) (qid : Nat) (l : List Nat) (ok : Bool) (q : Queue) (cause region : Nat), Runs (.queuePoll i qid l ok)
    (fun d => d.queue i qid = some q ∧ d.served q = true ∧ q.cache.length < 8 ∧ d.sideAccs i qid AccPart.ring = [] ∧
      d.craneCheck (d.engineOf i qid) i 1 (q.ctx.ringBase + 64 * q.fetch) = .fail cause region) fun d =>
    ((d.violate (d.craneChecker false (d.engineOf i qid)) (instMaster i) cause 1 region (q.ctx.ringBase + 64 * q.fetch)
      true).fetchFault i qid).wakeForQueues) ∧
  (∀ (i : Fin 4096) (qid : Nat) (q : Queue), Runs (.invalidate i qid)
    (fun d => d.queue i qid = some q ∧ (q.state = .running ∨ q.state = .paused) ∧ d.queueHeld i qid = false) fun d =>
    (d.setQueue i qid fun q => q.discard).count Obj.entryInvalidations q.cache.length) ∧
  (∀ (i : Fin 4096) (qid : Nat) (q : Queue), Runs (.disable i qid)
    (fun d => d.queue i qid = some q ∧ q.ctx.format = 1 ∧ q.state ≠ .disabling ∧ q.state ≠ .disabled) fun d =>
    (d.setQueue i qid fun q => { q.discard with
      state := .disabling, invalHead := q.invalHead, exec := q.cutAll 3 }).settleQueue
      i qid) ∧
  (∀ (i : Fin 4096) (qid : Nat), Runs (.disableClear i qid) anyTime fun d =>
    d.setQueue i qid fun q => if q.state = .disabled then
      { q with stuck := false, state := .running, fetch := q.head, phase := q.headPhase, errCode := 0, errIndex := 0 } else q) ∧
  (∀ (i : Fin 4096) (qid : Nat) (q : Queue), Runs (.queueDestroyDone i qid)
    (fun d => d.queue i qid = some q ∧ q.state = .destroying ∧ q.exec = [] ∧ q.cache = [] ∧ d.sideAccs i qid AccPart.ring = [] ∧
      (q.headDue || q.noticeDue || d.storing i qid) = false) (Dev.dropQueue i qid))

/-- O40. The administration queue's commands complete (R246, R247): CREATE adds a queue whose context it can take and reports the
status; DESTROY drops a queue in ERROR and drains another; QUERY sends the control block and the context to the instance's
memory, and ends when they are written; a queue that does not exist, and a buffer it cannot write, are reported, one that Customs bars as its violation too. -/
def Obligations.AdminCommandsComplete : Prop :=
  (∀ (i : Fin 4096) (ctx : QContext) (x : Desc), Runs (.createQueue i (some ctx))
    (fun d => d.adminCmd i 0x80 = some x ∧ d.sideAccs i 0 AccPart.context = [] ∧ d.homeRead i (bytesAt x.raw 8 8) = .memory ∧
      (d.craneCheck (d.engineOf i 0) i 1 (bytesAt x.raw 8 8)).passes = true ∧ d.createStatus i (some ctx) = 0) fun d =>
    (d.setCrane fun k => { k with queues := k.queues ++ [newQueue i ctx.queueId ctx] }).endAdmin i x 0) ∧
  (∀ (i : Fin 4096) (qid : Nat) (x : Desc) (q : Queue), Runs (.destroyQueue i qid)
    (fun d => d.adminCmd i 0x81 = some x ∧ bytesAt x.raw 4 2 = qid ∧ qid ≠ 0 ∧ d.queue i qid = some q) fun d =>
    (if q.state = .error then d.dropQueue i qid
     else d.setQueue i qid fun k => { k with state := .destroying }).endAdmin i x 0) ∧
  (∀ (i : Fin 4096) (qid : Nat) (x : Desc), Runs (.destroyQueue i qid)
    (fun d => d.adminCmd i 0x81 = some x ∧ bytesAt x.raw 4 2 = qid ∧ (qid = 0 ∨ d.queue i qid = none)) fun d => d.endAdmin i x 18) ∧
  (∀ (i : Fin 4096) (qid : Nat) (x : Desc) (q : Queue), Runs (.queryQueue i qid true)
    (fun d => d.adminCmd i 0x82 = some x ∧ bytesAt x.raw 4 2 = qid ∧ qid ≠ 0 ∧ d.queue i qid = some q ∧ d.sideAccs i 0 AccPart.result = [] ∧
      (d.craneCheck (d.engineOf i 0) i 2 (bytesAt x.raw 8 8)).passes = true) fun d =>
    (d.storeFor false (d.engineOf i 0)
      { id := 0, inst := i, qid := 0, entry := x.entry, piece := 0, part := AccPart.result, line := 0 } (bytesAt x.raw 8 8) 64
      (d.controlBlock q + ctxRaw q.ctx % 2 ^ 384 * 2 ^ 128)).adminGoesOn i) ∧
  (∀ (i : Fin 4096) (qid : Nat) (x : Desc) (q : Queue), Runs (.queryQueue i qid false)
    (fun d => d.adminCmd i 0x82 = some x ∧ bytesAt x.raw 4 2 = qid ∧ qid ≠ 0 ∧ d.queue i qid = some q ∧ d.sideAccs i 0 AccPart.result = [] ∧
      (d.craneCheck (d.engineOf i 0) i 2 (bytesAt x.raw 8 8)).passes = true) fun d =>
    d.endAdmin i x 20) ∧
  (∀ (i : Fin 4096) (qid cause region : Nat) (ok : Bool) (x : Desc) (q : Queue), Runs (.queryQueue i qid ok)
    (fun d => d.adminCmd i 0x82 = some x ∧ bytesAt x.raw 4 2 = qid ∧ qid ≠ 0 ∧ d.queue i qid = some q ∧ d.sideAccs i 0 AccPart.result = [] ∧
      d.craneCheck (d.engineOf i 0) i 2 (bytesAt x.raw 8 8) = .fail cause region) fun d =>
    (d.violate (d.craneChecker false (d.engineOf i 0)) (instMaster i) cause 2 region (bytesAt x.raw 8 8) true).endAdmin i x 20)

/-- O41. A Harbour function's registers complete (R248 to R252): ENABLE of a bound instance that is not being reset takes its
registers and gives it its first queues, and a function with no instance takes its registers only; a mailbox message is held, and an
instance's raised to the managers; a capacity request is checked, asked
and answered; a capacity release of a part of an own berth unmaps it, and any other is refused. -/
def Obligations.FunctionsComplete : Prop :=
  (∀ (i : Fin 36992) (r : FuncRegs), Runs (.craneEnable i r)
    (fun d => i.val < 4096 ∧ (d.inst i).bound = true ∧ (d.inst i).resetting = false ∧
      (((d.setInst i (Inst.writeRegs r)).sendPending i).inst i).enable = false) fun d =>
    let d := ((d.setInst i (Inst.writeRegs r)).sendPending i).setInst i fun x => { x.writeContexts r with enable := true }
    d.setCrane fun c => { c with queues := c.queues ++ (d.inst i).firstQueues i }) ∧
  (∀ (i : Fin 36992) (r : FuncRegs), Runs (.craneEnable i r) (fun d => 4096 ≤ i.val ∧ d.isFunc i = true) fun d =>
    (d.setInst i (Inst.writeUnbound r)).sendPending i) ∧
  (∀ (i : Fin 36992) (m : Nat), Runs (.h2mPost i m) (fun d => 4096 ≤ i.val ∧ d.isFunc i = true) fun d =>
    d.setInst i fun x => { x with h2m := mailbox m }) ∧
  (∀ (i : Fin 36992) (m : Nat), Runs (.h2mPost i m) (fun d => i.val < 4096 ∧ (d.inst i).bound = true ∧ (d.inst i).h2mPost = false) fun d =>
    (d.setInst i fun x => { x with h2m := mailbox m, h2mPost := true }).raiseTo [i.val]
      (info (sourceId 13 0) 0x8005 0 (0x1000 + i) (i + bits m 16 16 * 2 ^ 16))) ∧
  (∀ (i : Fin 36992) (req : Nat), Runs (.capRequest i req) (fun d => d.isFunc i = true ∧ (d.inst i).capGo = false) fun d =>
    let d := d.setInst i fun x => { x with capReq := capReg req, capGo := true, capRelease := false }
    let st := d.instCapCheck i req
    if st ≠ 0 then d.answerCap (.inst i) (capResponse st [])
    else
      let e := d.capAsk (d.slotOfInst i) req (.inst i)
      match d.capNow (d.slotOfInst i) req (.inst i) with
      | some r => e.answerCap (.inst i) r
      | none => e) ∧
  (∀ (i : Fin 36992) (req : Nat), Runs (.capRelease i req) (fun d => d.isFunc i = true ∧ (d.inst i).capGo = false) fun d =>
    let d := d.setInst i fun x => { x with capReq := capReg req, capGo := true, capRelease := true }
    let n := bits req 0 16
    if (((d.inst i).bound || (d.inst i).function == 0) && decide (some (n / 16) = d.slotOfInst i ∧ 8 ≤ n % 16 ∧ bits req 16 16 = 0 ∧ bits req 96 32 = 0) &&
        d.inBerth n (bits req 64 32) (bits req 32 32)) = true then
      (d.unmap n (bits req 64 32) (bits req 32 32)).answerCap (.inst i) (capResponse 0 [])
    else d.answerCap (.inst i) (capResponse 3 []))

/-- O42. Instances complete (R250 to R259): the managers' acknowledgement empties the mailbox and their message fills it and
raises its vector; INST_CONFIG configures an instance; INST_RESET resets one, as a function-level reset does, that of function
0 resets every function of the quay, that of a function with no instance clears its registers, and a clear of VF Enable resets
the VFs; a drain that lasts too long is cut off. The model's own choices in it: log entry 73. -/
def Obligations.InstancesComplete : Prop :=
  (∀ (c : Call) (v : Nat), Writes (.mboxH2mAck c v) c Obj.mboxH2mAck v (fun _ => valueOf c v < 4096) fun _ d =>
    d.setInst (valueOf c v) fun x => { x with h2mPost := false }) ∧
  (∀ (c : Call) (v : Nat), Writes (.mboxM2h c v) c Obj.mboxM2h v
    (fun d => bits (valueOf c v) 0 16 < 4096 ∧ (d.inst (bits (valueOf c v) 0 16)).m2hValid = false) fun _ d =>
    (d.setInst (bits (valueOf c v) 0 16) fun x => { x with m2h := mailbox (bits (valueOf c v) 64 16384), m2hValid := true }).msix
      (bits (valueOf c v) 0 16) (d.inst (bits (valueOf c v) 0 16)).mboxVector) ∧
  (∀ (c : Call) (v : Nat), Writes (.instConfig c v) c Obj.instConfig v (fun d => checkInstConfig (valueOf c v) d = 0) fun _ d =>
    let i := bytesAt (valueOf c v) 0 2
    let x := d.inst i
    let y := x.configured (valueOf c v)
    let y := if x.enable && x.model == 0 then
      { y with maxQueues := x.maxQueues, nextMaxQueues := if y.maxQueues = x.maxQueues then none else some y.maxQueues } else y
    let old : Tab Nat := (List.range 16).foldl (fun t e => Tab.set 0 t e (x.shareOn e)) []
    let d := (d.setInst i fun _ => { y with shares := if x.bound then old else [] }).rebind i x y
    if x.model ≠ y.model ∨ x.share ≠ y.share ∨ x.maxQueues ≠ y.maxQueues ∨ x.quota ≠ y.quota ∨ x.berthMask ≠ y.berthMask then
      d.resourceEvent i
    else d) ∧
  (∀ (c : Call) (v : Nat), Writes (.instReset c v) c Obj.instReset v (fun _ => valueOf c v < 4096) fun _ d => d.resetInst (valueOf c v)) ∧
  (∀ i : Fin 36992, Runs (.functionLevelReset (.function i)) (fun d => (d.inst i).bound = true ∧ (d.inst i).function ≠ 0)
    (Dev.resetInst i)) ∧
  (∀ i : Fin 36992, Runs (.functionLevelReset (.function i))
    (fun d => (4096 ≤ i.val ∨ (d.inst i).bound = true) ∧ (d.inst i).function = 0) fun d => d.resetQuayFuncs (d.inst i).quay) ∧
  (∀ i : Fin 36992, Runs (.functionLevelReset (.function i))
    (fun d => 4096 ≤ i.val ∧ (d.inst i).bound = false ∧ (d.inst i).function ≠ 0) fun d =>
    d.clearFuncs fun q g => q == (d.inst i).quay && g == (d.inst i).function) ∧
  (∀ q : Fin 128, Runs (.functionLevelReset (.vfEnable q)) anyTime (Dev.clearVfs q)) ∧
  (∀ i : Fin 4096, Runs (.instDrainExpiry i) (fun d => (d.inst i).resetting = true) fun d =>
    (d.setCrane fun c => { c with
      queues := c.queues.map fun q => if q.inst = i.val then { q with exec := q.exec.map Desc.cutOff } else q }).finishReset i)

/-! ZMP and its sessions (R285 to R316). -/

/-- O43. The ZMP operations complete: READ, DESCRIBE and NEXT answer their caller; WRITE and WRITE_CAS act as the object's own
write with no EXPECT_SEQ and with that one; a frame with a sound header, from the binding of its session, reaches it, IDENTIFY
is answered with the identity. The model's own choices in it: log entries 26, 27 and 28. -/
def Obligations.ZmpOperationsComplete : Prop :=
  (∀ (c : Call) (o : ObjRef), Runs (.read c o) (fun d => d.callerOpen c.caller = true) fun d =>
    (d.readOp c.caller (keyOf o)).1.send (.answer c.caller (d.readOp c.caller (keyOf o)).2)) ∧
  (∀ (c : Call) (o : ObjRef), Runs (.describe c o) (fun d => d.callerOpen c.caller = true) fun d =>
    d.send (.answer c.caller (d.describeOp c.caller (keyOf o)))) ∧
  (∀ (c : Call) (o : ObjRef), Runs (.next c o) (fun d => d.callerOpen c.caller = true) fun d =>
    d.send (.answer c.caller (d.nextOp (keyOf o)))) ∧
  (∀ (c : Call) (o : ObjRef) (v : Nat), Writes (.write c o v) { c with expect := none } (keyOf o) v
    (fun d => (actOf (keyOf o)).check { c with expect := none } (valueOf c v) d = 0)
    ((actOf (keyOf o)).effect { c with expect := none } (valueOf c v))
    (r := fun d => (actOf (keyOf o)).reply { c with expect := none } (valueOf c v) d.nextSeq d) (after := Dev.messageEnd)) ∧
  (∀ (c : Call) (o : ObjRef) (seq v : Nat), Writes (.writeCas c o seq v) { c with expect := some seq } (keyOf o) v
    (fun d => (actOf (keyOf o)).check { c with expect := some seq } (valueOf c v) d = 0)
    ((actOf (keyOf o)).effect { c with expect := some seq } (valueOf c v))
    (r := fun d => (actOf (keyOf o)).reply { c with expect := some seq } (valueOf c v) d.nextSeq d) (after := Dev.messageEnd)) ∧
  (∀ (f : Frame) (slot : Nat) (m : ZmpMsg) (x : Session), Runs (.zmpFrame f)
    (fun d => d.hearsFrame f.binding = true ∧ f.magic = 0x5A4D ∧ f.version = 1 ∧ f.lenOk = true ∧ f.bodyLen ≤ 4224 ∧
      f.body = .secured slot m ∧ d.session slot = some x ∧ x.binding = f.binding.address) (Dev.zmpMessage x m)) ∧
  (∀ b : Binding, Runs (.identify b) (fun d => d.hearsFrame b = true) fun d => d.send (.frame b 3 d.identity))

/-- O44. Events, answers and sessions complete (R298, R306, R309, R310): EVENT_ACK forgets the events up to its number, the
retry sends the rest again, a deferred answer that is ready is sent as its event, a session is closed by its own command and
ends when its heartbeat stops. The model's own choices in it: log entries 22 and 29. -/
def Obligations.SessionsComplete : Prop :=
  (∀ slot seq : Nat, Runs (.eventAck slot seq) anyTime fun d =>
    d.setSession slot fun x => { x with unacked := x.unacked.filter fun e => decide (seq < e.seq) }) ∧
  Runs .eventRetry anyTime (fun d =>
    d.sendAll (d.mgmt.sessions.flatMap fun x => x.unacked.map fun e => .event x.slot false e)) ∧
  (∀ slot seq status value : Nat, Runs (.commandAnswer slot seq status value)
    (fun d => d.mgmt.ready.contains (slot, seq, status, value) = true) fun d =>
    (d.setMgmt fun m => { m with ready := m.ready.erase (slot, seq, status, value), due := m.due.erase (slot, seq) }).raise
      (info 0 0x8003 0 0xFFFF (status + seq * 2 ^ 64 + (if status = 0 then value % 2 ^ 128 else 0) * 2 ^ 128))) ∧
  (∀ (c : Call) (v : Nat), Writes (.sessionClose c v) c Obj.sessionClose v anyTime
    (fun _ d => if (d.session (valueOf c v)).isSome then d.later (.close (valueOf c v)) else d) (after := Dev.messageEnd)) ∧
  (∀ slot : Nat, Runs (.heartbeatTimeout slot) (fun d => (d.session slot).isSome = true) (Dev.dropSession slot))

/-- O45. Configuration and groups complete (R290, R291, R307, R308): STORE stores every persistent-on-commit object;
RESTORE_DEFAULTS, in Slipway, restores the objects, unbinds the instances and is the LAST_SEQ of what it restores; GROUP_CLAIM
makes the caller the master of a group and tells a master it replaces; GROUP_RELEASE leaves the group without one. The model's
own choices in it: log entries 18, 23 and 24. -/
def Obligations.ConfigurationCompletes : Prop :=
  (∀ (c : Call) (v : Nat), Writes (.store c v) c Obj.store v anyTime (fun _ d => pocKeys.foldl Dev.storeOne d)
    (after := Dev.messageEnd)) ∧
  (∀ (c : Call) (v : Nat), Writes (.restoreDefaults c v) c Obj.restoreDefaults v (fun d => d.mode = 0)
    (fun n d => ((d.restoreObjects c n).unbindAll).markRestored n) (after := Dev.messageEnd)) ∧
  (∀ (c : Call) (g : Nat), Writes (.groupClaim c g) c Obj.groupClaim g (fun d => checkGroup c (valueOf c g) d = 0)
    (fun n d =>
      let old := d.get (Obj.groupMaster (valueOf c g))
      let new := d.callerCred c.caller
      let d := d.marking [Obj.groupMaster (valueOf c g)] n fun d => d.put (Obj.groupMaster (valueOf c g)) new
      if old = 0xFF ∨ old = new then d
      else d.raiseFor (fun s => s.cred == old)
        (info 0 0x8002 0 0xFFFF (0x1050 + valueOf c g * 2 ^ 16 + n * 2 ^ 64 + new * 2 ^ 128)))
    (after := Dev.messageEnd)) ∧
  (∀ (c : Call) (g : Nat), Writes (.groupRelease c g) c Obj.groupRelease g (fun d => checkGroup c (valueOf c g) d = 0)
    (fun n d => d.marking [Obj.groupMaster (valueOf c g)] n fun d => d.put (Obj.groupMaster (valueOf c g)) 0xFF)
    (after := Dev.messageEnd))

/-- O46. Fabric time completes (R311, R312): a measurement of the selected source sets the offset and the state, counts the
good offsets and aligns the time; a source that is lost leaves HOLDOVER and raises Type 49; TIME_SOURCE is written, and a
change of it loses the lock. The model's own choices in it: log entry 32. -/
def Obligations.FabricTimeCompletes : Prop :=
  (∀ (src : Fin 5) (offset : Int), Runs (.timeMeasurement src offset) (fun d => d.measures src = true) fun d =>
    let run := d.goodRun offset
    let d := d.putAll [(Obj.timeOffset, clampI32 offset), (Obj.timeState, timeStateAfter (d.get Obj.timeState) run)]
    (d.setMgmt fun m => { m with goodOffsets := run }).align offset) ∧
  Runs .timeHoldover (fun d => d.get Obj.timeSource ≠ 0 ∧ d.get Obj.timeState ≠ 3) (fun d =>
    ((d.put Obj.timeState 3).setMgmt fun m => { m with goodOffsets := 0, slew := 0, slewRun := 0 }).err { typ := 49, inst := 0 }) ∧
  (∀ (c : Call) (v : Nat), Writes (.timeSourceWrite c v) c Obj.timeSource v anyTime
    (fun n d => if valueOf c v = d.get Obj.timeSource then d
      else d.marking [Obj.timeState] n fun d => (d.put Obj.timeSource (valueOf c v)).loseLock (if valueOf c v = 0 then 0 else 1))
    (after := Dev.messageEnd))

/-! The FM API, PLDM and MCTP (R313, R314). -/

/-- O47. The FM API's commands complete on a transport that may carry them: they read the switch and its ports, reset a port
as QUAY_DOWN and QUAY_RELEASE do, answer a command that is not listed with Unsupported, show, bind and unbind virtual bridges,
send a tunnelled request to a multi-logical device at a Downstream quay that is UP, add and release dynamic capacity as the
Manifest's commands do, read and clear event records, and carry a ZMP message. The model's own choices in it: log entries 33,
34 and 35. -/
def Obligations.FmApiCompletes : Prop :=
  (∀ b : Binding, Runs (.identifySwitchDevice b) (fun d => d.fmOpen b = true) fun d =>
    ((identityKeys.foldl (fun d o => d.fmRead o) d).fm FmCmd.identify 0 0).messageEnd) ∧
  (∀ (b : Binding) (l : List Nat), Runs (.getPhysicalPortState b l) (fun d => d.fmOpen b = true) fun d =>
    ((((l.filter fun q => decide (q < 128)).flatMap quayKeys).foldl (fun d o => d.fmRead o) d).fm FmCmd.portState 0 0).messageEnd) ∧
  (∀ (b : Binding) (q : Fin 128), Runs (.resetPpb b (.resetPpb q)) (fun d => d.fmOpen b = true) fun d =>
    (d.fmDo FmCmd.portControl [(Obj.quayDown, q.val), (Obj.quayRelease, q.val)]).messageEnd) ∧
  (∀ (b : Binding) (code : Nat), Runs (.resetPpb b (.other code)) (fun d => d.fmOpen b = true) fun d =>
    (d.fm code FmStatus.unsupported 0).messageEnd) ∧
  (∀ (b : Binding) (q : Fin 128), Runs (.getVirtualCxlSwitchInfo b q) (fun d => d.fmOpen b = true ∧ d.role q = 1) fun d =>
    (d.fm FmCmd.switchInfo 0 (d.switchInfo q)).messageEnd) ∧
  (∀ (b : Binding) (q : Fin 128) (v t : Nat), Runs (.bindVppb b q v t) (fun d => d.fmOpen b = true ∧ d.bindable q v t = true) fun d =>
    ((d.setMgmt fun m => { m with vppbs := m.vppbs ++ [(q.val, v, t)] }).fm FmCmd.bind 0 0).messageEnd) ∧
  (∀ (b : Binding) (q : Fin 128) (v : Nat), Runs (.unbindVppb b q v)
    (fun d => d.fmOpen b = true ∧ d.mgmt.vppbs.any (fun p => p.1 == q.val && p.2.1 == v) = true) fun d =>
    ((d.setMgmt fun m => { m with
      vppbs := m.vppbs.filter fun p => !(p.1 == q.val && p.2.1 == v) }).fm FmCmd.unbind 0 0).messageEnd) ∧
  (∀ (b : Binding) (q : Fin 128) (body : Nat), Runs (.tunnelManagementCommand b q body)
    (fun d => d.fmOpen b = true ∧ d.role q = 2 ∧ d.isUp q = true ∧ d.multiLogical q = true) fun d => (d.issue (tunnelRequest q body)).messageEnd) ∧
  (∀ (b : Binding) (req : Nat), Runs (.initiateDynamicCapacityAdd b (.free req)) (fun d => d.fmOpen b = true) fun d =>
    (d.fmDo FmCmd.capacityAdd [(Obj.allocGrant, req)]).messageEnd) ∧
  (∀ (b : Binding) (l : List Nat) (a : Nat), Runs (.initiateDynamicCapacityAdd b (.prescriptive l a)) (fun d => d.fmOpen b = true) fun d =>
    (d.fmDo FmCmd.capacityAdd (l.map (fun w => (Obj.ledgerWrite, w)) ++ [(Obj.extentAnnounce, a)])).messageEnd) ∧
  (∀ (b : Binding) (n : Fin 1024) (first pages : Nat), Runs (.initiateDynamicCapacityRelease b n first pages)
    (fun d => d.fmOpen b = true ∧ d.inBerth n first pages = true) fun d =>
    ((effCapacityRelease n first pages d).fm FmCmd.capacityRelease 0 0).messageEnd) ∧
  (∀ (b : Binding) (count : Nat), Runs (.getEventRecords b count) (fun d => d.fmOpen b = true) fun d =>
    (d.fm FmCmd.getEvents 0 (packRecords (d.recordsAfter d.mgmt.fmPointer count))).messageEnd) ∧
  (∀ (b : Binding) (upTo : Nat), Runs (.clearEventRecords b upTo) (fun d => d.fmOpen b = true) fun d =>
    ((d.setMgmt fun m => { m with fmPointer := max m.fmPointer upTo }).fm FmCmd.clearEvents 0 0).messageEnd) ∧
  (∀ (b : Binding) (m : ZmpMsg), Runs (.zmpTunnel b m) (fun d => d.fmOpen b = true) fun d =>
    ((d.runMessage .fmApi m).1.send (.response 0 (d.runMessage .fmApi m).2)).messageEnd)

/-- O48. PLDM and MCTP control complete (R313): the base commands and a sensor's reading are answered; an update is taken by
the recovery loader over I3C and SMBus, or by a device whose PLDM update is enabled, into the slot that does not run; the MCTP
types are listed. The model's own choices in it: log entries 36, 37, 38 and 39. -/
def Obligations.PldmAndMctpComplete : Prop :=
  (∀ (b : Binding) (a : Nat), Runs (.pldmBaseCommand b 4 a) (fun d => d.hearsMctp b = true) fun d => d.pldm 4 0 0x25) ∧
  (∀ (b : Binding) (n o : Nat), Runs (.pldmPlatformCommand b (.sensorReading n))
    (fun d => d.hearsMctp b = true ∧ sensorKey n = some o ∧ d.exists' o = true) fun d => d.pldm PldmCode.getReading 0 (d.view .fmApi o)) ∧
  (∀ (b : Binding) (i : ImageUpdate), Runs (.pldmFirmwareUpdate b i)
    (fun d => d.boot = .running ∧ d.hearsMctp b = true ∧ d.get Obj.pldmUpdateEnable = 1 ∧ d.capsManager b = true) fun d =>
    (d.update d.updateSlot i.image).pldm 0 0 (b2n (d.imageValid i.image))) ∧
  (∀ (b : Binding) (i : ImageUpdate) (s : State), s.dev.boot = .loader → (b.transport = 3 ∨ b.transport = 4) →
    exec (.pldmFirmwareUpdate b i) s = .next { s with dev := s.dev.loaderUpdate b i }) ∧
  (∀ (b : Binding) (a : Nat) (s : State), s.dev.mctpOpen b = true →
    exec (.mctpControl b 5 a) s = .next { s with dev := s.dev.send (.proto 2 5 0 mctpTypes) })

/-! Tide: the core supplies (R319 to R330). -/

/-- O49. AVS, the droop monitor and the governor complete while the core runs: an AVS update records the rate, counts the calm
updates and asks VCORE for five millivolts more or less within its bounds; a droop is counted once until it ends; below 0.55 V
Type 43 is collected; a governor window moves the ceiling and the estimate towards the demand, warning of a large step; the
lead of a forewarning ends in its ramp, and the ramp releases TIDE_FORE_N. The model's own choices in it: log entries 76 and
77. -/
def Obligations.GovernorCompletes : Prop :=
  (∀ rate : Nat, Runs (.avsUpdate rate) (fun d => d.coreOn = true) fun d =>
    let calm := if d.tide.raised = true then 0 else min 20 (d.tide.calm + 1)
    let d := (d.put Obj.coreRate (min rate 4000)).setTide fun t => { t with calm := calm, raised := false }
    let floor := 600 + d.get Obj.droopMargin
    let was := if d.tide.vcore = 0 then floor else d.tide.vcore
    let want := if rate < d.rateTarget then was + 5
      else if d.rateTarget * 103 < rate * 100 ∧ calm = 20 then was - 5 else was
    if clamp floor 900 want = d.tide.vcore then d else d.requestVcore (clamp floor 900 want)) ∧
  Runs (.droop true) (fun d => d.coreOn = true ∧ d.tide.droop = false) (fun d =>
    ((d.count Obj.droopEvents 1).event 0xC400 0x62 1 {}).setTide fun t => { t with droop := true }) ∧
  Runs (.droop false) (fun d => d.coreOn = true) (fun d => d.setTide fun t => { t with droop := false }) ∧
  (∀ volts : Nat, Runs (.droopFatal volts) (fun d => d.coreOn = true ∧ volts * 100 < 55 * 65536)
    (Dev.collect { typ := 43, inst := 0, detail := volts })) ∧
  (∀ demand : Nat, Runs (.governorWindow demand)
    (fun d => d.coreOn = true ∧ d.chained = false ∧ d.tide.fore.isSome = true) fun d =>
    let target := min demand d.tide.cap
    let ceil := min (d.get Obj.currentCeiling) d.tide.cap
    let up := if d.tide.droop = true then ceil else max ceil (min (d.riseTo target) (ceil + d.windowRise))
    let next := d.estimate (min demand up)
    let ceil' := if target < ceil then max target next else up
    ((if up < demand then d.event 0xC400 0x60 100 {} else d).putAll [(Obj.coreCurrentEst, next), (Obj.currentCeiling, ceil')]).setTide
      fun t => { t with demand := demand, raised := t.raised || decide (d.get Obj.currentCeiling < ceil') }) ∧
  Runs .foreLeadExpiry anyTime (fun d =>
    d.setTide fun t => { t with fore := t.fore.map fun f => { f with ramping := true } }) ∧
  (∀ f : Fore, Runs .foreRampEnd (fun d => d.tide.fore = some f ∧ f.ramping = true) fun d =>
    (d.setTide fun t => { t with fore := none }).send (.pin Pin.fore 1))

/-- O50. The chain and the reading of a rail complete (R320, R325 to R328): while the chain is enabled, a sound frame of
another device is forwarded, and an announced step is noted; while it is not, a frame is ignored; the first device sends the
heartbeat; a broken chain is reported once as Type 48; a rail's reading is taken, and the first that fails is reported. The
model's own choices in it: log entry 79. -/
def Obligations.ChainAndRailsComplete : Prop :=
  (∀ f : Nat, Runs (.syncFrame f)
    (fun d => d.get Obj.syncEnable ≠ 0 ∧ frameOk f = true ∧ bits f 27 5 ≠ (d.put Obj.syncState 1).get Obj.syncPosition) fun d =>
    let d := (d.put Obj.syncState 1).forwardFrame f
    if bits f 25 2 = 0 then d.noteStep f else d) ∧
  (∀ f : Nat, Runs (.syncFrame f) (fun d => d.get Obj.syncEnable = 0) fun d => d) ∧
  Runs .syncHeartbeat (fun d => d.get Obj.syncEnable = 1 ∧ d.get Obj.syncPosition = 0) (fun d => d.send (.sync (chainFrame 2 0 0 0))) ∧
  Runs .syncBroken (fun d => d.get Obj.syncEnable = 1 ∧ d.get Obj.syncState ≠ 2) (fun d =>
    (d.put Obj.syncState 2).err { typ := 48, inst := 0 }) ∧
  (∀ (r : Fin 6) (v i m : Nat), Runs (.railPmbusRead r (some (v, i, m)))
    (fun d => d.busFree 48 = true ∧ voutLinear m = true ∧ (d.railSends r).get (Obj.busState 48) ≠ 2)
    fun d =>
    ((d.railSends r).putAll
      [(Obj.railVoltage r, pmbusValue 1 m v 65536), (Obj.railCurrent r, pmbusValue 0 0 i 65536)]).setTide
      fun t => { t with silent := setBit t.silent r false })

/-! Slots and backplanes (R331 to R338). -/

/-- O51. A slot is seated and powered (R331 to R335): presence makes it PRESENT and lets its quay train; its seat is noted;
after the debounce a slot that is not cooling down becomes SEATED, waits for a decision, or powers by itself; SLOT_POWER 1
powers a SEATED slot; with its supply the slot ramps with its gate on, its quay and SLOT_AUTO_ON taken as they are then;
power-good makes it POWERED; after PERST_DELAY its PERST is released. A slot loses power (R332 to R337): SLOT_POWER 0 turns it
off; presence or the seat that goes takes its gate away; a current limit starts the fault timer, which trips the slot unless
the current recovers; a hard trip trips it at once; after its cool-down it waits to retry, or is LATCHED and reported as Type
13 once its retries are spent; a retry ramps again; a reset of the fault leaves it SEATED; a low input warns. The model's own
choices in it: log entry 80. -/
def Obligations.SlotPowerCompletes : Prop :=
  (∀ n : Fin 48, Runs (.slotPresence n) (fun d => d.slotState n = 0) fun d =>
    let d := ((d.put (Obj.slotState n) 1).setFlag n Flag.present true).setFlag n Flag.perst true
    let d := d.setSlot n fun c => { c with steady := d.flag n Flag.seated }
    match d.quayOfSlot n with
    | some q => (d.setQuay q fun k => { k with downBy := if k.downBy = .presence then .none else k.downBy }).tryTrain q
    | none => d) ∧
  (∀ n : Fin 48, Runs (.slotSeatEdge n true) anyTime fun d =>
    (d.setFlag n Flag.seated true).setSlot n fun c => { c with steady := true }) ∧
  (∀ n : Fin 48, Runs (.seatDebounceEnd n)
    (fun d => d.slotState n = 1 ∧ (d.slotCh n).steady = true ∧ (d.slotCh n).cooling = false) fun d =>
    if (d.slotCh n).auto = 0 then d.put (Obj.slotState n) 2
    else if d.assisted 6 = true then d.decideSlot n
    else d.put (Obj.slotState n) 4) ∧
  (∀ (c : Call) (n : Fin 48), Writes (.slotPowerOn c n) c (Obj.slotPower n) 1 (fun _ => 1 ≤ c.len) fun _ d =>
    if d.slotState n = 2 then d.put (Obj.slotState n) 4 else d) ∧
  (∀ n : Fin 48, Runs (.slotRampStart n) (fun d => d.slotState n = 4 ∧ d.supplyOn n = true) fun d =>
    let rate := (d.slotCh n).rate.getD (d.get (Obj.rampRate n))
    let d := ((d.put (Obj.slotState n) 5).setSlot n fun c => { c with
      rate := none, limited := false, supply := d.get (Obj.slotSupply n) }).takeSlot n
    ((if d.flag n Flag.warn = true then d.slotWarn n false else d).setFlag n Flag.perst true).send (.pin (Pin.gate n) rate)) ∧
  (∀ n : Fin 48, Runs (.slotPowerGood n) (fun d => d.flag n Flag.timer = false ∧ d.slotState n = 5) fun d =>
    ((d.put (Obj.slotState n) 6).setFlag n Flag.good true).setSlot n fun c => { c with perstDue := d.coreOn }) ∧
  (∀ n : Fin 48, Runs (.perstDelayExpiry n) (fun d => d.slotState n = 6 ∧ (d.slotCh n).perstDue = true ∧ d.coreOn = true) fun d =>
    (d.slotPerst n false).setSlot n fun c => { c with perstDue := false }) ∧
  (∀ (c : Call) (n : Fin 48), Writes (.slotPowerOff c n) c (Obj.slotPower n) 0 anyTime fun _ d => d.slotOff n 2) ∧
  (∀ n : Fin 48, Runs (.slotSeatEdge n false)
    (fun d => ((d.setFlag n Flag.seated false).setSlot n fun c => { c with steady := false }).gateOn n = true) fun d =>
    let d := (d.setFlag n Flag.seated false).setSlot n fun c => { c with steady := false }
    (d.slotWarn n true).gateOff n 1) ∧
  (∀ n : Fin 48, Runs (.slotPresenceLost n) (fun d => d.slotState n ≠ 0) fun d =>
    let d := ((d.gateOff n 0).setFlag n Flag.present false).setFlag n Flag.warn false
    let d := d.setSlot n fun c => { c with retries := 0, steady := false, rate := none }
    let d := d.setModes fun m => { m with decisions := m.decisions.filter fun x => !(x.fn == 6 && x.subject == n.val) }
    match d.quayOfSlot n with
    | some q => if d.role q = 2 then d.downByDevice q .presence else d
    | none => d) ∧
  (∀ n : Fin 48, Runs (.slotCurrentLimit n) (fun d => d.gateOn n = true) fun d =>
    let d := ((d.setFlag n Flag.limit true).setFlag n Flag.timer true).setSlot n fun c => { c with limited := true }
    if d.flag n Flag.good = true then d.slotWarn n true else d) ∧
  (∀ n : Fin 48, Runs (.slotCurrentRecover n) anyTime fun d => (d.setFlag n Flag.limit false).setFlag n Flag.timer false) ∧
  (∀ n : Fin 48, Runs (.faultTimerExpiry n) (fun d => d.gateOn n = true ∧ d.flag n Flag.timer = true) (Dev.trip n)) ∧
  (∀ n : Fin 48, Runs (.slotHardTrip n) (fun d => d.gateOn n = true) (Dev.trip n)) ∧
  (∀ n : Fin 48, Runs (.slotCooldownEnd n) (fun d => (d.slotCh n).cooling = true) fun d =>
    let c := d.slotCh n
    let d := d.setSlot n fun c => { c with cooling := false }
    if d.slotState n = 7 then
      if c.limit = 255 ∨ c.retries < c.limit then d.put (Obj.slotState n) 8
      else (d.put (Obj.slotState n) 9).err { typ := 13, inst := n, unit := n }
    else d) ∧
  (∀ n : Fin 48, Runs (.retryDelayExpiry n) (fun d => d.slotState n = 8) fun d =>
    (d.put (Obj.slotState n) 4).setSlot n fun c => { c with retries := c.retries + 1 }) ∧
  (∀ (c : Call) (n : Fin 48) (v : Nat), Writes (.slotResetFault c n v) c (Obj.slotResetFault n) v anyTime fun _ d =>
    if d.slotState n = 9 then (d.put (Obj.slotState n) 2).setSlot n fun c => { c with retries := 0 } else d) ∧
  (∀ n : Fin 48, Runs (.slotInputLow n) anyTime fun d => d.slotWarn n true)

/-- O52. A backplane channel (R338): BP_ENABLE 1 starts the pre-charge of a channel that is OFF, and 0 turns it off; the
bypass follows the pre-charge, which ends in COOLDOWN when it takes too long; the cool-down, and an overcurrent of a channel
that is ON, latch it and raise Type 14; BP_RESET_FAULT starts a LATCHED channel again. The model's own choices in it: log
entry 80. -/
def Obligations.BackplanesComplete : Prop :=
  (∀ (c : Call) (b : Fin 2) (v : Nat), Writes (.bpEnableWrite c b v) c (Obj.bpEnable b) v anyTime fun _ d =>
    let d := d.put (Obj.bpEnable b) (valueOf c v)
    if valueOf c v = 0 then d.setBp b 0 else if d.get (Obj.bpState b) = 0 then d.setBp b 1 else d) ∧
  (∀ b : Fin 2, Runs (.bpPrechargeDone b) (fun d => d.get (Obj.bpState b) = 1) fun d => d.setBp b 2) ∧
  (∀ b : Fin 2, Runs (.bpPrechargeExpiry b) (fun d => d.get (Obj.bpState b) = 1) fun d => d.setBp b 3) ∧
  (∀ b : Fin 2, Runs (.bpCooldownEnd b) (fun d => d.get (Obj.bpState b) = 3) fun d =>
    (d.setBp b 4).err { typ := 14, inst := b, unit := b }) ∧
  (∀ b : Fin 2, Runs (.bpOvercurrent b) (fun d => d.get (Obj.bpState b) = 2) fun d =>
    ((d.setBp b 4).count (Obj.bpTripCount b) 1).err { typ := 14, inst := b, unit := b }) ∧
  (∀ (c : Call) (b : Fin 2) (v : Nat), Writes (.bpResetFault c b v) c (Obj.bpResetFault b) v anyTime fun _ d =>
    if d.get (Obj.bpState b) = 4 then d.setBp b 1 else d)

/-! Breakwater (R340 to R366). -/

/-- O53. Firmware and SPDM complete (R342 to R352): SVN_COMMIT fuses a running version that is not lower; KEY_SLOT_REVOKE
revokes a slot other than the running one and not the last; the connection's requests are answered outside HARD_ERROR, an
algorithm set is agreed when it offers both, a certificate slot answers when it holds a chain, and a challenge and a
measurement request are signed while the Alias key is held. The model's own choices in it: log entries 39 and 83. -/
def Obligations.FirmwareAndSpdmComplete : Prop :=
  (∀ (c : Call) (v : Nat), Writes (.svnCommit c v) c Obj.svnCommit v (fun d => d.get Obj.svnFused ≤ d.runningSvn) fun n d =>
    d.marking [Obj.svnFused] n (Dev.put Obj.svnFused d.runningSvn)) ∧
  (∀ (c : Call) (v : Nat), Writes (.keySlotRevoke c v) c Obj.keySlotRevoke v
    (fun d => d.bw.running.map (·.keySlot) ≠ some (valueOf c v) ∧ setBit (d.get Obj.keySlotsRevoked) (valueOf c v) true ≠ 15) fun n d =>
    d.marking [Obj.keySlotsRevoked] n (Dev.put Obj.keySlotsRevoked (setBit (d.get Obj.keySlotsRevoked) (valueOf c v) true))) ∧
  (∀ b : Binding, Runs (.getVersion b) (fun d => d.hearsSpdm b = true ∧ d.spdmOff = false) (fun d => d.spdm 0x84 0 0x1213)) ∧
  (∀ b : Binding, Runs (.getCapabilities b) (fun d => d.hearsSpdm b = true ∧ d.spdmOff = false) (fun d => d.spdm 0xE1 0 spdmCapabilities)) ∧
  (∀ (b : Binding) (offered : Nat), Runs (.negotiateAlgorithms b offered)
    (fun d => d.hearsSpdm b = true ∧ d.spdmOff = false ∧ bits offered 0 2 = 3) fun d =>
    d.spdm 0xE3 0 (bits offered 0 5)) ∧
  (∀ b : Binding, Runs (.getDigests b) (fun d => d.hearsSpdm b = true ∧ d.spdmOff = false) (fun d =>
    d.spdm 0x81 0 (d.get Obj.certSlots + 256 * Config.spdmAnswer 0x81 (d.bw.bootLayer + 2 ^ 512 * d.bw.chain1.getD 0)))) ∧
  (∀ b : Binding, Runs (.getCertificate b 0) (fun d => d.hearsSpdm b = true ∧ d.spdmOff = false ∧ d.bw.certPresent = true) (fun d =>
    d.spdm 0x82 0 (Config.spdmAnswer 0x82 d.bw.bootLayer))) ∧
  (∀ (b : Binding) (slot nonce : Nat), Runs (.challenge b slot nonce) (fun d => d.hearsSpdm b = true ∧ d.spdmOff = false ∧ d.signs = true ∧ d.hasChain slot = true) fun d =>
    d.randomBits.spdm 0x83 0 (Config.spdmAnswer 0x83 nonce)) ∧
  (∀ (b : Binding) (nonce : Nat), Runs (.getMeasurements b 0 nonce) (fun d => d.hearsSpdm b = true ∧ d.spdmOff = false ∧ d.signs = true)
    fun d => d.randomBits.spdm 0xE0 0 6)

/-- O54. Secure sessions and links complete (R296, R349, R351 to R355): in a ZMP frame, a key exchange with a proof and a
known certificate, and one with a pre-shared key that is known and can be unwrapped, open a session; a session is ended, and
its keys are updated; a certificate chain that ends in the device's key is stored for a Security Officer; CREDENTIAL is
written and ends the sessions it opened; a requester draws and sends the keys of an IDE stream once the partner's root is
known, a responder takes them, and they are retired; IDE_REQUIRED is stored. IDE key sets change (R353 to R355): a set that is
keyed goes into use, and a new active set counts as an update; a stopped stream is dropped; the requester's rekey programs the
other set with fresh keys and uses it. The model's own choices in it: log entries 9, 12 and 83. -/
def Obligations.SecureSessionsComplete : Prop :=
  (∀ (b : Binding) (k : KeyExchange) (n : Nat), Runs (.keyExchange b k)
    (fun d => d.hearsSpdm b = true ∧ d.spdmOff = false ∧ directSpdm b = false ∧ (d.signs = true ∨ d.get Obj.debugLevel = 3) ∧ k.proofOk = true ∧
      d.credOfLeaf k.leaf = some n) fun d => d.openSession b 0xE4 n) ∧
  (∀ (b : Binding) (hint n : Nat), Runs (.pskExchange b hint true)
    (fun d => d.hearsSpdm b = true ∧ d.spdmOff = false ∧ directSpdm b = false ∧
      d.findCred (fun v => credKind v == 2 && credHint v == hint) = some n ∧ (d.preShared n).isSome = true) fun d =>
    d.openSession b 0xE6 n) ∧
  (∀ slot : Nat, Runs (.endSession slot) (fun d => (d.session slot).isSome = true) fun d => (d.spdm 0xEC 0 slot).dropSession slot) ∧
  (∀ slot : Nat, Runs (.keyUpdate slot) (fun d => (d.session slot).isSome = true) fun d =>
    (d.setSession slot fun x => { x with keyUpdates := x.keyUpdates + 1 }).spdm 0xE9 0 slot) ∧
  (∀ (n : Nat) (chain : CertChain) (x : Session), Runs (.setCertificate n 1 chain)
    (fun d => d.session n = some x ∧ 3 ≤ d.sessionRole x ∧ d.bw.udsBlown = false ∧ chain.leafKey = Config.deviceIdPublic) fun d =>
    ((d.setBw fun b => { b with chain1 := some chain.bytes }).put Obj.certSlots (setBit (d.get Obj.certSlots) 1 true)).spdm 0xEE 0 1) ∧
  (∀ (c : Call) (k : Fin 64) (v : Nat), Writes (.credentialWrite c k v) c (Obj.credential (k + 1)) v
    (fun _ => credKind (valueOf c v) ≤ 2 ∧ credRole (valueOf c v) ≤ 3)
    (fun _ d =>
      let d := d.writeCred k (valueOf c v)
      if d.mgmt.sessions.any (fun x => Obj.credential (x.cred + 1) == Obj.credential (k + 1)) = true then
        d.later (.credential (Obj.credential (k + 1) - Obj.credential 1)) else d) (after := Dev.endMessage)) ∧
  (∀ (q : Fin 128) (k : KeyProg), Runs (.keyProg q k)
    (fun d => d.ideServes q k.stream = true ∧ d.ideRequester q = true ∧ d.rootOk q k.root = true) fun d =>
    (d.openKm q).keySub q k.stream k.set k.sub) ∧
  (∀ (q : Fin 128) (k : KeyProg), Runs (.keyProg q k)
    (fun d => d.ideServes q k.stream = true ∧ d.ideRequester q = false) fun d =>
    (d.openKm q).setIde q k.stream (IdeStream.program k.set k.sub (k.key % 2 ^ 256))) ∧
  (∀ (q : Fin 128) (stream : Nat), Runs (.keySetRetirement q stream) (fun _ => stream ≤ 4) fun d => d.setIde q stream IdeStream.retire) ∧
  (∀ (c : Call) (q : Fin 128) (v : Nat), Writes (.ideRequiredWrite c q v) c (Obj.ideRequired q) v anyTime fun _ d =>
    d.put (Obj.ideRequired q) (d.storedOf (Obj.ideRequired q) (valueOf c v))) ∧
  (∀ (q : Fin 128) (stream : Nat) (set : Fin 2), Runs (.kSetGo q stream set true)
    (fun d => stream ≤ 4 ∧ d.ideServes q stream = true ∧ d.bw.km.contains q.val = true ∧
      (d.stream q stream).keyed set = true) fun d =>
    let x := d.stream q stream
    let d := if d.ideRequester q = true then d.send (.ideKm q stream set none) else d
    (if x.st = 2 ∧ x.active ≠ set then d.count (Obj.ideKeyUpdates q) 1 else d).setIde q stream (IdeStream.go set)) ∧
  (∀ (q : Fin 128) (stream : Nat) (set : Fin 2), Runs (.kSetGo q stream set false) (fun d => stream ≤ 4 ∧ d.ideServes q stream = true ∧
      d.bw.km.contains q.val = true) fun d => d.setIde q stream IdeStream.drop) ∧
  (∀ (q : Fin 128) (stream : Nat), Runs (.ideRekey q stream)
    (fun d => stream ≤ 4 ∧ (d.stream q stream).st = 2 ∧ d.ideRequester q = true ∧ d.ideServes q stream = true) fun d =>
    let set := 1 - (d.stream q stream).active
    let d := ((d.keySub q stream set 0).keySub q stream set 1).keySub q stream set 2
    ((d.send (.ideKm q stream set none)).count (Obj.ideKeyUpdates q) 1).setIde q stream (IdeStream.go set))

/-- O55. The self-tests, tampering, and the lifecycle complete (R356 to R364): a reseed takes fresh bits and is counted; a bad
entropy window is counted and gives SOFT_ERROR, the third in a row HARD_ERROR; the self-tests run, those of SELF_TEST after
its message; tampering is counted and gives HARD_ERROR, or a new cause in it; ZEROISE follows its message; a lifecycle change
is armed, and confirmed by the session that armed it; an arming lapses; a debug level is given to a session of its role and
taken back. The model's own choices in it: log entries 40, 81 and 82. -/
def Obligations.LifecycleCompletes : Prop :=
  Runs .drbgReseed anyTime (fun d => (d.drawn.setBw fun b => { b with
    enclave := { b.enclave with drbg := some d.draw, uses := 0, seeded := d.time } }).count Obj.drbgReseeds 1) ∧
  Runs (.entropyHealthWindow true) anyTime (fun d => d.setBw fun b => { b with badWindows := 0 }) ∧
  Runs (.entropyHealthWindow false) anyTime (fun d =>
    let d := (d.count Obj.entropyHealthFailures 1).setBw fun b => { b with badWindows := b.badWindows + 1, entropyBad := true }
    if 3 ≤ d.bw.badWindows then d.hardError 0x500 else d.softError 0 0x500) ∧
  (∀ fails : Nat, Runs (.periodicSelfTest fails) anyTime (Dev.knownAnswers fails)) ∧
  (∀ (c : Call) (v : Nat), Writes (.selfTest c v) c Obj.selfTest v anyTime
    (fun _ d => d.later (.selfTest c.env.katFails)) (after := Dev.endMessage)) ∧
  (∀ kinds : Fin 8, Runs (.tamper kinds) (fun d => kinds ≠ 0 ∧ d.boot ≠ .off ∧ (d.count Obj.tamperCount 1).get Obj.bwState ≠ 3) fun d =>
    (d.count Obj.tamperCount 1).hardError (0x800 + tamperKind kinds)) ∧
  (∀ kinds : Fin 8, Runs (.tamper kinds) (fun d => kinds ≠ 0 ∧ d.boot ≠ .off ∧ (d.count Obj.tamperCount 1).get Obj.bwState = 3) fun d =>
    (d.count Obj.tamperCount 1).errorState (0x800 + tamperKind kinds)) ∧
  (∀ env : Env, Runs (.hardErrorReset env) (fun d => (d.get Obj.bwState = 3 ∧ d.bw.resetDue = true) ∨ d.runningCores = 0) fun d =>
    (d.setBw fun b => { b with resetUsed := true, resetDue := false }).recoveryReset env) ∧
  (∀ (c : Call) (v : Nat), Writes (.zeroise c v) c Obj.zeroise v anyTime (fun _ d => d.later .zeroise) (after := Dev.endMessage)) ∧
  (∀ (c : Call) (v : Nat), Writes (.lifecycleArm c v) c Obj.lifecycleArm v (fun d => lifecycleCheck c (valueOf c v) d = 0) fun _ d =>
    d.setBw fun b => { b with arming := some (callerSlot c.caller, valueOf c v) }) ∧
  (∀ (c : Call) (v : Nat), Writes (.lifecycleConfirm c v) c Obj.lifecycleConfirm v
    (fun d => lifecycleCheck c (valueOf c v) d = 0 ∧ d.bw.arming = some (callerSlot c.caller, valueOf c v))
    (fun _ d => (d.setBw fun b => { b with arming := none }).later (.lifecycle (valueOf c v) c.env)) (after := Dev.endMessage)) ∧
  Runs .lifecycleArmingLapse anyTime (fun d => d.setBw fun b => { b with arming := none }) ∧
  (∀ (c : Call) (v : Nat), Writes (.debugAuthorise c v) c Obj.debugAuthorise v
    (fun d => levelRole (valueOf c v) ≤ (d.callerRole c.caller).getD 0 ∧ d.levelAllowed (valueOf c v) = true ∧ d.topLevel < 2) fun n d =>
    d.marking debugObjs n fun d => (d.setBw fun b => { b with
      holders := (b.holders.filter (· != (callerSlot c.caller, valueOf c v))) ++ [(callerSlot c.caller, valueOf c v)] }).showLevel) ∧
  Runs .debugPendingLapse (fun d => d.docking = false) (fun d => d.endLevels fun h => decide (2 ≤ h.2)) ∧
  (∀ (c : Call) (v : Nat), Writes (.debugRevoke c v) c Obj.debugRevoke v
    (fun d => d.mode ≠ 4 ∧ (d.bw.holders = [] ∨ d.bw.holders.any (d.revokes c) = true))
    (fun n d => if d.mode = 4 ∧ (d.bw.holders.filter fun h => decide (2 ≤ h.2)).any (d.revokes c) = true then d.later (.reset c.env)
      else d.marking debugObjs n (Dev.endLevels (d.revokes c))) (after := Dev.endMessage))

/-! The sideband bridge (R407 to R426). -/

/-- O56. Transfers on a bus complete (R409 to R412): an idle bus starts the next transfer that waits; a transfer ends by its
result, and one that loses arbitration up to twice is sent again; a stretched clock ends it as CLOCK_TIMEOUT; a bus clear that
works frees a stuck bus, and one that does not leaves it STUCK and reports it once; a poll takes a sample of the signals and
is acted on when two agree; an in-band interrupt on an I3C bus is an alert. The model's own choices in it: log entries 86 and
88. -/
def Obligations.BusesComplete : Prop :=
  (∀ (b : Fin 50) (j : SbJob), Runs (.busTransfer b)
    (fun d => d.get (Obj.busState b) = 0 ∧ (d.bus b).job = none ∧ d.nextJob b = some j ∧
      (d.setBus b (Bus.started j)).busAbsent b = false) fun d => ((d.setBus b (Bus.started j)).takeMode b).sendJob b j) ∧
  (∀ (b : Fin 50) (code data : Nat) (j : SbJob), Runs (.farTransferDone b code data)
    (fun d => (d.bus b).job = some j ∧ code ≤ 7 ∧ (code = Far.arbLost → 2 ≤ (d.bus b).lost)) fun d => d.transferEnds b code data) ∧
  (∀ (b : Fin 50) (data : Nat) (j : SbJob), Runs (.farTransferDone b Far.arbLost data)
    (fun d => (d.bus b).job = some j ∧ (d.bus b).lost < 2) fun d =>
    (d.setBus b fun x => { x with lost := x.lost + 1 }).sendJob b j) ∧
  (∀ (b : Fin 50) (j : SbJob), Runs (.clockTimeout b) (fun d => (d.bus b).job = some j) fun d =>
    d.transferEnds b Far.clockTimeout 0) ∧
  (∀ b : Fin 50, Runs (.busClear b true) (fun d => d.get (Obj.busState b) = 2) fun d => d.put (Obj.busState b) 0) ∧
  (∀ b : Fin 50, Runs (.busClear b false) (fun d => d.get (Obj.busState b) ≠ 2) fun d =>
    ((d.stuckAll b).put (Obj.busState b) 2).sbErr (0x200 + b) 0xFFFF (sbReport 4 Far.busStuck b 0 0 0 0)) ∧
  (∀ (b : Fin 50) (sample : Fin 8), Runs (.signalPoll b sample)
    (fun d => (d.bus b).sample = none ∧
      (d.setBus b fun x => { x with sample := some sample, alertAt := x.alertAt }).alertDue b (d.get (Obj.sbSignals b))
        (d.get (Obj.sbSignals b)) = false) fun d =>
    d.setBus b fun x => { x with sample := some sample, alertAt := x.alertAt }) ∧
  (∀ (b : Fin 50) (addr : Nat), Runs (.inBandInterrupt b addr)
    (fun d => b.val < 48 ∧ d.modeOf b = 3 ∧ addr < 256) fun d => d.alertDone b addr 0)

/-- O57. Windows and sensors complete (R413 to R426): a read of an enabled window that no rule refuses takes its read slot,
and a refused one is answered; a read of a disabled window is answered 0; a write is queued, and one that is refused is
counted as a failure; WR_ERROR is cleared; a held read is answered with ones when its hold ends, and a read that is never
claimed is logged; WIN_ENABLE is written when the frame is free, and its clearing ends the window's transfers; a sensor's
value and its VOUT_MODE are read while it is enabled. The model's own choices in it: log entries 87, 88 and 89. -/
def Obligations.WindowsAndSensorsComplete : Prop :=
  (∀ (w : Fin 128) (a : WinRead), Runs (.windowDataRead w a)
    (fun d => d.winReached w = true ∧ d.get (Obj.winEnable w) ≠ 0 ∧ d.winRefusal w 64 a.offset a.len = 0) fun d => d.slotRead w a) ∧
  (∀ (w : Fin 128) (a : WinRead), Runs (.windowDataRead w a)
    (fun d => d.winReached w = true ∧ d.get (Obj.winEnable w) = 0) fun d => d.winAnswer w a.tag 0) ∧
  (∀ (w : Fin 128) (a : WinWrite), Runs (.windowDataWrite w a)
    (fun d => d.winReached w = true ∧ d.get (Obj.winEnable w) ≠ 0 ∧ d.winRefusal w 256 a.offset a.len = 0 ∧ (d.win w).queuedWrites < 8)
    fun d => d.setWin w fun x => { x with
      queue := x.queue ++ [{ write := true, offset := a.offset, len := a.len
                             pieces := farPieces (d.get (Obj.winPage w)) a.offset a.len
                               (swapData (d.get (Obj.winSwap w)) a.len a.data) }] }) ∧
  (∀ w : Fin 128, Runs (.wrErrorClear w) (fun d => d.winReached w = true) fun d => d.setWin w fun x => { x with wrError := false }) ∧
  (∀ (w : Fin 128) (tag : Nat), Runs (.winHoldExpiry w) (fun d => (d.win w).holding = some tag) fun d =>
    (d.setWin w fun x => { x with holding := none }).winAnswer w tag (onesOf (d.win w).len)) ∧
  (∀ w : Fin 128, Runs (.discardTimerExpiry w) (fun d => (d.win w).st = 2) fun d => d.logRead w Far.ok (d.win w).data) ∧
  (∀ w : Fin 128, Runs (.discardTimerExpiry w) (fun d => (d.win w).st = 3) fun d => d.logRead w (d.win w).code 0) ∧
  (∀ (c : Call) (w : Fin 128) (v : Nat), Writes (.winEnableWrite c w v) c (Obj.winEnable w) v
    (fun d => valueOf c v = 1 → d.frameTaken w = false) fun _ d =>
    if valueOf c v = 0 then (d.put (Obj.winEnable w) 0).disableWin w else d.put (Obj.winEnable w) 1) ∧
  (∀ (n : Fin 64) (code data : Nat), Runs (.sensorRead n code data)
    (fun d => d.get (Obj.sensorEnable n) ≠ 0 ∧ d.busFree (d.get (Obj.sensorBus n)) = true ∧ d.sensorCode n code = Far.ok ∧
      (d.sensorSends n (d.get (Obj.sensorCommand n)) 2 Far.ok).get (Obj.sensorFormat n) ≠ 1) fun d =>
    (d.sensorSends n (d.get (Obj.sensorCommand n)) 2 Far.ok).sensorGood n data) ∧
  (∀ (n : Fin 64) (code data : Nat), Runs (.voutModeRead n code data)
    (fun d => d.get (Obj.sensorEnable n) ≠ 0 ∧ d.get (Obj.sensorFormat n) = 1 ∧ d.busFree (d.get (Obj.sensorBus n)) = true ∧
      d.sensorCode n code = Far.ok ∧ voutLinear data = true)
    fun d => (d.sensorSends n 0x20 1 Far.ok).setSensor n fun x => { x with vout := some (data % 256) })

/-! Observability and test (R429 to R445, R450). -/

/-- O58. Counters, windows, telemetry and traces complete (R431 to R440): a counter and its overflow bits are written; a
counter's configuration, its filter and COUNT_ENABLE are written; a bandwidth window that was not restarted ends with its two
rates, and a write of its length starts it anew; INIT_CLEAR returns an initiator's objects to their start; a telemetry period
ends; a trace that may run starts, and stops. The model's own choices in it: log entries 90 and 92. -/
def Obligations.CountersComplete : Prop :=
  (∀ (c : Call) (u : CtrUnit) (k : Fin 8) (v : Nat), Writes (.ctrValueWrite c u k v) c (256 * ctrBlock u + 0x20 + k) v anyTime fun _ d =>
    d.put (256 * ctrBlock u + 0x20 + k) (d.storedOf (256 * ctrBlock u + 0x20 + k) (valueOf c v))) ∧
  (∀ (c : Call) (u : CtrUnit) (v : Nat), Writes (.ctrOverflowClear c u v) c (256 * ctrBlock u + 2) v anyTime fun _ d =>
    d.put (256 * ctrBlock u + 2) (d.storedOf (256 * ctrBlock u + 2) (valueOf c v))) ∧
  (∀ (c : Call) (u : CtrUnit) (k : Fin 8) (v : Nat), Writes (.counterConfigWrite c (.config u k) v) c (256 * ctrBlock u + 0x10 + k) v
    (fun _ => configOk (ctrBlock u) (valueOf c v) = true) fun _ d =>
    d.put (256 * ctrBlock u + 0x10 + k) (Nat.land (valueOf c v) 0x8FFF00FF)) ∧
  (∀ (c : Call) (u : CtrUnit) (k : Fin 8) (v : Nat), Writes (.counterConfigWrite c (.filter u k) v) c (256 * ctrBlock u + 0x30 + k) v
    (fun _ => byteAt (valueOf c v) 4 < 2) fun _ d =>
    d.put (256 * ctrBlock u + 0x30 + k) (filterStored (valueOf c v))) ∧
  (∀ (c : Call) (v : Nat), Writes (.counterConfigWrite c .enable v) c Obj.countEnable v anyTime fun _ d =>
    d.put Obj.countEnable (d.storedOf Obj.countEnable (valueOf c v))) ∧
  (∀ q : Fin 128, Runs (.bwWindowEnd q) (fun d => d.obs.restarted.contains q.val = false) fun d =>
    (d.putAll [(Obj.bwRx q, bandwidth (Tab.get 0 d.obs.rx q) (d.get (Obj.bwWindow q))),
      (Obj.bwTx q, bandwidth (Tab.get 0 d.obs.tx q) (d.get (Obj.bwWindow q)))]).restartWindow q false) ∧
  (∀ (c : Call) (q : Fin 128) (v : Nat), Writes (.bwWindowWrite c q v) c (Obj.bwWindow q) v anyTime fun _ d =>
    (d.put (Obj.bwWindow q) (valueOf c v)).restartWindow q true) ∧
  (∀ (c : Call) (i : Fin 40) (v : Nat), Writes (.initClear c i v) c (Obj.initClear i) v anyTime fun _ d =>
    d.putAll [(Obj.initCompleted i, 0), (Obj.initBytes i, 0), (Obj.initTimeouts i, 0), (Obj.latMin i, 0xFFFFFFFF), (Obj.latMax i, 0),
      (Obj.latSum i, 0), (Obj.latHist i, 0)]) ∧
  Runs .telemetryPeriod (fun d => d.get Obj.tlmEnable ≠ 1) (fun d => d.setObs fun o => { o with period := [] }) ∧
  Runs .telemetryPeriod (fun d => d.get Obj.tlmEnable = 1) (fun d =>
    (d.tlmSet.foldl (fun d r => d.tlmKeep r) d).setObs fun o => { o with period := [] }) ∧
  (∀ (c : Call) (v : Nat), Writes (.traceStart c v) c Obj.traceStart v (fun d => checkTrace c (valueOf c v) d = 0) fun _ d =>
    d.traceTo d.traceRuns) ∧
  (∀ (c : Call) (v : Nat), Writes (.traceStop c v) c Obj.traceStop v anyTime fun _ d => d.put Obj.traceState 0)

/-- O59. The test port completes whenever VAUX is good (R441, R442, R450): each test instruction takes effect where tests are
allowed and acts as BYPASS where they are not; BYPASS ends a test and lets the quays train; with no test in effect IDCODE and
reset select the identity, BYPASS is selected, SAMPLE takes a boundary, and a debug access is answered by its status. The
model's own choices in it: log entries 16, 39 and 93. -/
def Obligations.TestPortCompletes : Prop :=
  (∀ s : State, s.dev.boot ≠ .off → s.dev.testAllowed = true →
    exec .extest s = .next { s with dev := (s.dev.setObs fun o => { o with tap := 0x00 }).scanHolds } ∧
    exec .clamp s = .next { s with dev := (s.dev.setObs fun o => { o with tap := 0x03 }).scanHolds } ∧
    exec .highz s = .next { s with dev := (s.dev.setObs fun o => { o with tap := 0x04 }).scanHolds } ∧
    exec .extestPulse s = .next { s with dev := (s.dev.setObs fun o => { o with tap := 0x05 }).scanHolds } ∧
    exec .extestTrain s = .next { s with dev := (s.dev.setObs fun o => { o with tap := 0x06 }).scanHolds }) ∧
  (∀ s : State, s.dev.boot ≠ .off → s.dev.testAllowed = false →
    exec .extest s = .next { s with dev := s.dev.setObs fun o => { o with tap := 0x00 } } ∧
    exec .clamp s = .next { s with dev := s.dev.setObs fun o => { o with tap := 0x03 } } ∧
    exec .highz s = .next { s with dev := s.dev.setObs fun o => { o with tap := 0x04 } } ∧
    exec .extestPulse s = .next { s with dev := s.dev.setObs fun o => { o with tap := 0x05 } } ∧
    exec .extestTrain s = .next { s with dev := s.dev.setObs fun o => { o with tap := 0x06 } }) ∧
  (∀ s : State, s.dev.boot ≠ .off → s.dev.scanned = true →
    exec .bypass s = .next { s with
      dev := (s.dev.setObs fun o => { o with tap := 0xFF }).forEach
        ((List.range 128).filter fun q => s.dev.qstate q == 1) Dev.tryTrain }) ∧
  (∀ s : State, s.dev.boot ≠ .off → s.dev.scanned = false →
    exec .bypass s = .next { s with dev := s.dev.setObs fun o => { o with tap := 0xFF } } ∧
    exec .tapReset s = .next { s with dev := s.dev.setObs fun o => { o with tap := 0x02 } } ∧
    exec .idcode s = .next { s with dev := (s.dev.setObs fun o => { o with tap := 0x02 }).send (.proto 6 2 0 (idcode s.dev.part)) } ∧
    (∀ v : Nat, exec (.samplePreload v) s = .next { s with dev :=
      ((s.dev.setObs fun o => { o with tap := 0x01, boundary := v }).send (.proto 6 1 0 s.dev.draw)).drawn }) ∧
    (∀ a : Nat, bits a 94 2 ≠ 1 →
      let st := s.dev.debugStatus (bits a 32 32)
      let captured := bits a 94 2 * 2 ^ 94 + st * 2 ^ 92 + bits a 32 32 * 2 ^ 32 + bits a 0 32
      exec (.debugAccess a) s =
        .next { s with dev := (s.dev.setObs fun o => { o with tap := 0x10, debug := captured }).send (.proto 6 0x10 st captured) }))

/-- O60. The traffic generators, the pattern checker and the management ports complete (R312, R443, R444): a generator whose
configuration is sound and that is not running starts with its counts clear and issues its first request; it stops; a result
without an error lets a running one issue its next; a pattern is put on its quay; a port's link state is up when its link is
up and the port is enabled. The model's own choices in it: log entries 91 and 92. -/
def Obligations.GeneratorsComplete : Prop :=
  (∀ (c : Call) (g : Fin 4) (v : Nat), Writes (.tgStart c g v) c (Obj.tgStart g) v
    (fun d => d.tgOk (d.get (Obj.tgConfig g)) = true ∧ d.get (Obj.tgState g) ≠ 1) fun _ d =>
    (d.putAll [(Obj.tgState g, 1), (Obj.tgIssued g, 0), (Obj.tgFirstError g, 0)]).tgIssue g) ∧
  (∀ (c : Call) (g : Fin 4) (v : Nat), Writes (.tgStop c g v) c (Obj.tgStop g) v anyTime fun _ d =>
    (d.put (Obj.tgState g) 0).setGen g fun _ => {}) ∧
  (∀ (g : Fin 4) (r : TgResult), Runs (.tgRequestResult g r)
    (fun d => (d.gen g).busy = true ∧ tgError (d.get (Obj.tgConfig g)) (d.gen g) r = 0 ∧
      (d.setGen g fun x => { x with busy := false }).get (Obj.tgState g) = 1) fun d =>
    (d.setGen g fun x => { x with busy := false }).tgNext g) ∧
  (∀ (c : Call) (v : Nat), Writes (.prbsPatternWrite c v) c Obj.prbsPattern v anyTime fun _ d =>
    d.setPrbs (d.get Obj.prbsQuay) (valueOf c v)) ∧
  (∀ (p : Fin 2) (up : Bool), Runs (.ethLinkChange p up) anyTime fun d =>
    d.put (Obj.ethLinkState p) (b2n (up && d.get (Obj.ethEnable p) == 1)))
end

