-- ==== Sys2Proof/Laws/Rows.lean ====
section
/-!
SUPPORT. What the shared shapes of a meaning do: an event, a write to one object alone, one that ends a message, one that
ends a ZMP message, and one of the two Ledger commands. A proof about a command cites these and never unfolds them.
-/

namespace Sys2Proof.Machine

open Sys2Proof

/-- An event on a device that runs. -/
theorem liveLift_powered (f : Dev → Dev) (s : State) (h : s.dev.powered = true) : liveLift f s = .next { s with dev := f s.dev } := by
  simp [liveLift, lift, Dev.live, h]

/-- An event on a device that does not run. -/
theorem liveLift_unpowered (f : Dev → Dev) (s : State) (h : s.dev.powered = false) : liveLift f s = .next s := by
  simp [liveLift, lift, Dev.live, h]

/-- A judgement that finds nothing against a write. -/
theorem Dev.judge_admits (d : Dev) (a : Act) (c : Call) (o v : Nat) (h : d.admits c o v) (hc : a.check c v d = Status.success) :
    d.judge a c o v = Status.success := by
  obtain ⟨-, -, h3, h4⟩ := h
  simp [Dev.judge, h3, h4, hc, firstStatus]

/-- The status that the owning chapter gives is the answer of a write that the general rules let through. -/
theorem Dev.judge_check (d : Dev) (a : Act) (c : Call) (o v : Nat) (h : d.admits c o v) : d.judge a c o v = a.check c v d := by
  obtain ⟨-, -, h3, h4⟩ := h
  by_cases hc : a.check c v d = 0 <;> simp [Dev.judge, h3, h4, hc, firstStatus]

/-- An accepted write: its commit, its effect and its answer. -/
theorem Dev.manifestWrite_accepted (a : Act) (c : Call) (o w : Nat) (d : Dev) (h : d.admits c o (valueOf c w))
    (hc : a.check c (valueOf c w) d = Status.success) :
    d.manifestWrite a c o w =
      (a.effect c (valueOf c w) d.nextSeq (d.commitWrite c o (a.reply c (valueOf c w) d.nextSeq d))).send
        (d.successTo c o (a.reply c (valueOf c w) d.nextSeq d)) := by
  have hj := Dev.judge_admits d a c o (valueOf c w) h hc
  unfold valueOf at *
  simp [Dev.manifestWrite, h.2.1, Dev.manifestOp, hj, Dev.accept, Dev.successTo]

/-- A refused write: its number and its answer. -/
theorem Dev.manifestWrite_refused (a : Act) (c : Call) (o w : Nat) (d : Dev) (ho : d.callerOpen c.caller = true)
    (hj : d.judge a c o (valueOf c w) ≠ Status.success) :
    d.manifestWrite a c o w =
      d.takeSeq.send (.answer c.caller (answerOf (d.judge a c o (valueOf c w)) o d.nextSeq (d.lastSeqOf o) .none)) := by
  unfold valueOf at *
  simp [Dev.manifestWrite, ho, Dev.manifestOp, hj]

/-- A write row. -/
theorem writeRow_accepted (a : Act) (c : Call) (o w : Nat) (s : State) (h : s.dev.admits c o (valueOf c w))
    (hc : a.check c (valueOf c w) s.dev = Status.success) :
    writeRow a c o w s = .next { s with
        dev :=
          (a.effect c (valueOf c w) s.dev.nextSeq (s.dev.commitWrite c o (a.reply c (valueOf c w) s.dev.nextSeq s.dev))).send
            (s.dev.successTo c o (a.reply c (valueOf c w) s.dev.nextSeq s.dev)) } := by
  rw [writeRow, liveLift_powered _ _ h.1, Dev.manifestWrite_accepted a c o w s.dev h hc]

/-- A write row that may leave something due after its message. -/
theorem messageRow_accepted (a : Act) (c : Call) (o w : Nat) (s : State) (h : s.dev.admits c o (valueOf c w))
    (hc : a.check c (valueOf c w) s.dev = Status.success) :
    messageRow a c o w s = .next { s with
        dev :=
          ((a.effect c (valueOf c w) s.dev.nextSeq (s.dev.commitWrite c o (a.reply c (valueOf c w) s.dev.nextSeq s.dev))).send
            (s.dev.successTo c o (a.reply c (valueOf c w) s.dev.nextSeq s.dev))).endMessage } := by
  rw [messageRow, liveLift_powered _ _ h.1, Dev.manifestWrite_accepted a c o w s.dev h hc]

/-- An accepted ZMP write: no decision is closed as stale. -/
theorem Dev.zmpWrite_accepted (a : Act) (c : Call) (o w : Nat) (d : Dev) (h : d.admits c o (valueOf c w))
    (hc : a.check c (valueOf c w) d = Status.success) :
    d.zmpWrite a c o w =
      (a.effect c (valueOf c w) d.nextSeq (d.commitWrite c o (a.reply c (valueOf c w) d.nextSeq d))).send
        (d.successTo c o (a.reply c (valueOf c w) d.nextSeq d)) := by
  have hj := Dev.judge_admits d a c o (valueOf c w) h hc
  unfold valueOf at *
  simp [Dev.zmpWrite, h.2.1, Dev.manifestOp, hj, Dev.accept, Dev.successTo, closeStale, answerOf, Status.success, Status.staleDecision]

/-- A write row of the management plane. -/
theorem zmpRow_accepted (a : Act) (c : Call) (o w : Nat) (s : State) (h : s.dev.admits c o (valueOf c w))
    (hc : a.check c (valueOf c w) s.dev = Status.success) :
    zmpRow a c o w s = .next { s with
        dev :=
          ((a.effect c (valueOf c w) s.dev.nextSeq (s.dev.commitWrite c o (a.reply c (valueOf c w) s.dev.nextSeq s.dev))).send
            (s.dev.successTo c o (a.reply c (valueOf c w) s.dev.nextSeq s.dev))).messageEnd } := by
  rw [zmpRow, liveLift_powered _ _ h.1, Dev.zmpWrite_accepted a c o w s.dev h hc]

/-- LEDGER_INIT and LEDGER_ADOPT: autostart may follow. -/
theorem ledgerRow_accepted (f : Dev → Dev) (c : Call) (o w : Nat) (s : State) (h : s.dev.admits c o (valueOf c w))
    (hc : (actLedgerStart f).check c (valueOf c w) s.dev = Status.success) :
    ledgerRow f c o w s = .next { s with
        dev :=
          (((actLedgerStart f).effect c (valueOf c w) s.dev.nextSeq
              (s.dev.commitWrite c o ((actLedgerStart f).reply c (valueOf c w) s.dev.nextSeq s.dev))).send
            (s.dev.successTo c o ((actLedgerStart f).reply c (valueOf c w) s.dev.nextSeq s.dev))).tryAutostart } := by
  rw [ledgerRow, liveLift_powered _ _ h.1, Dev.manifestWrite_accepted (actLedgerStart f) c o w s.dev h hc]

/-! What VAUX does to the pins (R369, R453). -/

/-- Pins driven one after the other are sent in that order, and nothing else changes. -/
theorem Dev.send_each (f : Nat → Out) (l : List Nat) (d : Dev) :
    d.forEach l (fun x d => d.send (f x)) = { d with sent := d.sent ++ l.map f } := by
  unfold Dev.forEach
  induction l generalizing d with
  | nil => simp
  | cons a l ih => rw [List.foldl_cons, ih]; simp [Dev.send]

/-- The loss of VAUX drives pins and changes nothing else before the device is Off. -/
theorem Dev.loseVaux_frame (d : Dev) : ∃ l : List Out, d.loseVaux = { d with sent := d.sent ++ l } := by
  unfold Dev.loseVaux
  simp only [Dev.send_each]
  split
  all_goals simp only [Dev.send, List.append_assoc]; exact ⟨_, rfl⟩

end Sys2Proof.Machine
end

