-- ==== Sys2Proof/Laws/State.lean ====
section
/-!
SUPPORT. Each field of the device after each basic change of it.
-/

namespace Sys2Proof.Machine

variable (d : Dev)

/-! After `Dev.put`. -/

@[simp] theorem Dev.put_part (o v : Nat) : (d.put o v).part = d.part := rfl
@[simp] theorem Dev.put_powered (o v : Nat) : (d.put o v).powered = d.powered := rfl
@[simp] theorem Dev.put_boot (o v : Nat) : (d.put o v).boot = d.boot := rfl
@[simp] theorem Dev.put_time (o v : Nat) : (d.put o v).time = d.time := rfl
@[simp] theorem Dev.put_man (o v : Nat) : (d.put o v).man = Tab.set (objDefault d.part o) d.man o v := rfl
@[simp] theorem Dev.put_lastSeq (o v : Nat) : (d.put o v).lastSeq = d.lastSeq := rfl
@[simp] theorem Dev.put_stored (o v : Nat) : (d.put o v).stored = d.stored := rfl
@[simp] theorem Dev.put_storedSeq (o v : Nat) : (d.put o v).storedSeq = d.storedSeq := rfl
@[simp] theorem Dev.put_mgmt (o v : Nat) : (d.put o v).mgmt = d.mgmt := rfl
@[simp] theorem Dev.put_modes (o v : Nat) : (d.put o v).modes = d.modes := rfl
@[simp] theorem Dev.put_net (o v : Nat) : (d.put o v).net = d.net := rfl
@[simp] theorem Dev.put_coh (o v : Nat) : (d.put o v).coh = d.coh := rfl
@[simp] theorem Dev.put_pool (o v : Nat) : (d.put o v).pool = d.pool := rfl
@[simp] theorem Dev.put_crane (o v : Nat) : (d.put o v).crane = d.crane := rfl
@[simp] theorem Dev.put_customs (o v : Nat) : (d.put o v).customs = d.customs := rfl
@[simp] theorem Dev.put_tide (o v : Nat) : (d.put o v).tide = d.tide := rfl
@[simp] theorem Dev.put_bw (o v : Nat) : (d.put o v).bw = d.bw := rfl
@[simp] theorem Dev.put_faults (o v : Nat) : (d.put o v).faults = d.faults := rfl
@[simp] theorem Dev.put_side (o v : Nat) : (d.put o v).side = d.side := rfl
@[simp] theorem Dev.put_obs (o v : Nat) : (d.put o v).obs = d.obs := rfl
@[simp] theorem Dev.put_lines (o v : Nat) : (d.put o v).lines = d.lines := rfl
@[simp] theorem Dev.put_sent (o v : Nat) : (d.put o v).sent = d.sent := rfl
@[simp] theorem Dev.put_draws (o v : Nat) : (d.put o v).draws = d.draws := rfl

/-! After `Dev.mark`. -/

@[simp] theorem Dev.mark_part (o n : Nat) : (d.mark o n).part = d.part := rfl
@[simp] theorem Dev.mark_powered (o n : Nat) : (d.mark o n).powered = d.powered := rfl
@[simp] theorem Dev.mark_boot (o n : Nat) : (d.mark o n).boot = d.boot := rfl
@[simp] theorem Dev.mark_time (o n : Nat) : (d.mark o n).time = d.time := rfl
@[simp] theorem Dev.mark_man (o n : Nat) : (d.mark o n).man = d.man := rfl
@[simp] theorem Dev.mark_lastSeq (o n : Nat) : (d.mark o n).lastSeq = Tab.set 0 d.lastSeq o n := rfl
@[simp] theorem Dev.mark_stored (o n : Nat) : (d.mark o n).stored = d.stored := rfl
@[simp] theorem Dev.mark_storedSeq (o n : Nat) : (d.mark o n).storedSeq = d.storedSeq := rfl
@[simp] theorem Dev.mark_mgmt (o n : Nat) : (d.mark o n).mgmt = d.mgmt := rfl
@[simp] theorem Dev.mark_modes (o n : Nat) : (d.mark o n).modes = d.modes := rfl
@[simp] theorem Dev.mark_net (o n : Nat) : (d.mark o n).net = d.net := rfl
@[simp] theorem Dev.mark_coh (o n : Nat) : (d.mark o n).coh = d.coh := rfl
@[simp] theorem Dev.mark_pool (o n : Nat) : (d.mark o n).pool = d.pool := rfl
@[simp] theorem Dev.mark_crane (o n : Nat) : (d.mark o n).crane = d.crane := rfl
@[simp] theorem Dev.mark_customs (o n : Nat) : (d.mark o n).customs = d.customs := rfl
@[simp] theorem Dev.mark_tide (o n : Nat) : (d.mark o n).tide = d.tide := rfl
@[simp] theorem Dev.mark_bw (o n : Nat) : (d.mark o n).bw = d.bw := rfl
@[simp] theorem Dev.mark_faults (o n : Nat) : (d.mark o n).faults = d.faults := rfl
@[simp] theorem Dev.mark_side (o n : Nat) : (d.mark o n).side = d.side := rfl
@[simp] theorem Dev.mark_obs (o n : Nat) : (d.mark o n).obs = d.obs := rfl
@[simp] theorem Dev.mark_lines (o n : Nat) : (d.mark o n).lines = d.lines := rfl
@[simp] theorem Dev.mark_sent (o n : Nat) : (d.mark o n).sent = d.sent := rfl
@[simp] theorem Dev.mark_draws (o n : Nat) : (d.mark o n).draws = d.draws := rfl

/-! After `Dev.send`. -/

@[simp] theorem Dev.send_part (x : Out) : (d.send x).part = d.part := rfl
@[simp] theorem Dev.send_powered (x : Out) : (d.send x).powered = d.powered := rfl
@[simp] theorem Dev.send_boot (x : Out) : (d.send x).boot = d.boot := rfl
@[simp] theorem Dev.send_time (x : Out) : (d.send x).time = d.time := rfl
@[simp] theorem Dev.send_man (x : Out) : (d.send x).man = d.man := rfl
@[simp] theorem Dev.send_lastSeq (x : Out) : (d.send x).lastSeq = d.lastSeq := rfl
@[simp] theorem Dev.send_stored (x : Out) : (d.send x).stored = d.stored := rfl
@[simp] theorem Dev.send_storedSeq (x : Out) : (d.send x).storedSeq = d.storedSeq := rfl
@[simp] theorem Dev.send_mgmt (x : Out) : (d.send x).mgmt = d.mgmt := rfl
@[simp] theorem Dev.send_modes (x : Out) : (d.send x).modes = d.modes := rfl
@[simp] theorem Dev.send_net (x : Out) : (d.send x).net = d.net := rfl
@[simp] theorem Dev.send_coh (x : Out) : (d.send x).coh = d.coh := rfl
@[simp] theorem Dev.send_pool (x : Out) : (d.send x).pool = d.pool := rfl
@[simp] theorem Dev.send_crane (x : Out) : (d.send x).crane = d.crane := rfl
@[simp] theorem Dev.send_customs (x : Out) : (d.send x).customs = d.customs := rfl
@[simp] theorem Dev.send_tide (x : Out) : (d.send x).tide = d.tide := rfl
@[simp] theorem Dev.send_bw (x : Out) : (d.send x).bw = d.bw := rfl
@[simp] theorem Dev.send_faults (x : Out) : (d.send x).faults = d.faults := rfl
@[simp] theorem Dev.send_side (x : Out) : (d.send x).side = d.side := rfl
@[simp] theorem Dev.send_obs (x : Out) : (d.send x).obs = d.obs := rfl
@[simp] theorem Dev.send_lines (x : Out) : (d.send x).lines = d.lines := rfl
@[simp] theorem Dev.send_sent (x : Out) : (d.send x).sent = d.sent ++ [x] := rfl
@[simp] theorem Dev.send_draws (x : Out) : (d.send x).draws = d.draws := rfl

/-! After `Dev.sendAll`. -/

@[simp] theorem Dev.sendAll_part (l : List Out) : (d.sendAll l).part = d.part := rfl
@[simp] theorem Dev.sendAll_powered (l : List Out) : (d.sendAll l).powered = d.powered := rfl
@[simp] theorem Dev.sendAll_boot (l : List Out) : (d.sendAll l).boot = d.boot := rfl
@[simp] theorem Dev.sendAll_time (l : List Out) : (d.sendAll l).time = d.time := rfl
@[simp] theorem Dev.sendAll_man (l : List Out) : (d.sendAll l).man = d.man := rfl
@[simp] theorem Dev.sendAll_lastSeq (l : List Out) : (d.sendAll l).lastSeq = d.lastSeq := rfl
@[simp] theorem Dev.sendAll_stored (l : List Out) : (d.sendAll l).stored = d.stored := rfl
@[simp] theorem Dev.sendAll_storedSeq (l : List Out) : (d.sendAll l).storedSeq = d.storedSeq := rfl
@[simp] theorem Dev.sendAll_mgmt (l : List Out) : (d.sendAll l).mgmt = d.mgmt := rfl
@[simp] theorem Dev.sendAll_modes (l : List Out) : (d.sendAll l).modes = d.modes := rfl
@[simp] theorem Dev.sendAll_net (l : List Out) : (d.sendAll l).net = d.net := rfl
@[simp] theorem Dev.sendAll_coh (l : List Out) : (d.sendAll l).coh = d.coh := rfl
@[simp] theorem Dev.sendAll_pool (l : List Out) : (d.sendAll l).pool = d.pool := rfl
@[simp] theorem Dev.sendAll_crane (l : List Out) : (d.sendAll l).crane = d.crane := rfl
@[simp] theorem Dev.sendAll_customs (l : List Out) : (d.sendAll l).customs = d.customs := rfl
@[simp] theorem Dev.sendAll_tide (l : List Out) : (d.sendAll l).tide = d.tide := rfl
@[simp] theorem Dev.sendAll_bw (l : List Out) : (d.sendAll l).bw = d.bw := rfl
@[simp] theorem Dev.sendAll_faults (l : List Out) : (d.sendAll l).faults = d.faults := rfl
@[simp] theorem Dev.sendAll_side (l : List Out) : (d.sendAll l).side = d.side := rfl
@[simp] theorem Dev.sendAll_obs (l : List Out) : (d.sendAll l).obs = d.obs := rfl
@[simp] theorem Dev.sendAll_lines (l : List Out) : (d.sendAll l).lines = d.lines := rfl
@[simp] theorem Dev.sendAll_sent (l : List Out) : (d.sendAll l).sent = d.sent ++ l := rfl
@[simp] theorem Dev.sendAll_draws (l : List Out) : (d.sendAll l).draws = d.draws := rfl

/-! After `Dev.err`. -/

@[simp] theorem Dev.err_part (e : Err) : (d.err e).part = d.part := rfl
@[simp] theorem Dev.err_powered (e : Err) : (d.err e).powered = d.powered := rfl
@[simp] theorem Dev.err_boot (e : Err) : (d.err e).boot = d.boot := rfl
@[simp] theorem Dev.err_time (e : Err) : (d.err e).time = d.time := rfl
@[simp] theorem Dev.err_man (e : Err) : (d.err e).man = d.man := rfl
@[simp] theorem Dev.err_lastSeq (e : Err) : (d.err e).lastSeq = d.lastSeq := rfl
@[simp] theorem Dev.err_stored (e : Err) : (d.err e).stored = d.stored := rfl
@[simp] theorem Dev.err_storedSeq (e : Err) : (d.err e).storedSeq = d.storedSeq := rfl
@[simp] theorem Dev.err_mgmt (e : Err) : (d.err e).mgmt = d.mgmt := rfl
@[simp] theorem Dev.err_modes (e : Err) : (d.err e).modes = d.modes := rfl
@[simp] theorem Dev.err_net (e : Err) : (d.err e).net = d.net := rfl
@[simp] theorem Dev.err_coh (e : Err) : (d.err e).coh = d.coh := rfl
@[simp] theorem Dev.err_pool (e : Err) : (d.err e).pool = d.pool := rfl
@[simp] theorem Dev.err_crane (e : Err) : (d.err e).crane = d.crane := rfl
@[simp] theorem Dev.err_customs (e : Err) : (d.err e).customs = d.customs := rfl
@[simp] theorem Dev.err_tide (e : Err) : (d.err e).tide = d.tide := rfl
@[simp] theorem Dev.err_bw (e : Err) : (d.err e).bw = d.bw := rfl
@[simp] theorem Dev.err_faults (e : Err) : (d.err e).faults = d.faults := rfl
@[simp] theorem Dev.err_side (e : Err) : (d.err e).side = d.side := rfl
@[simp] theorem Dev.err_obs (e : Err) : (d.err e).obs = d.obs := rfl
@[simp] theorem Dev.err_lines (e : Err) : (d.err e).lines = d.lines ++ [e] := rfl
@[simp] theorem Dev.err_sent (e : Err) : (d.err e).sent = d.sent := rfl
@[simp] theorem Dev.err_draws (e : Err) : (d.err e).draws = d.draws := rfl

/-! After `Dev.drawn`. -/

@[simp] theorem Dev.drawn_part : d.drawn.part = d.part := rfl
@[simp] theorem Dev.drawn_powered : d.drawn.powered = d.powered := rfl
@[simp] theorem Dev.drawn_boot : d.drawn.boot = d.boot := rfl
@[simp] theorem Dev.drawn_time : d.drawn.time = d.time := rfl
@[simp] theorem Dev.drawn_man : d.drawn.man = d.man := rfl
@[simp] theorem Dev.drawn_lastSeq : d.drawn.lastSeq = d.lastSeq := rfl
@[simp] theorem Dev.drawn_stored : d.drawn.stored = d.stored := rfl
@[simp] theorem Dev.drawn_storedSeq : d.drawn.storedSeq = d.storedSeq := rfl
@[simp] theorem Dev.drawn_mgmt : d.drawn.mgmt = d.mgmt := rfl
@[simp] theorem Dev.drawn_modes : d.drawn.modes = d.modes := rfl
@[simp] theorem Dev.drawn_net : d.drawn.net = d.net := rfl
@[simp] theorem Dev.drawn_coh : d.drawn.coh = d.coh := rfl
@[simp] theorem Dev.drawn_pool : d.drawn.pool = d.pool := rfl
@[simp] theorem Dev.drawn_crane : d.drawn.crane = d.crane := rfl
@[simp] theorem Dev.drawn_customs : d.drawn.customs = d.customs := rfl
@[simp] theorem Dev.drawn_tide : d.drawn.tide = d.tide := rfl
@[simp] theorem Dev.drawn_bw : d.drawn.bw = d.bw := rfl
@[simp] theorem Dev.drawn_faults : d.drawn.faults = d.faults := rfl
@[simp] theorem Dev.drawn_side : d.drawn.side = d.side := rfl
@[simp] theorem Dev.drawn_obs : d.drawn.obs = d.obs := rfl
@[simp] theorem Dev.drawn_lines : d.drawn.lines = d.lines := rfl
@[simp] theorem Dev.drawn_sent : d.drawn.sent = d.sent := rfl
@[simp] theorem Dev.drawn_draws : d.drawn.draws = d.draws + 1 := rfl

/-! After `Dev.setNet`. -/

@[simp] theorem Dev.setNet_part (f : Net → Net) : (d.setNet f).part = d.part := rfl
@[simp] theorem Dev.setNet_powered (f : Net → Net) : (d.setNet f).powered = d.powered := rfl
@[simp] theorem Dev.setNet_boot (f : Net → Net) : (d.setNet f).boot = d.boot := rfl
@[simp] theorem Dev.setNet_time (f : Net → Net) : (d.setNet f).time = d.time := rfl
@[simp] theorem Dev.setNet_man (f : Net → Net) : (d.setNet f).man = d.man := rfl
@[simp] theorem Dev.setNet_lastSeq (f : Net → Net) : (d.setNet f).lastSeq = d.lastSeq := rfl
@[simp] theorem Dev.setNet_stored (f : Net → Net) : (d.setNet f).stored = d.stored := rfl
@[simp] theorem Dev.setNet_storedSeq (f : Net → Net) : (d.setNet f).storedSeq = d.storedSeq := rfl
@[simp] theorem Dev.setNet_mgmt (f : Net → Net) : (d.setNet f).mgmt = d.mgmt := rfl
@[simp] theorem Dev.setNet_modes (f : Net → Net) : (d.setNet f).modes = d.modes := rfl
@[simp] theorem Dev.setNet_net (f : Net → Net) : (d.setNet f).net = f d.net := rfl
@[simp] theorem Dev.setNet_coh (f : Net → Net) : (d.setNet f).coh = d.coh := rfl
@[simp] theorem Dev.setNet_pool (f : Net → Net) : (d.setNet f).pool = d.pool := rfl
@[simp] theorem Dev.setNet_crane (f : Net → Net) : (d.setNet f).crane = d.crane := rfl
@[simp] theorem Dev.setNet_customs (f : Net → Net) : (d.setNet f).customs = d.customs := rfl
@[simp] theorem Dev.setNet_tide (f : Net → Net) : (d.setNet f).tide = d.tide := rfl
@[simp] theorem Dev.setNet_bw (f : Net → Net) : (d.setNet f).bw = d.bw := rfl
@[simp] theorem Dev.setNet_faults (f : Net → Net) : (d.setNet f).faults = d.faults := rfl
@[simp] theorem Dev.setNet_side (f : Net → Net) : (d.setNet f).side = d.side := rfl
@[simp] theorem Dev.setNet_obs (f : Net → Net) : (d.setNet f).obs = d.obs := rfl
@[simp] theorem Dev.setNet_lines (f : Net → Net) : (d.setNet f).lines = d.lines := rfl
@[simp] theorem Dev.setNet_sent (f : Net → Net) : (d.setNet f).sent = d.sent := rfl
@[simp] theorem Dev.setNet_draws (f : Net → Net) : (d.setNet f).draws = d.draws := rfl

/-! After `Dev.setCoh`. -/

@[simp] theorem Dev.setCoh_part (f : Coh → Coh) : (d.setCoh f).part = d.part := rfl
@[simp] theorem Dev.setCoh_powered (f : Coh → Coh) : (d.setCoh f).powered = d.powered := rfl
@[simp] theorem Dev.setCoh_boot (f : Coh → Coh) : (d.setCoh f).boot = d.boot := rfl
@[simp] theorem Dev.setCoh_time (f : Coh → Coh) : (d.setCoh f).time = d.time := rfl
@[simp] theorem Dev.setCoh_man (f : Coh → Coh) : (d.setCoh f).man = d.man := rfl
@[simp] theorem Dev.setCoh_lastSeq (f : Coh → Coh) : (d.setCoh f).lastSeq = d.lastSeq := rfl
@[simp] theorem Dev.setCoh_stored (f : Coh → Coh) : (d.setCoh f).stored = d.stored := rfl
@[simp] theorem Dev.setCoh_storedSeq (f : Coh → Coh) : (d.setCoh f).storedSeq = d.storedSeq := rfl
@[simp] theorem Dev.setCoh_mgmt (f : Coh → Coh) : (d.setCoh f).mgmt = d.mgmt := rfl
@[simp] theorem Dev.setCoh_modes (f : Coh → Coh) : (d.setCoh f).modes = d.modes := rfl
@[simp] theorem Dev.setCoh_net (f : Coh → Coh) : (d.setCoh f).net = d.net := rfl
@[simp] theorem Dev.setCoh_coh (f : Coh → Coh) : (d.setCoh f).coh = f d.coh := rfl
@[simp] theorem Dev.setCoh_pool (f : Coh → Coh) : (d.setCoh f).pool = d.pool := rfl
@[simp] theorem Dev.setCoh_crane (f : Coh → Coh) : (d.setCoh f).crane = d.crane := rfl
@[simp] theorem Dev.setCoh_customs (f : Coh → Coh) : (d.setCoh f).customs = d.customs := rfl
@[simp] theorem Dev.setCoh_tide (f : Coh → Coh) : (d.setCoh f).tide = d.tide := rfl
@[simp] theorem Dev.setCoh_bw (f : Coh → Coh) : (d.setCoh f).bw = d.bw := rfl
@[simp] theorem Dev.setCoh_faults (f : Coh → Coh) : (d.setCoh f).faults = d.faults := rfl
@[simp] theorem Dev.setCoh_side (f : Coh → Coh) : (d.setCoh f).side = d.side := rfl
@[simp] theorem Dev.setCoh_obs (f : Coh → Coh) : (d.setCoh f).obs = d.obs := rfl
@[simp] theorem Dev.setCoh_lines (f : Coh → Coh) : (d.setCoh f).lines = d.lines := rfl
@[simp] theorem Dev.setCoh_sent (f : Coh → Coh) : (d.setCoh f).sent = d.sent := rfl
@[simp] theorem Dev.setCoh_draws (f : Coh → Coh) : (d.setCoh f).draws = d.draws := rfl

/-! After `Dev.setPool`. -/

@[simp] theorem Dev.setPool_part (f : Pool → Pool) : (d.setPool f).part = d.part := rfl
@[simp] theorem Dev.setPool_powered (f : Pool → Pool) : (d.setPool f).powered = d.powered := rfl
@[simp] theorem Dev.setPool_boot (f : Pool → Pool) : (d.setPool f).boot = d.boot := rfl
@[simp] theorem Dev.setPool_time (f : Pool → Pool) : (d.setPool f).time = d.time := rfl
@[simp] theorem Dev.setPool_man (f : Pool → Pool) : (d.setPool f).man = d.man := rfl
@[simp] theorem Dev.setPool_lastSeq (f : Pool → Pool) : (d.setPool f).lastSeq = d.lastSeq := rfl
@[simp] theorem Dev.setPool_stored (f : Pool → Pool) : (d.setPool f).stored = d.stored := rfl
@[simp] theorem Dev.setPool_storedSeq (f : Pool → Pool) : (d.setPool f).storedSeq = d.storedSeq := rfl
@[simp] theorem Dev.setPool_mgmt (f : Pool → Pool) : (d.setPool f).mgmt = d.mgmt := rfl
@[simp] theorem Dev.setPool_modes (f : Pool → Pool) : (d.setPool f).modes = d.modes := rfl
@[simp] theorem Dev.setPool_net (f : Pool → Pool) : (d.setPool f).net = d.net := rfl
@[simp] theorem Dev.setPool_coh (f : Pool → Pool) : (d.setPool f).coh = d.coh := rfl
@[simp] theorem Dev.setPool_pool (f : Pool → Pool) : (d.setPool f).pool = f d.pool := rfl
@[simp] theorem Dev.setPool_crane (f : Pool → Pool) : (d.setPool f).crane = d.crane := rfl
@[simp] theorem Dev.setPool_customs (f : Pool → Pool) : (d.setPool f).customs = d.customs := rfl
@[simp] theorem Dev.setPool_tide (f : Pool → Pool) : (d.setPool f).tide = d.tide := rfl
@[simp] theorem Dev.setPool_bw (f : Pool → Pool) : (d.setPool f).bw = d.bw := rfl
@[simp] theorem Dev.setPool_faults (f : Pool → Pool) : (d.setPool f).faults = d.faults := rfl
@[simp] theorem Dev.setPool_side (f : Pool → Pool) : (d.setPool f).side = d.side := rfl
@[simp] theorem Dev.setPool_obs (f : Pool → Pool) : (d.setPool f).obs = d.obs := rfl
@[simp] theorem Dev.setPool_lines (f : Pool → Pool) : (d.setPool f).lines = d.lines := rfl
@[simp] theorem Dev.setPool_sent (f : Pool → Pool) : (d.setPool f).sent = d.sent := rfl
@[simp] theorem Dev.setPool_draws (f : Pool → Pool) : (d.setPool f).draws = d.draws := rfl

/-! After `Dev.setCrane`. -/

@[simp] theorem Dev.setCrane_part (f : Crane → Crane) : (d.setCrane f).part = d.part := rfl
@[simp] theorem Dev.setCrane_powered (f : Crane → Crane) : (d.setCrane f).powered = d.powered := rfl
@[simp] theorem Dev.setCrane_boot (f : Crane → Crane) : (d.setCrane f).boot = d.boot := rfl
@[simp] theorem Dev.setCrane_time (f : Crane → Crane) : (d.setCrane f).time = d.time := rfl
@[simp] theorem Dev.setCrane_man (f : Crane → Crane) : (d.setCrane f).man = d.man := rfl
@[simp] theorem Dev.setCrane_lastSeq (f : Crane → Crane) : (d.setCrane f).lastSeq = d.lastSeq := rfl
@[simp] theorem Dev.setCrane_stored (f : Crane → Crane) : (d.setCrane f).stored = d.stored := rfl
@[simp] theorem Dev.setCrane_storedSeq (f : Crane → Crane) : (d.setCrane f).storedSeq = d.storedSeq := rfl
@[simp] theorem Dev.setCrane_mgmt (f : Crane → Crane) : (d.setCrane f).mgmt = d.mgmt := rfl
@[simp] theorem Dev.setCrane_modes (f : Crane → Crane) : (d.setCrane f).modes = d.modes := rfl
@[simp] theorem Dev.setCrane_net (f : Crane → Crane) : (d.setCrane f).net = d.net := rfl
@[simp] theorem Dev.setCrane_coh (f : Crane → Crane) : (d.setCrane f).coh = d.coh := rfl
@[simp] theorem Dev.setCrane_pool (f : Crane → Crane) : (d.setCrane f).pool = d.pool := rfl
@[simp] theorem Dev.setCrane_crane (f : Crane → Crane) : (d.setCrane f).crane = f d.crane := rfl
@[simp] theorem Dev.setCrane_customs (f : Crane → Crane) : (d.setCrane f).customs = d.customs := rfl
@[simp] theorem Dev.setCrane_tide (f : Crane → Crane) : (d.setCrane f).tide = d.tide := rfl
@[simp] theorem Dev.setCrane_bw (f : Crane → Crane) : (d.setCrane f).bw = d.bw := rfl
@[simp] theorem Dev.setCrane_faults (f : Crane → Crane) : (d.setCrane f).faults = d.faults := rfl
@[simp] theorem Dev.setCrane_side (f : Crane → Crane) : (d.setCrane f).side = d.side := rfl
@[simp] theorem Dev.setCrane_obs (f : Crane → Crane) : (d.setCrane f).obs = d.obs := rfl
@[simp] theorem Dev.setCrane_lines (f : Crane → Crane) : (d.setCrane f).lines = d.lines := rfl
@[simp] theorem Dev.setCrane_sent (f : Crane → Crane) : (d.setCrane f).sent = d.sent := rfl
@[simp] theorem Dev.setCrane_draws (f : Crane → Crane) : (d.setCrane f).draws = d.draws := rfl

/-! After `Dev.setCustoms`. -/

@[simp] theorem Dev.setCustoms_part (f : Customs → Customs) : (d.setCustoms f).part = d.part := rfl
@[simp] theorem Dev.setCustoms_powered (f : Customs → Customs) : (d.setCustoms f).powered = d.powered := rfl
@[simp] theorem Dev.setCustoms_boot (f : Customs → Customs) : (d.setCustoms f).boot = d.boot := rfl
@[simp] theorem Dev.setCustoms_time (f : Customs → Customs) : (d.setCustoms f).time = d.time := rfl
@[simp] theorem Dev.setCustoms_man (f : Customs → Customs) : (d.setCustoms f).man = d.man := rfl
@[simp] theorem Dev.setCustoms_lastSeq (f : Customs → Customs) : (d.setCustoms f).lastSeq = d.lastSeq := rfl
@[simp] theorem Dev.setCustoms_stored (f : Customs → Customs) : (d.setCustoms f).stored = d.stored := rfl
@[simp] theorem Dev.setCustoms_storedSeq (f : Customs → Customs) : (d.setCustoms f).storedSeq = d.storedSeq := rfl
@[simp] theorem Dev.setCustoms_mgmt (f : Customs → Customs) : (d.setCustoms f).mgmt = d.mgmt := rfl
@[simp] theorem Dev.setCustoms_modes (f : Customs → Customs) : (d.setCustoms f).modes = d.modes := rfl
@[simp] theorem Dev.setCustoms_net (f : Customs → Customs) : (d.setCustoms f).net = d.net := rfl
@[simp] theorem Dev.setCustoms_coh (f : Customs → Customs) : (d.setCustoms f).coh = d.coh := rfl
@[simp] theorem Dev.setCustoms_pool (f : Customs → Customs) : (d.setCustoms f).pool = d.pool := rfl
@[simp] theorem Dev.setCustoms_crane (f : Customs → Customs) : (d.setCustoms f).crane = d.crane := rfl
@[simp] theorem Dev.setCustoms_customs (f : Customs → Customs) : (d.setCustoms f).customs = f d.customs := rfl
@[simp] theorem Dev.setCustoms_tide (f : Customs → Customs) : (d.setCustoms f).tide = d.tide := rfl
@[simp] theorem Dev.setCustoms_bw (f : Customs → Customs) : (d.setCustoms f).bw = d.bw := rfl
@[simp] theorem Dev.setCustoms_faults (f : Customs → Customs) : (d.setCustoms f).faults = d.faults := rfl
@[simp] theorem Dev.setCustoms_side (f : Customs → Customs) : (d.setCustoms f).side = d.side := rfl
@[simp] theorem Dev.setCustoms_obs (f : Customs → Customs) : (d.setCustoms f).obs = d.obs := rfl
@[simp] theorem Dev.setCustoms_lines (f : Customs → Customs) : (d.setCustoms f).lines = d.lines := rfl
@[simp] theorem Dev.setCustoms_sent (f : Customs → Customs) : (d.setCustoms f).sent = d.sent := rfl
@[simp] theorem Dev.setCustoms_draws (f : Customs → Customs) : (d.setCustoms f).draws = d.draws := rfl

/-! After `Dev.setMgmt`. -/

@[simp] theorem Dev.setMgmt_part (f : Mgmt → Mgmt) : (d.setMgmt f).part = d.part := rfl
@[simp] theorem Dev.setMgmt_powered (f : Mgmt → Mgmt) : (d.setMgmt f).powered = d.powered := rfl
@[simp] theorem Dev.setMgmt_boot (f : Mgmt → Mgmt) : (d.setMgmt f).boot = d.boot := rfl
@[simp] theorem Dev.setMgmt_time (f : Mgmt → Mgmt) : (d.setMgmt f).time = d.time := rfl
@[simp] theorem Dev.setMgmt_man (f : Mgmt → Mgmt) : (d.setMgmt f).man = d.man := rfl
@[simp] theorem Dev.setMgmt_lastSeq (f : Mgmt → Mgmt) : (d.setMgmt f).lastSeq = d.lastSeq := rfl
@[simp] theorem Dev.setMgmt_stored (f : Mgmt → Mgmt) : (d.setMgmt f).stored = d.stored := rfl
@[simp] theorem Dev.setMgmt_storedSeq (f : Mgmt → Mgmt) : (d.setMgmt f).storedSeq = d.storedSeq := rfl
@[simp] theorem Dev.setMgmt_mgmt (f : Mgmt → Mgmt) : (d.setMgmt f).mgmt = f d.mgmt := rfl
@[simp] theorem Dev.setMgmt_modes (f : Mgmt → Mgmt) : (d.setMgmt f).modes = d.modes := rfl
@[simp] theorem Dev.setMgmt_net (f : Mgmt → Mgmt) : (d.setMgmt f).net = d.net := rfl
@[simp] theorem Dev.setMgmt_coh (f : Mgmt → Mgmt) : (d.setMgmt f).coh = d.coh := rfl
@[simp] theorem Dev.setMgmt_pool (f : Mgmt → Mgmt) : (d.setMgmt f).pool = d.pool := rfl
@[simp] theorem Dev.setMgmt_crane (f : Mgmt → Mgmt) : (d.setMgmt f).crane = d.crane := rfl
@[simp] theorem Dev.setMgmt_customs (f : Mgmt → Mgmt) : (d.setMgmt f).customs = d.customs := rfl
@[simp] theorem Dev.setMgmt_tide (f : Mgmt → Mgmt) : (d.setMgmt f).tide = d.tide := rfl
@[simp] theorem Dev.setMgmt_bw (f : Mgmt → Mgmt) : (d.setMgmt f).bw = d.bw := rfl
@[simp] theorem Dev.setMgmt_faults (f : Mgmt → Mgmt) : (d.setMgmt f).faults = d.faults := rfl
@[simp] theorem Dev.setMgmt_side (f : Mgmt → Mgmt) : (d.setMgmt f).side = d.side := rfl
@[simp] theorem Dev.setMgmt_obs (f : Mgmt → Mgmt) : (d.setMgmt f).obs = d.obs := rfl
@[simp] theorem Dev.setMgmt_lines (f : Mgmt → Mgmt) : (d.setMgmt f).lines = d.lines := rfl
@[simp] theorem Dev.setMgmt_sent (f : Mgmt → Mgmt) : (d.setMgmt f).sent = d.sent := rfl
@[simp] theorem Dev.setMgmt_draws (f : Mgmt → Mgmt) : (d.setMgmt f).draws = d.draws := rfl

/-! After `Dev.setModes`. -/

@[simp] theorem Dev.setModes_part (f : Modes → Modes) : (d.setModes f).part = d.part := rfl
@[simp] theorem Dev.setModes_powered (f : Modes → Modes) : (d.setModes f).powered = d.powered := rfl
@[simp] theorem Dev.setModes_boot (f : Modes → Modes) : (d.setModes f).boot = d.boot := rfl
@[simp] theorem Dev.setModes_time (f : Modes → Modes) : (d.setModes f).time = d.time := rfl
@[simp] theorem Dev.setModes_man (f : Modes → Modes) : (d.setModes f).man = d.man := rfl
@[simp] theorem Dev.setModes_lastSeq (f : Modes → Modes) : (d.setModes f).lastSeq = d.lastSeq := rfl
@[simp] theorem Dev.setModes_stored (f : Modes → Modes) : (d.setModes f).stored = d.stored := rfl
@[simp] theorem Dev.setModes_storedSeq (f : Modes → Modes) : (d.setModes f).storedSeq = d.storedSeq := rfl
@[simp] theorem Dev.setModes_mgmt (f : Modes → Modes) : (d.setModes f).mgmt = d.mgmt := rfl
@[simp] theorem Dev.setModes_modes (f : Modes → Modes) : (d.setModes f).modes = f d.modes := rfl
@[simp] theorem Dev.setModes_net (f : Modes → Modes) : (d.setModes f).net = d.net := rfl
@[simp] theorem Dev.setModes_coh (f : Modes → Modes) : (d.setModes f).coh = d.coh := rfl
@[simp] theorem Dev.setModes_pool (f : Modes → Modes) : (d.setModes f).pool = d.pool := rfl
@[simp] theorem Dev.setModes_crane (f : Modes → Modes) : (d.setModes f).crane = d.crane := rfl
@[simp] theorem Dev.setModes_customs (f : Modes → Modes) : (d.setModes f).customs = d.customs := rfl
@[simp] theorem Dev.setModes_tide (f : Modes → Modes) : (d.setModes f).tide = d.tide := rfl
@[simp] theorem Dev.setModes_bw (f : Modes → Modes) : (d.setModes f).bw = d.bw := rfl
@[simp] theorem Dev.setModes_faults (f : Modes → Modes) : (d.setModes f).faults = d.faults := rfl
@[simp] theorem Dev.setModes_side (f : Modes → Modes) : (d.setModes f).side = d.side := rfl
@[simp] theorem Dev.setModes_obs (f : Modes → Modes) : (d.setModes f).obs = d.obs := rfl
@[simp] theorem Dev.setModes_lines (f : Modes → Modes) : (d.setModes f).lines = d.lines := rfl
@[simp] theorem Dev.setModes_sent (f : Modes → Modes) : (d.setModes f).sent = d.sent := rfl
@[simp] theorem Dev.setModes_draws (f : Modes → Modes) : (d.setModes f).draws = d.draws := rfl

/-! After `Dev.setTide`. -/

@[simp] theorem Dev.setTide_part (f : Tide → Tide) : (d.setTide f).part = d.part := rfl
@[simp] theorem Dev.setTide_powered (f : Tide → Tide) : (d.setTide f).powered = d.powered := rfl
@[simp] theorem Dev.setTide_boot (f : Tide → Tide) : (d.setTide f).boot = d.boot := rfl
@[simp] theorem Dev.setTide_time (f : Tide → Tide) : (d.setTide f).time = d.time := rfl
@[simp] theorem Dev.setTide_man (f : Tide → Tide) : (d.setTide f).man = d.man := rfl
@[simp] theorem Dev.setTide_lastSeq (f : Tide → Tide) : (d.setTide f).lastSeq = d.lastSeq := rfl
@[simp] theorem Dev.setTide_stored (f : Tide → Tide) : (d.setTide f).stored = d.stored := rfl
@[simp] theorem Dev.setTide_storedSeq (f : Tide → Tide) : (d.setTide f).storedSeq = d.storedSeq := rfl
@[simp] theorem Dev.setTide_mgmt (f : Tide → Tide) : (d.setTide f).mgmt = d.mgmt := rfl
@[simp] theorem Dev.setTide_modes (f : Tide → Tide) : (d.setTide f).modes = d.modes := rfl
@[simp] theorem Dev.setTide_net (f : Tide → Tide) : (d.setTide f).net = d.net := rfl
@[simp] theorem Dev.setTide_coh (f : Tide → Tide) : (d.setTide f).coh = d.coh := rfl
@[simp] theorem Dev.setTide_pool (f : Tide → Tide) : (d.setTide f).pool = d.pool := rfl
@[simp] theorem Dev.setTide_crane (f : Tide → Tide) : (d.setTide f).crane = d.crane := rfl
@[simp] theorem Dev.setTide_customs (f : Tide → Tide) : (d.setTide f).customs = d.customs := rfl
@[simp] theorem Dev.setTide_tide (f : Tide → Tide) : (d.setTide f).tide = f d.tide := rfl
@[simp] theorem Dev.setTide_bw (f : Tide → Tide) : (d.setTide f).bw = d.bw := rfl
@[simp] theorem Dev.setTide_faults (f : Tide → Tide) : (d.setTide f).faults = d.faults := rfl
@[simp] theorem Dev.setTide_side (f : Tide → Tide) : (d.setTide f).side = d.side := rfl
@[simp] theorem Dev.setTide_obs (f : Tide → Tide) : (d.setTide f).obs = d.obs := rfl
@[simp] theorem Dev.setTide_lines (f : Tide → Tide) : (d.setTide f).lines = d.lines := rfl
@[simp] theorem Dev.setTide_sent (f : Tide → Tide) : (d.setTide f).sent = d.sent := rfl
@[simp] theorem Dev.setTide_draws (f : Tide → Tide) : (d.setTide f).draws = d.draws := rfl

/-! After `Dev.setBw`. -/

@[simp] theorem Dev.setBw_part (f : Bw → Bw) : (d.setBw f).part = d.part := rfl
@[simp] theorem Dev.setBw_powered (f : Bw → Bw) : (d.setBw f).powered = d.powered := rfl
@[simp] theorem Dev.setBw_boot (f : Bw → Bw) : (d.setBw f).boot = d.boot := rfl
@[simp] theorem Dev.setBw_time (f : Bw → Bw) : (d.setBw f).time = d.time := rfl
@[simp] theorem Dev.setBw_man (f : Bw → Bw) : (d.setBw f).man = d.man := rfl
@[simp] theorem Dev.setBw_lastSeq (f : Bw → Bw) : (d.setBw f).lastSeq = d.lastSeq := rfl
@[simp] theorem Dev.setBw_stored (f : Bw → Bw) : (d.setBw f).stored = d.stored := rfl
@[simp] theorem Dev.setBw_storedSeq (f : Bw → Bw) : (d.setBw f).storedSeq = d.storedSeq := rfl
@[simp] theorem Dev.setBw_mgmt (f : Bw → Bw) : (d.setBw f).mgmt = d.mgmt := rfl
@[simp] theorem Dev.setBw_modes (f : Bw → Bw) : (d.setBw f).modes = d.modes := rfl
@[simp] theorem Dev.setBw_net (f : Bw → Bw) : (d.setBw f).net = d.net := rfl
@[simp] theorem Dev.setBw_coh (f : Bw → Bw) : (d.setBw f).coh = d.coh := rfl
@[simp] theorem Dev.setBw_pool (f : Bw → Bw) : (d.setBw f).pool = d.pool := rfl
@[simp] theorem Dev.setBw_crane (f : Bw → Bw) : (d.setBw f).crane = d.crane := rfl
@[simp] theorem Dev.setBw_customs (f : Bw → Bw) : (d.setBw f).customs = d.customs := rfl
@[simp] theorem Dev.setBw_tide (f : Bw → Bw) : (d.setBw f).tide = d.tide := rfl
@[simp] theorem Dev.setBw_bw (f : Bw → Bw) : (d.setBw f).bw = f d.bw := rfl
@[simp] theorem Dev.setBw_faults (f : Bw → Bw) : (d.setBw f).faults = d.faults := rfl
@[simp] theorem Dev.setBw_side (f : Bw → Bw) : (d.setBw f).side = d.side := rfl
@[simp] theorem Dev.setBw_obs (f : Bw → Bw) : (d.setBw f).obs = d.obs := rfl
@[simp] theorem Dev.setBw_lines (f : Bw → Bw) : (d.setBw f).lines = d.lines := rfl
@[simp] theorem Dev.setBw_sent (f : Bw → Bw) : (d.setBw f).sent = d.sent := rfl
@[simp] theorem Dev.setBw_draws (f : Bw → Bw) : (d.setBw f).draws = d.draws := rfl

/-! After `Dev.setFaults`. -/

@[simp] theorem Dev.setFaults_part (f : Faults → Faults) : (d.setFaults f).part = d.part := rfl
@[simp] theorem Dev.setFaults_powered (f : Faults → Faults) : (d.setFaults f).powered = d.powered := rfl
@[simp] theorem Dev.setFaults_boot (f : Faults → Faults) : (d.setFaults f).boot = d.boot := rfl
@[simp] theorem Dev.setFaults_time (f : Faults → Faults) : (d.setFaults f).time = d.time := rfl
@[simp] theorem Dev.setFaults_man (f : Faults → Faults) : (d.setFaults f).man = d.man := rfl
@[simp] theorem Dev.setFaults_lastSeq (f : Faults → Faults) : (d.setFaults f).lastSeq = d.lastSeq := rfl
@[simp] theorem Dev.setFaults_stored (f : Faults → Faults) : (d.setFaults f).stored = d.stored := rfl
@[simp] theorem Dev.setFaults_storedSeq (f : Faults → Faults) : (d.setFaults f).storedSeq = d.storedSeq := rfl
@[simp] theorem Dev.setFaults_mgmt (f : Faults → Faults) : (d.setFaults f).mgmt = d.mgmt := rfl
@[simp] theorem Dev.setFaults_modes (f : Faults → Faults) : (d.setFaults f).modes = d.modes := rfl
@[simp] theorem Dev.setFaults_net (f : Faults → Faults) : (d.setFaults f).net = d.net := rfl
@[simp] theorem Dev.setFaults_coh (f : Faults → Faults) : (d.setFaults f).coh = d.coh := rfl
@[simp] theorem Dev.setFaults_pool (f : Faults → Faults) : (d.setFaults f).pool = d.pool := rfl
@[simp] theorem Dev.setFaults_crane (f : Faults → Faults) : (d.setFaults f).crane = d.crane := rfl
@[simp] theorem Dev.setFaults_customs (f : Faults → Faults) : (d.setFaults f).customs = d.customs := rfl
@[simp] theorem Dev.setFaults_tide (f : Faults → Faults) : (d.setFaults f).tide = d.tide := rfl
@[simp] theorem Dev.setFaults_bw (f : Faults → Faults) : (d.setFaults f).bw = d.bw := rfl
@[simp] theorem Dev.setFaults_faults (f : Faults → Faults) : (d.setFaults f).faults = f d.faults := rfl
@[simp] theorem Dev.setFaults_side (f : Faults → Faults) : (d.setFaults f).side = d.side := rfl
@[simp] theorem Dev.setFaults_obs (f : Faults → Faults) : (d.setFaults f).obs = d.obs := rfl
@[simp] theorem Dev.setFaults_lines (f : Faults → Faults) : (d.setFaults f).lines = d.lines := rfl
@[simp] theorem Dev.setFaults_sent (f : Faults → Faults) : (d.setFaults f).sent = d.sent := rfl
@[simp] theorem Dev.setFaults_draws (f : Faults → Faults) : (d.setFaults f).draws = d.draws := rfl

/-! After `Dev.setSide`. -/

@[simp] theorem Dev.setSide_part (f : Side → Side) : (d.setSide f).part = d.part := rfl
@[simp] theorem Dev.setSide_powered (f : Side → Side) : (d.setSide f).powered = d.powered := rfl
@[simp] theorem Dev.setSide_boot (f : Side → Side) : (d.setSide f).boot = d.boot := rfl
@[simp] theorem Dev.setSide_time (f : Side → Side) : (d.setSide f).time = d.time := rfl
@[simp] theorem Dev.setSide_man (f : Side → Side) : (d.setSide f).man = d.man := rfl
@[simp] theorem Dev.setSide_lastSeq (f : Side → Side) : (d.setSide f).lastSeq = d.lastSeq := rfl
@[simp] theorem Dev.setSide_stored (f : Side → Side) : (d.setSide f).stored = d.stored := rfl
@[simp] theorem Dev.setSide_storedSeq (f : Side → Side) : (d.setSide f).storedSeq = d.storedSeq := rfl
@[simp] theorem Dev.setSide_mgmt (f : Side → Side) : (d.setSide f).mgmt = d.mgmt := rfl
@[simp] theorem Dev.setSide_modes (f : Side → Side) : (d.setSide f).modes = d.modes := rfl
@[simp] theorem Dev.setSide_net (f : Side → Side) : (d.setSide f).net = d.net := rfl
@[simp] theorem Dev.setSide_coh (f : Side → Side) : (d.setSide f).coh = d.coh := rfl
@[simp] theorem Dev.setSide_pool (f : Side → Side) : (d.setSide f).pool = d.pool := rfl
@[simp] theorem Dev.setSide_crane (f : Side → Side) : (d.setSide f).crane = d.crane := rfl
@[simp] theorem Dev.setSide_customs (f : Side → Side) : (d.setSide f).customs = d.customs := rfl
@[simp] theorem Dev.setSide_tide (f : Side → Side) : (d.setSide f).tide = d.tide := rfl
@[simp] theorem Dev.setSide_bw (f : Side → Side) : (d.setSide f).bw = d.bw := rfl
@[simp] theorem Dev.setSide_faults (f : Side → Side) : (d.setSide f).faults = d.faults := rfl
@[simp] theorem Dev.setSide_side (f : Side → Side) : (d.setSide f).side = f d.side := rfl
@[simp] theorem Dev.setSide_obs (f : Side → Side) : (d.setSide f).obs = d.obs := rfl
@[simp] theorem Dev.setSide_lines (f : Side → Side) : (d.setSide f).lines = d.lines := rfl
@[simp] theorem Dev.setSide_sent (f : Side → Side) : (d.setSide f).sent = d.sent := rfl
@[simp] theorem Dev.setSide_draws (f : Side → Side) : (d.setSide f).draws = d.draws := rfl

/-! After `Dev.setObs`. -/

@[simp] theorem Dev.setObs_part (f : Obs → Obs) : (d.setObs f).part = d.part := rfl
@[simp] theorem Dev.setObs_powered (f : Obs → Obs) : (d.setObs f).powered = d.powered := rfl
@[simp] theorem Dev.setObs_boot (f : Obs → Obs) : (d.setObs f).boot = d.boot := rfl
@[simp] theorem Dev.setObs_time (f : Obs → Obs) : (d.setObs f).time = d.time := rfl
@[simp] theorem Dev.setObs_man (f : Obs → Obs) : (d.setObs f).man = d.man := rfl
@[simp] theorem Dev.setObs_lastSeq (f : Obs → Obs) : (d.setObs f).lastSeq = d.lastSeq := rfl
@[simp] theorem Dev.setObs_stored (f : Obs → Obs) : (d.setObs f).stored = d.stored := rfl
@[simp] theorem Dev.setObs_storedSeq (f : Obs → Obs) : (d.setObs f).storedSeq = d.storedSeq := rfl
@[simp] theorem Dev.setObs_mgmt (f : Obs → Obs) : (d.setObs f).mgmt = d.mgmt := rfl
@[simp] theorem Dev.setObs_modes (f : Obs → Obs) : (d.setObs f).modes = d.modes := rfl
@[simp] theorem Dev.setObs_net (f : Obs → Obs) : (d.setObs f).net = d.net := rfl
@[simp] theorem Dev.setObs_coh (f : Obs → Obs) : (d.setObs f).coh = d.coh := rfl
@[simp] theorem Dev.setObs_pool (f : Obs → Obs) : (d.setObs f).pool = d.pool := rfl
@[simp] theorem Dev.setObs_crane (f : Obs → Obs) : (d.setObs f).crane = d.crane := rfl
@[simp] theorem Dev.setObs_customs (f : Obs → Obs) : (d.setObs f).customs = d.customs := rfl
@[simp] theorem Dev.setObs_tide (f : Obs → Obs) : (d.setObs f).tide = d.tide := rfl
@[simp] theorem Dev.setObs_bw (f : Obs → Obs) : (d.setObs f).bw = d.bw := rfl
@[simp] theorem Dev.setObs_faults (f : Obs → Obs) : (d.setObs f).faults = d.faults := rfl
@[simp] theorem Dev.setObs_side (f : Obs → Obs) : (d.setObs f).side = d.side := rfl
@[simp] theorem Dev.setObs_obs (f : Obs → Obs) : (d.setObs f).obs = f d.obs := rfl
@[simp] theorem Dev.setObs_lines (f : Obs → Obs) : (d.setObs f).lines = d.lines := rfl
@[simp] theorem Dev.setObs_sent (f : Obs → Obs) : (d.setObs f).sent = d.sent := rfl
@[simp] theorem Dev.setObs_draws (f : Obs → Obs) : (d.setObs f).draws = d.draws := rfl

end Sys2Proof.Machine
end

