-- ==== Sys2Proof/Laws/Tab.lean ====
section
/-!
SUPPORT. The sparse tables: reading after writing, and the canonical form.
-/

namespace Sys2Proof.Machine

variable {α : Type}

@[simp] theorem Tab.get_nil (x : α) (k : Nat) : Tab.get x [] k = x := rfl

/-- Reading skips an entry of another key. -/
theorem Tab.get_cons_ne (x : α) (p : Nat × α) (t : Tab α) (k : Nat) (h : p.1 ≠ k) : Tab.get x (p :: t) k = Tab.get x t k := by
  obtain ⟨a, b⟩ := p
  simp only [Tab.get]
  exact if_neg h

/-- A dropped key reads as an unlisted one. -/
theorem Tab.get_drop_same (x : α) (t : Tab α) (k : Nat) : Tab.get x (Tab.drop t k) k = x := by
  unfold Tab.drop
  induction t with
  | nil => rfl
  | cons p t ih =>
    by_cases h : p.1 = k
    · simp [h, ih]
    · have hk : (p.1 != k) = true := by simpa using h
      rw [List.filter_cons_of_pos (p := fun (q : Nat × α) => q.1 != k) hk, Tab.get_cons_ne x p _ k h, ih]

/-- Dropping a key leaves every other one. -/
theorem Tab.get_drop_other (x : α) (t : Tab α) (k j : Nat) (h : j ≠ k) : Tab.get x (Tab.drop t k) j = Tab.get x t j := by
  unfold Tab.drop
  induction t with
  | nil => rfl
  | cons p t ih =>
    by_cases hp : p.1 = k
    · have : p.1 ≠ j := fun e => h (e ▸ hp)
      rw [Tab.get_cons_ne x p t j this, ← ih]
      simp [hp]
    · have hk : (p.1 != k) = true := by simpa using hp
      rw [List.filter_cons_of_pos (p := fun (q : Nat × α) => q.1 != k) hk]
      obtain ⟨a, b⟩ := p
      simp only [Tab.get, ih]

/-- An inserted entry is read. -/
theorem Tab.get_insert_same (x : α) (t : Tab α) (k : Nat) (v : α) (h : ∀ p ∈ t, p.1 ≠ k) : Tab.get x (Tab.insert t k v) k = v := by
  induction t with
  | nil => simp [Tab.insert, Tab.get]
  | cons p t ih =>
    obtain ⟨a, b⟩ := p
    have ha : a ≠ k := h (a, b) (by simp)
    unfold Tab.insert
    split
    · simp [Tab.get]
    · rw [Tab.get_cons_ne x (a, b) _ k ha]
      exact ih fun p hp => h p (by simp [hp])

/-- Inserting an entry leaves every other key. -/
theorem Tab.get_insert_other (x : α) (t : Tab α) (k j : Nat) (v : α) (h : j ≠ k) : Tab.get x (Tab.insert t k v) j = Tab.get x t j := by
  induction t with
  | nil => exact Tab.get_cons_ne x (k, v) [] j (fun e => h e.symm)
  | cons p t ih =>
    obtain ⟨a, b⟩ := p
    unfold Tab.insert
    split
    · exact Tab.get_cons_ne x (k, v) _ j (fun e => h e.symm)
    · simp only [Tab.get, ih]

/-- No dropped key is listed. -/
theorem Tab.drop_ne (t : Tab α) (k : Nat) : ∀ p ∈ Tab.drop t k, p.1 ≠ k := by
  intro p hp
  simpa using (List.mem_filter.1 hp).2

/-- A key reads as it was last written. -/
theorem Tab.get_set_same [DecidableEq α] (x : α) (t : Tab α) (k : Nat) (v : α) : Tab.get x (Tab.set x t k v) k = v := by
  unfold Tab.set
  split
  · rename_i h
    rw [Tab.get_drop_same, h]
  · exact Tab.get_insert_same x _ k v (Tab.drop_ne t k)

/-- A write leaves every other key. -/
theorem Tab.get_set_other [DecidableEq α] (x y : α) (t : Tab α) (k j : Nat) (v : α) (h : j ≠ k) :
    Tab.get y (Tab.set x t k v) j = Tab.get y t j := by
  unfold Tab.set
  split
  · exact Tab.get_drop_other y t k j h
  · rw [Tab.get_insert_other y _ k j v h, Tab.get_drop_other y t k j h]

/-- The canonical form, spelt out for a first entry. -/
theorem Tab.wf_cons [DecidableEq α] (dflt : Nat → α) (p : Nat × α) (t : Tab α) :
    Tab.wf dflt (p :: t) = true ↔ p.2 ≠ dflt p.1 ∧ (∀ q ∈ t, p.1 < q.1) ∧ Tab.wf dflt t = true := by
  obtain ⟨a, b⟩ := p
  simp [Tab.wf, and_assoc]

/-- Choosing entries keeps the canonical form. -/
theorem Tab.wf_filter [DecidableEq α] (dflt : Nat → α) (t : Tab α) (f : Nat × α → Bool) (h : Tab.wf dflt t = true) :
    Tab.wf dflt (t.filter f) = true := by
  induction t with
  | nil => rfl
  | cons p t ih =>
    rw [Tab.wf_cons] at h
    by_cases hf : f p = true
    · rw [List.filter_cons_of_pos hf, Tab.wf_cons]
      exact ⟨h.1, fun q hq => h.2.1 q (List.mem_filter.1 hq).1, ih h.2.2⟩
    · rw [List.filter_cons_of_neg hf]
      exact ih h.2.2

/-- The entries after an insertion. -/
theorem Tab.mem_insert (t : Tab α) (k : Nat) (v : α) (p : Nat × α) (h : p ∈ Tab.insert t k v) : p = (k, v) ∨ p ∈ t := by
  induction t with
  | nil => simpa [Tab.insert] using h
  | cons q t ih =>
    obtain ⟨a, b⟩ := q
    unfold Tab.insert at h
    split at h
    · simpa using h
    · rcases List.mem_cons.1 h with h | h
      · exact .inr (by simp [h])
      · rcases ih h with h | h
        · exact .inl h
        · exact .inr (by simp [h])

/-- Inserting an unlisted key with a value of its own keeps the canonical form. -/
theorem Tab.wf_insert [DecidableEq α] (dflt : Nat → α) (t : Tab α) (k : Nat) (v : α) (hv : v ≠ dflt k) (h : Tab.wf dflt t = true)
    (hk : ∀ p ∈ t, p.1 ≠ k) : Tab.wf dflt (Tab.insert t k v) = true := by
  induction t with
  | nil => simp [Tab.insert, Tab.wf, hv]
  | cons p t ih =>
    obtain ⟨a, b⟩ := p
    have hw := (Tab.wf_cons dflt (a, b) t).1 h
    have ha : a ≠ k := hk (a, b) (by simp)
    unfold Tab.insert
    split
    · rename_i hlt
      rw [Tab.wf_cons]
      refine ⟨hv, fun q hq => ?_, h⟩
      rcases List.mem_cons.1 hq with rfl | hq
      · exact hlt
      · exact Nat.lt_trans hlt (hw.2.1 q hq)
    · rename_i hlt
      rw [Tab.wf_cons]
      refine ⟨hw.1, fun q hq => ?_, ih hw.2.2 fun p hp => hk p (by simp [hp])⟩
      rcases Tab.mem_insert t k v q hq with rfl | hq
      · show a < k
        omega
      · exact hw.2.1 q hq

/-- A write keeps the canonical form. -/
theorem Tab.wf_set [DecidableEq α] (dflt : Nat → α) (t : Tab α) (k : Nat) (v : α) (h : Tab.wf dflt t = true) :
    Tab.wf dflt (Tab.set (dflt k) t k v) = true := by
  unfold Tab.set
  split
  · exact Tab.wf_filter dflt t _ h
  · rename_i hv
    exact Tab.wf_insert dflt _ k v hv (Tab.wf_filter dflt t _ h) (Tab.drop_ne t k)

end Sys2Proof.Machine
end

