-- ==== Sys2Proof/Tests/Slice0.lean ====
section
/-!
SUPPORT. Tests: the checks of WellFormed refuse what a sender cannot send; small steps and the spec's own worked values; and,
for every statement with hypotheses, a state and operands that meet them.
-/

namespace Slice

set_option Elab.async false

open Sys2Proof Sys2Proof.Machine

/-! States to start from. -/

/-- A device that runs, with a session of the Harbourmaster's role open and the FM API on. -/
def managed : Dev :=
  { State.reset.dev with
      mgmt := { State.reset.dev.mgmt with sessions := [{ slot := 1, credRole := 4, cred := 0, binding := ⟨1, 0, 0, {}⟩, openTime := 0 }] }
      man := Tab.set 0 (Tab.set 0 State.reset.dev.man (Obj.transportRoleCap 2) 4) Obj.fmapiEnable 1 }

/-- In mode `k`. -/
def inMode (k : Nat) (d : Dev) : Dev := d.put Obj.currentMode k

/-- In power state `k`, with its own power request over. -/
def inPower (k : Nat) (d : Dev) : Dev :=
  { d with
      modes := { d.modes with ownPowerReq := false }
      tide := { d.tide with rising := none } }.put Obj.powerState k

/-- Quay `k` in role `r` and state `st`, with its link in L0. -/
def withQuay (k r st : Nat) (d : Dev) : Dev :=
  ((d.put (Obj.role k) r).put (Obj.quayState k) st).setQuay k fun x =>
    { x with l0 := true, width := 16, rate := 6, protocol := 2, perst := false, dlDown := false, bi := true }

/-- In Slipway in Full. -/
def full : Dev := inPower 0 managed
/-- With a Host, a Memory and a Fabric quay UP. -/
def linked : Dev := withQuay 8 3 3 (withQuay 4 2 3 (withQuay 0 1 3 full))
/-- In a service mode. -/
def working : Dev := inMode 1 linked
/-- A write of `n` bytes from the session. -/
def byManager (n : Nat) : Call := { caller := .session 1, len := n }
/-- The same, conditional on sequence number `e`. -/
def ifSeq (n e : Nat) : Call := { caller := .session 1, len := n, expect := some e }

/-- The device with nothing waiting. -/
def alone (d : Dev) : State := { dev := d, pending := [] }

/-- The next state's device, or the given one where there is none. -/
def after (o : Host.Outcome State Fault Refusal) : Dev :=
  match o with
  | .next t => t.dev
  | _ => managed

/-- The status of the last answer that the step sent. -/
def lastStatus (o : Host.Outcome State Fault Refusal) : Option Nat :=
  (after o).sent.reverse.findSome? fun x => match x with
    | .answer _ a => some a.status
    | _ => none

/-! Ill-formed commands are refused by the check, and well-formed ones pass it. -/

theorem test_wf_value : (Instr.fabricIdWrite (byManager 2) 0xFFFF).wf = true := by decide
theorem test_wf_value_too_long : (Instr.fabricIdWrite (byManager 2) 0x10000).wf = false := by decide
theorem test_wf_session_slot : (Instr.sessionClose { caller := .session 17, len := 1 } 1).wf = false := by decide
theorem test_wf_no_slot : (Instr.heartbeatTimeout 0).wf = false := by decide
theorem test_wf_device_is_no_sender : (Instr.serviceGo { caller := .device, len := 1 } 0).wf = false := by decide
theorem test_wf_length : (Instr.slotPowerOn (byManager 0x10000) 0).wf = false := by decide
theorem test_wf_expect_seq : (Instr.slotPowerOn (ifSeq 1 (2 ^ 64)) 0).wf = false := by decide
theorem test_wf_cas_seq : (Instr.writeCas (byManager 1) ⟨0x1030, 1⟩ (2 ^ 64) 0).wf = false := by decide
theorem test_wf_index : (Instr.read (byManager 0) ⟨0x10000, 1⟩).wf = false := by decide
theorem test_wf_sub : (Instr.describe (byManager 0) ⟨0x1000, 0x100⟩).wf = false := by decide
theorem test_wf_transport : (Instr.identify ⟨6, 0, 0, {}⟩).wf = false := by decide

/-- A message of one operation. -/
def messageOf (id : Nat) (x : ZmpOp) : ZmpMsg :=
  { msgId := id, stopOnError := false, bytes := 24, wellFormed := true, unanswered := 0, ops := [x] }

theorem test_wf_msg_id : (Instr.zmpTunnel ⟨3, 0, 0, {}⟩ (messageOf 0x10000 (.read ⟨0x1000, 1⟩))).wf = false := by decide
theorem test_wf_op : (Instr.zmpTunnel ⟨3, 0, 0, {}⟩ (messageOf 1 (.write ⟨0x1000, 1⟩ 1 256))).wf = false := by decide
theorem test_wf_op_length : (Instr.zmpTunnel ⟨3, 0, 0, {}⟩ (messageOf 1 (.write ⟨0x1000, 1⟩ 0x10000 0))).wf = false := by decide
theorem test_wf_op_seq : (Instr.zmpTunnel ⟨3, 0, 0, {}⟩ (messageOf 1 (.writeCas ⟨0x1000, 1⟩ (2 ^ 64) 1 0))).wf = false := by decide

/-- A frame of a body. -/
def frameOf (magic version len : Nat) (b : FrameBody) : Frame :=
  { binding := ⟨1, 0, 0, {}⟩, magic := magic, version := version, bodyLen := len, lenOk := true, body := b }

theorem test_wf_frame : (Instr.zmpFrame (frameOf 0x5A4D 1 0 .identify)).wf = true := by decide
theorem test_wf_frame_magic : (Instr.zmpFrame (frameOf 0x10000 1 0 .identify)).wf = false := by decide
theorem test_wf_frame_version : (Instr.zmpFrame (frameOf 0x5A4D 256 0 .identify)).wf = false := by decide
theorem test_wf_frame_length : (Instr.zmpFrame (frameOf 0x5A4D 1 0x10000 .identify)).wf = false := by decide
theorem test_wf_frame_slot :
    (Instr.zmpFrame (frameOf 0x5A4D 1 0 (.secured 0 (messageOf 1 (.next ⟨0x1000, 1⟩))))).wf = false := by decide

/-! Worked values of the spec. -/

/-- Table 15.6. -/
theorem test_linear11 : pmbusValue 0 0 0xD3E6 0x10000 = 0xF9800 ∧ pmbusValue 0 0 0xD3E6 0x20000 = 0x1F3000 := by decide +kernel
/-- Table 15.6. -/
theorem test_linear16 : pmbusValue 1 0x17 0x0190 0x10000 = 0xC800 := by decide +kernel
/-- The example of R415. -/
theorem test_cut : cutAccess 32 40 0x3C 40 = [(0x3C, 4), (0x40, 32), (0x60, 4)] := by decide +kernel
/-- The example of R67: a x16 quay whose lane 5 failed. -/
theorem test_widest_working : widestWorking 16 16 (2 ^ 5) = some (8, true) := by decide +kernel
/-- R67: lane 0 and the highest lane have failed. -/
theorem test_no_working_width : widestWorking 16 16 (2 ^ 15 + 1) = none := by decide +kernel
/-- The example below Table 14.1: slice 6, slot channel 7, the thermal source. -/
theorem test_sources : sourceId 10 6 = 0x2806 ∧ sourceId 6 7 = 0x1807 ∧ sourceId 21 0 = 0x5400 := by decide
/-- The device Off, as manufacture leaves it. -/
def offAtFirst : Dev := { powered := false, boot := .off, mgmt := { seqBlock := 1 }, bw := { running := none } }

/-- R371, R372: its start gives State.reset. -/
theorem test_power_up : (effVauxGood {} offAtFirst).man = State.reset.dev.man ∧
    (effVauxGood {} offAtFirst).mgmt = State.reset.dev.mgmt ∧
    (effVauxGood {} offAtFirst).modes = State.reset.dev.modes ∧ (effVauxGood {} offAtFirst).tide = State.reset.dev.tide ∧
    (effVauxGood {} offAtFirst).net = State.reset.dev.net ∧ (effVauxGood {} offAtFirst).sent = State.reset.dev.sent := by decide +kernel

/-! Small steps. -/

theorem test_tick : (after (step (alone managed))).time = 1 := by decide +kernel
/-- Table 16.4, event 0x09: a core flit toward quay 0 waits for credit only. -/
theorem test_credit_wait :
    (after (step (alone (((linked.put 0xC10010 (2 ^ 31 + 0x09)).setNet fun n => { n with
      voq := [{ inp := 128, out := 0, cls := 4, ch := .completion, units := 1, left := 1, admitted := 0, reserved := 1, data := false
                items := [{ msg := { chan := .completion } }] }] }))))).get 0xC10020 = 1 := by decide +kernel
theorem test_front_first :
    (after (step { dev := full, pending := [.refclkLoss 0, .vauxLoss] })).powered = true := by decide +kernel
/-- R96. -/
theorem test_fabric_id_range : lastStatus (exec (.fabricIdWrite (ifSeq 2 0) 0x800) (alone full)) = some Status.badValue := by
  decide +kernel
/-- R96. -/
theorem test_fabric_id : (after (exec (.fabricIdWrite (ifSeq 2 0) 0x7FF) (alone full))).get Obj.fabricId = 0x7FF := by decide +kernel
/-- R302. -/
theorem test_fabric_id_unconditional :
    lastStatus (exec (.fabricIdWrite (byManager 2) 1) (alone full)) = some Status.conditionRequired := by decide +kernel
/-- R287. -/
theorem test_bad_length : lastStatus (exec (.fabricIdWrite (ifSeq 1 0) 1) (alone full)) = some Status.badLength := by decide +kernel
/-- R25: SERVICE_GO in Standby. -/
theorem test_service_go_in_standby :
    lastStatus (exec (.serviceGo (byManager 1) 1) (alone ((inPower 2 managed).put Obj.ledgerState 1))) = some Status.wrongMode := by
  decide +kernel
/-- The example of R26: the second of two mode changes is refused as busy. -/
theorem test_second_mode_change :
    lastStatus (exec (.modeChange (byManager 1) 3)
      (alone (after (exec (.modeChange (byManager 1) 2) (alone working))))) = some Status.busy := by decide +kernel
/-- R290: a read of an object that does not exist. -/
theorem test_no_such_object : lastStatus (exec (.read (byManager 0) ⟨0x1FFF, 1⟩) (alone managed)) = some Status.noSuchObject := by
  decide +kernel
/-- Table 10.17: PART of a W512. -/
theorem test_read_device_id :
    (after (exec (.read (byManager 0) ⟨0x1000, 3⟩) (alone managed))).sent.getLast?.map (fun x => match x with
      | .answer _ a => (a.status, a.value)
      | _ => (99, 0)) = some (0, 0x512) := by decide +kernel
/-- R270: two regions that overlap fail the access of a privileged master as well. -/
theorem test_overlap :
    let r := 1 + 2 + 2 ^ 12 + 2 ^ 76
    ({ regions := [(256 * 5, r), (256 * 5 + 1, r)], flips := [(5, 1)] } : CTable).check true 5 1 0x1000 ≠ .pass 0 0 false ∧
    ({ regions := [(256 * 5, r)] } : CTable).check true 5 1 0x1000 = .pass 0 0 false := by decide +kernel
/-- R63: a lane at the reference error rate of its data rate has FOM 128, at a tenth of it 144, and without error 255. -/
theorem test_fom : fomOf 4 (10 ^ 12) = 128 ∧ fomOf 6 (10 ^ 18) = 128 ∧ fomOf 6 (10 ^ 17) = 144 ∧ fomOf 6 0 = 255 := by decide +kernel
/-- R65: nine samples below the level raise nothing. -/
theorem test_nine_samples :
    ((List.replicate 9 (10 ^ 26)).foldl (fun d f => d.sampleLane 0 0 f) (linked.put (Obj.fomWarnLevel 0) 5)).lines.length = 0 := by
  decide +kernel
/-- R65: the tenth raises one error, the eleventh no other. -/
theorem test_eleven_samples :
    ((List.replicate 11 (10 ^ 26)).foldl (fun d f => d.sampleLane 0 0 f) (linked.put (Obj.fomWarnLevel 0) 5)).lines.length = 1 := by
  decide +kernel
/-- R370: VAUX goes. -/
theorem test_off : (after (exec .vauxLoss (alone full))).powered = false := by decide +kernel
/-- No word spells a command. -/
theorem test_no_words : decodeTableWord 8 0 = none := rfl

/-! The hypotheses of the statements can be met. -/

/-- StepRunsFrontCommand. -/
theorem test_met_StepRunsFrontCommand :
    ∃ (c : Instr) (rest : List Instr) (s : State), s.pending = c :: rest :=
  ⟨.vauxLoss, [], { dev := full, pending := [.vauxLoss] }, rfl⟩

/-- The clauses of EmptyQueueIdles. -/
theorem test_met_EmptyQueueIdles :
    (∃ s : State, s.pending = [] ∧ s.dev.powered = false) ∧
    (∃ s : State, s.pending = [] ∧ s.dev.powered = true ∧ s.dev.mgmt.slew = 0) :=
  ⟨⟨alone { powered := false, boot := .off }, rfl, rfl⟩, ⟨State.reset, rfl, rfl, rfl⟩⟩

/-- The clauses of OffDeviceStaysOff. -/
theorem test_met_OffDeviceStaysOff :
    (∃ (c : Instr) (s : State), s.dev.isOff ∧ notVaux c = true) ∧
    (∃ s t : State, s.dev.isOff ∧ (∀ i ∈ s.pending, isVauxGood i = false) ∧ step s = .next t) :=
  ⟨⟨.tapReset, alone { powered := false, boot := .off }, ⟨rfl, rfl⟩, rfl⟩,
   ⟨alone { powered := false, boot := .off }, alone { powered := false, boot := .off }, ⟨rfl, rfl⟩, by decide, rfl⟩⟩

/-- The clauses of ObjectsReadBack. -/
theorem test_met_ObjectsReadBack : (∃ o p : Nat, p ≠ o) ∧ State.reset.dev.tablesWf :=
  ⟨⟨0, 1, by decide⟩, by unfold Dev.tablesWf; decide +kernel⟩

/-- The clauses of SerialiserJudges: a refused write, an accepted one, and a number below its block. -/
theorem test_met_SerialiserJudges :
    (∃ (a : Act) (c : Call) (o w : Nat) (d : Dev), d.judge a c o (valueOf c w) ≠ Status.success ∧
      d.generalStatus c o w ≠ Status.success) ∧
    (∃ (a : Act) (c : Call) (o w : Nat) (d : Dev), d.judge a c o (valueOf c w) = Status.success) ∧
    (∃ d : Dev, d.nextSeq < d.mgmt.seqBlock) :=
  ⟨⟨{}, byManager 1, Obj.tlmEnable, 2, full, by decide +kernel, by decide +kernel⟩,
   ⟨{}, byManager 1, Obj.tlmEnable, 1, full, by decide +kernel⟩, ⟨full, by decide +kernel⟩⟩

/-- The hypotheses of PowerLossKeepsPersistent, with an object of each class. -/
theorem test_met_PowerLossKeepsPersistent :
    ∃ s : State, s.dev.tablesWf ∧ Tab.wf (objDefault s.dev.part) s.dev.stored = true ∧
      (∀ p ∈ s.dev.stored, persOf p.1 = .poc) ∧ (∀ p ∈ s.dev.storedSeq, persOf p.1 = .poc) ∧
      (∃ o, persOf o = .per) ∧ (∃ o, persOf o = .poc) ∧ ∃ o, persOf o = .vol :=
  ⟨State.reset, by unfold Dev.tablesWf; decide +kernel, rfl, by decide, by decide, ⟨Obj.fabricId, by decide +kernel⟩, ⟨0xD11001, by decide +kernel⟩,
   ⟨Obj.tgStart 0, by decide +kernel⟩⟩

/-- The clauses of FabricIdWriteRule: the first value too high, the last legal one outside Slipway, and in it. -/
theorem test_met_FabricIdWriteRule :
    (∃ (s : State) (c : Call) (v r : Nat), s.dev.powered = true ∧ s.dev.callerOpen c.caller = true ∧
      s.dev.callerRole c.caller = some r ∧ 2 ≤ r ∧ s.dev.mastered c.caller 1 = false ∧ c.len = 2 ∧
      c.expect = some (s.dev.lastSeqOf Obj.fabricId) ∧ c.env.journalFails = false ∧ valueOf c v = 0x800) ∧
    (∃ (s : State) (c : Call) (v r : Nat), s.dev.powered = true ∧ s.dev.callerOpen c.caller = true ∧
      s.dev.callerRole c.caller = some r ∧ 2 ≤ r ∧ s.dev.mastered c.caller 1 = false ∧ c.len = 2 ∧
      c.expect = some (s.dev.lastSeqOf Obj.fabricId) ∧ c.env.journalFails = false ∧ valueOf c v = 0x7FF ∧ s.dev.mode ≠ 0) ∧
    (∃ (s : State) (c : Call) (v r : Nat), s.dev.powered = true ∧ s.dev.callerOpen c.caller = true ∧
      s.dev.callerRole c.caller = some r ∧ 2 ≤ r ∧ s.dev.mastered c.caller 1 = false ∧ c.len = 2 ∧
      c.expect = some (s.dev.lastSeqOf Obj.fabricId) ∧ c.env.journalFails = false ∧ valueOf c v = 0x7FF ∧ s.dev.mode = 0) :=
  ⟨⟨alone full, ifSeq 2 0, 0x800, 4, by decide +kernel⟩, ⟨alone working, ifSeq 2 0, 0x7FF, 4, by decide +kernel⟩,
   ⟨alone full, ifSeq 2 0, 0x7FF, 4, by decide +kernel⟩⟩

/-- One region of master 5 that covers page 1, and its neighbour. -/
def oneRegion (n : Nat) : CTable := { regions := [(256 * 5 + n, 1 + 2 + 2 ^ 12 + 2 ^ 76)] }

/-- The clauses of CustomsCheckDecides: no region, one (at the first and the last byte of its page), and two. -/
theorem test_met_CustomsCheckDecides :
    (∃ (t : CTable) (m addr : Nat), Tab.wf (fun _ => 0) t.regions = true ∧ ∀ n : Nat, ¬ t.covers m n addr) ∧
    (∃ (t : CTable) (m addr n : Nat), Tab.wf (fun _ => 0) t.regions = true ∧ t.covers m n addr ∧ addr = 0x1000) ∧
    (∃ (t : CTable) (m addr n : Nat), Tab.wf (fun _ => 0) t.regions = true ∧ t.covers m n addr ∧ addr = 0x1FFF) ∧
    (∃ (t : CTable) (m addr n k : Nat), Tab.wf (fun _ => 0) t.regions = true ∧ t.covers m n addr ∧ t.covers m k addr ∧ n ≠ k) :=
  ⟨⟨{}, 5, 0, rfl, fun n h => absurd h.2.1 (by simp [CTable.region, Tab.get, regionValid, bitAt])⟩,
   ⟨oneRegion 0, 5, 0x1000, 0, by unfold CTable.covers; decide +kernel⟩,
   ⟨oneRegion 255, 5, 0x1FFF, 255, by unfold CTable.covers; decide +kernel⟩,
   ⟨{ regions := (oneRegion 0).regions ++ (oneRegion 255).regions }, 5, 0x1000, 0, 255, by unfold CTable.covers; decide +kernel⟩⟩

/-- The clauses of LaneWarningOnce: ten samples below the level, and one at it. -/
theorem test_met_LaneWarningOnce :
    (∃ (d : Dev) (q : Fin 128) (i : Fin 16) (ests : List Nat), Tab.get 0 (d.quay q).warnRun i = 0 ∧
      bitAt (d.quay q).warned i = false ∧ (∀ e ∈ ests, fomOf (d.quay q).rate e < d.get (Obj.fomWarnLevel q)) ∧ ests.length = 10) ∧
    (∃ (d : Dev) (q : Fin 128) (est : Nat), fomOf (d.quay q).rate est = d.get (Obj.fomWarnLevel q)) :=
  ⟨⟨linked.put (Obj.fomWarnLevel 0) 5, 0, 15, List.replicate 10 (10 ^ 26), by decide +kernel⟩,
   ⟨linked.put (Obj.fomWarnLevel 0) 128, 0, 10 ^ 18, by decide +kernel⟩⟩

/-- The clauses of HomeSlices, at the highest berth, Basin and line. -/
theorem test_met_HomeSlices :
    (∃ berth line : Nat, berth < 1024 ∧ line < 2 ^ 38 ∧ berth = 1023 ∧ line = 2 ^ 38 - 1) ∧
    (∃ b line : Nat, b < 64 ∧ line < 2 ^ 42 ∧ b = 63 ∧ line = 2 ^ 42 - 1) :=
  ⟨⟨1023, 2 ^ 38 - 1, by decide⟩, ⟨63, 2 ^ 42 - 1, by decide⟩⟩

/-- A session of role `k`. -/
def bound (k : Nat) : Dev :=
  { full with mgmt := { full.mgmt with sessions := [{ slot := 1, credRole := k, cred := 0, binding := ⟨1, 0, 0, {}⟩, openTime := 0 }] } }

/-- The clauses of CredentialsAreGuarded, at the roles on either side of Security Officer. -/
theorem test_met_CredentialsAreGuarded :
    (∃ (d : Dev) (slot r : Nat), d.callerRole (.session slot) = some r ∧ r < 3) ∧
    (∃ (d : Dev) (slot r : Nat) (k : Fin 63), d.callerRole (.session slot) = some r ∧ 3 ≤ r ∧
      credKind (d.get (Obj.credential (k + 1))) = 2) ∧
    (∃ (s : State) (c : Call) (k : Fin 64) (v : Nat), s.dev.mgmt.after = [] ∧ s.dev.mode ≠ 4 ∧
      s.dev.admits c (Obj.credential (k + 1)) (valueOf c v) ∧ credKind (valueOf c v) ≤ 2 ∧ credRole (valueOf c v) ≤ 3) :=
  ⟨⟨bound 2, 1, 2, by decide +kernel⟩, ⟨(bound 3).put (Obj.credential 1) 2, 1, 3, 0, by decide +kernel⟩,
   ⟨alone full, byManager 112, 0, 0x302, by unfold Dev.admits; decide +kernel⟩⟩

/-- The clauses of VauxAndThermalComplete that are about a device without power. -/
theorem test_met_VauxAndThermalComplete_off :
    (∃ (f : StartFacts) (s : State), s.dev.boot = .off ∧ f.testMode = false) ∧
    (∃ (f : StartFacts) (s : State), s.dev.boot = .off ∧ f.testMode = true) :=
  ⟨⟨{}, alone { powered := false, boot := .off }, rfl, rfl⟩, ⟨{ testMode := true }, alone { powered := false, boot := .off }, rfl, rfl⟩⟩

/-- A device whose instance 0 has an event ring of 16 entries and one record that waits (R250). -/
def ringed : Dev :=
  (working.setCrane fun c => { c with
    insts := [(0, { bound := true, evtBase := 4096, evtEntries := 16, evtVector := 5, evtTail := 15, evtHead := 3, msixTable := [(5, 0)] })]
    ringWork := [(0, info 1 0x8002 0 0xFFFF 7)] }).setCustoms fun c => { c with tables := [{ flips := [(instMaster 0, 1)] }] }

/-- Table 8.12, R250: the record is written at EVT_TAIL, which wraps, and EVT_VECTOR is raised. -/
theorem test_event_ring :
    (ringed.tick.inst 0).evtTail = 0 ∧ ringed.tick.crane.ringWork = [] ∧
      Out.hostMem 0 (4096 + 64 * 15) (info 1 0x8002 0 0xFFFF 7).record ∈ ringed.tick.sent ∧ Out.msix 0 5 ∈ ringed.tick.sent := by
  decide +kernel

/-- The clauses of PldmAndMctpComplete that name a state. -/
theorem test_met_PldmAndMctpComplete_state :
    (∃ (b : Binding) (s : State), s.dev.boot = .loader ∧ (b.transport = 3 ∨ b.transport = 4)) ∧
    (∃ (b : Binding) (s : State), s.dev.mctpOpen b = true) :=
  ⟨⟨⟨3, 0, 0, {}⟩, alone { powered := false, boot := .loader }, rfl, by decide⟩, ⟨⟨3, 0, 0, {}⟩, alone full, by decide +kernel⟩⟩

/-- The clauses of TestPortCompletes. -/
theorem test_met_TestPortCompletes :
    (∃ s : State, s.dev.boot ≠ .off ∧ s.dev.testAllowed = true) ∧ (∃ s : State, s.dev.boot ≠ .off ∧ s.dev.testAllowed = false) ∧
    ∃ a : Nat, bits a 94 2 ≠ 1 :=
  ⟨⟨alone { boot := .held }, by decide +kernel⟩, ⟨alone working, by decide +kernel⟩, ⟨0, by decide⟩⟩

/-- A state and operands for each clause of ClockEventsComplete. -/
theorem test_met_ClockEventsComplete :
    (∃ (w : Fin 32) (d : Dev), d.powered = true ∧ d.wharfRuns w = true) ∧
    (∃ (t : Fin 8) (d : Dev), d.powered = true ∧ d.coreOn = true ∧ tileAbsent d.part t = false ∧ bitAt d.net.started t = false) ∧
    (∃ (t : Fin 8) (d : Dev), d.powered = true ∧ d.coreOn = true ∧ tileAbsent d.part t = false ∧ bitAt d.net.started t = false) ∧
    (∃ (t : Fin 8) (d : Dev), d.powered = true ∧ bitAt d.net.absentDue t = true ∧ d.get (Obj.refclkStatus t) = 0 ∧ (wharvesOf
      t).any d.wharfUsed = true) ∧
    (∃ (t : Fin 8) (d : Dev), d.powered = true ∧ d.coreOn = true ∧ bitAt d.net.started t = true ∧ d.get (Obj.refclkStatus t) =
      0) ∧
    (∃ (t : Fin 8) (d : Dev), d.powered = true ∧ d.get (Obj.refclkStatus t) = 1) ∧
    (∃ (t : Fin 8) (d : Dev), d.powered = true ∧ d.get (Obj.refclkStatus t) = 2 ∧ bits d.net.relock (4 * t) 4 = 0) ∧
    (∃ (w : Fin 32) (d : Dev), d.powered = true ∧ bitAt d.net.relock w = true) :=
  ⟨⟨0, full.put (Obj.wharfState 0) 1, by decide +kernel⟩,
   ⟨0, full, by decide +kernel⟩,
   ⟨0, full, by decide +kernel⟩,
   ⟨0, (full.put (Obj.role 0) 1).setNet fun x => { x with absentDue := 1 }, by decide +kernel⟩,
   ⟨0, full.setNet fun x => { x with started := 1 }, by decide +kernel⟩,
   ⟨0, full.put (Obj.refclkStatus 0) 1, by decide +kernel⟩,
   ⟨0, full.put (Obj.refclkStatus 0) 2, by decide +kernel⟩,
   ⟨0, full.setNet fun x => { x with relock := 1 }, by decide +kernel⟩⟩

/-- A state and operands for each clause of LaneEventsComplete. -/
theorem test_met_LaneEventsComplete :
    (∃ (q : Fin 128) (d : Dev), d.powered = true ∧ d.isUp q = true ∧ (d.quay q).l1 = false) ∧
    (∃ (q : Fin 128) (i : Fin 16) (d : Dev), d.powered = true ∧ d.isUp q = true ∧ i.val < (d.quay q).width ∧ Nat.lor (d.quay
      q).lockLost (2 ^ i.val) ≠ 2 ^ (d.quay q).width - 1) ∧
    (∃ (d : Dev), d.powered = true) ∧
    (∃ (q : Fin 128) (i : Fin 16) (d : Dev), d.powered = true ∧ d.isUp q = true ∧ bitAt (d.quay q).lockLost i = true) ∧
    (∃ (q : Fin 128) (d : Dev), d.powered = true ∧ (d.quay q).retrain = some .rate ∧ d.qstate q = 4 ∧ d.wharfRuns (q / 4) =
      true) ∧
    (∃ (q : Fin 128) (d : Dev), d.powered = true ∧ d.qstate q = 3 ∨ d.qstate q = 4) :=
  ⟨⟨0, linked, by decide +kernel⟩,
   ⟨0, 0, linked, by decide +kernel⟩,
   ⟨managed, by decide +kernel⟩,
   ⟨0, 0, linked.setQuay 0 fun x => { x with lockLost := 1 }, by decide +kernel⟩,
   ⟨0, ((linked.setQuay 0 fun x => { x with retrain := some .rate }).put (Obj.quayState 0) 4).put (Obj.wharfState 0) 1,
     by decide +kernel⟩,
   ⟨0, linked, by decide +kernel⟩⟩

/-- A state and operands for each clause of LinkPowerAndReplayComplete. -/
theorem test_met_LinkPowerAndReplayComplete :
    (∃ (q : Fin 128) (w : Nat) (d : Dev), d.powered = true ∧ d.isUp q = true ∧ (d.quay q).l0p = true ∧ (d.quay q).wreq = none ∧
      roleWidth (d.role q) w = true) ∧
    (∃ (q : Fin 128) (w : Nat) (d : Dev), d.powered = true ∧ d.isUp q = true ∧ (d.quay q).l0p = true ∧ [1, 2, 4, 8, 16].contains
      w = true ∧ w ≤ d.cfgWidth q ∧ roleWidth (d.role q) w = true) ∧
    (∃ (q : Fin 128) (r : WidthReq) (d : Dev), d.powered = true ∧ (d.quay q).wreq = some r ∧ d.isUp q = true ∧ r.reissue = true) ∧
    (∃ (q : Fin 128) (d : Dev), d.powered = true ∧ d.isUp q = true ∧ d.l1Allowed q = true) ∧
    (∃ (q : Fin 128) (d : Dev), d.powered = true ∧ (d.quay q).l1 = true) ∧
    (∃ (q : Fin 128) (n : Nat) (d : Dev), d.powered = true ∧ d.linkOn q = true ∧ ((d.transmit q n).quay q).txSeq = (d.quay
      q).txSeq) ∧
    (∃ (q : Fin 128) (n : Nat) (d : Dev), d.powered = true ∧ d.linkOn q = true ∧ ((d.transmit q n).quay q).txSeq ≠ (d.quay
      q).txSeq) ∧
    (∃ (q : Fin 128) (d : Dev), d.powered = true ∧ d.replayOn q = true) ∧
    (∃ (q : Fin 128) (d : Dev), d.powered = true ∧ d.replayOn q = true) ∧
    (∃ (q : Fin 128) (d : Dev), d.powered = true ∧ d.replayOn q = true ∧ (d.quay q).replay ≠ [] ∧ maxReplays (d.quay q).protocol
      ≤ (d.quay q).replays) ∧
    (∃ (q : Fin 128) (d : Dev), d.powered = true ∧ d.replayOn q = true ∧ (d.quay q).replay ≠ [] ∧ (d.quay q).replays <
      maxReplays (d.quay q).protocol) :=
  ⟨⟨0, 8, linked.setQuay 0 fun x => { x with l0p := true }, by decide +kernel⟩,
   ⟨0, 8, linked.setQuay 0 fun x => { x with l0p := true }, by decide +kernel⟩,
   ⟨0, { width := 8, sent := true, reissue := true }, linked.setQuay 0 fun x =>
     { x with wreq := some { width := 8, sent := true, reissue := true } }, by decide +kernel⟩,
   ⟨0, linked, by decide +kernel⟩,
   ⟨0, linked.setQuay 0 fun x => { x with l1 := true }, by decide +kernel⟩,
   ⟨0, 0, linked, by decide +kernel⟩,
   ⟨0, 1, linked.setNet fun x =>
     { x with egress := [{ inp := 4, out := 0, cls := 0, ch := .completion, units := 1, left := 0, admitted := 0, reserved := 1, data := false, items := [{ msg := { chan := .completion } }] }] },
     by decide +kernel⟩,
   ⟨0, linked, by decide +kernel⟩,
   ⟨0, linked, by decide +kernel⟩,
   ⟨0, linked.setQuay 0 fun x => { x with replay := [⟨1, []⟩], replays := 4 }, by decide +kernel⟩,
   ⟨0, linked.setQuay 0 fun x => { x with replay := [⟨1, []⟩] }, by decide +kernel⟩⟩

/-- A state and operands for each clause of QuayWritesComplete. -/
theorem test_met_QuayWritesComplete :
    (∃ (c : Call) (w : Fin 32) (v : Nat) (d : Dev), d.admits c (Obj.bifurcation w) (valueOf c v) ∧ d.mode = 0) ∧
    (∃ (c : Call) (q : Fin 128) (v : Nat) (d : Dev), d.admits c (Obj.narrow q) (valueOf c v) ∧ d.mode = 0 ∧ (valueOf c v = 0 ∨
      (d.positions q ≤ 1 ∧ d.role q ≠ 3))) ∧
    (∃ (c : Call) (q : Fin 128) (v : Nat) (d : Dev), d.admits c (Obj.role q) (valueOf c v) ∧ (d.mode = 0 ∧ (valueOf c v = 3 →
      d.get (Obj.narrow q) = 0) ∧ (valueOf c v = 1 → d.role q = 1 ∨ d.hostRoles < 64))) ∧
    (∃ (c : Call) (q : Fin 128) (v : Nat) (d : Dev), d.admits c (Obj.cxlOffer q) (valueOf c v) ∧ offerOk (d.role q) (valueOf c
      v) = true) ∧
    (∃ (c : Call) (q : Fin 128) (v : Nat) (d : Dev), d.admits c (Obj.minWidth q) (valueOf c v) ∧ valueOf c v ≤ d.get
      (Obj.configWidth q)) ∧
    (∃ (c : Call) (q : Fin 128) (v : Nat) (d : Dev), d.admits c (Obj.restoreWidth q) (valueOf c v)) :=
  ⟨⟨ifSeq 1 0, 0, 0, managed, by unfold Dev.admits; decide +kernel⟩,
   ⟨byManager 1, 0, 0, managed, by unfold Dev.admits; decide +kernel⟩,
   ⟨ifSeq 1 0, 0, 0, managed, by unfold Dev.admits; decide +kernel⟩,
   ⟨byManager 4, 0, 0, managed, by unfold Dev.admits; decide +kernel⟩,
   ⟨byManager 1, 0, 1, managed, by unfold Dev.admits; decide +kernel⟩,
   ⟨byManager 0, 0, 0, managed, by unfold Dev.admits; decide +kernel⟩⟩

/-- A state and operands for each clause of QuayCommandsComplete. -/
theorem test_met_QuayCommandsComplete :
    (∃ (c : Call) (q : Fin 128) (v : Nat) (p : Nat × Bool) (d : Dev), d.admits c (Obj.widthRequest q) (valueOf c v) ∧ d.widest q
      = some p ∧ valueOf c v ≤ p.1 ∧ (d.quay q).wreq = none ∧ d.isUp q = true ∧ (d.quay q).l0p = true ∧ d.get (Obj.l0pEnable q)
      ≠ 0 ∧ roleWidth (d.role q) (valueOf c v) = true) ∧
    (∃ (c : Call) (v : Nat) (d : Dev), d.admits c Obj.quayDown (valueOf c v) ∧ valueOf c v < 128 ∧ d.qstate (valueOf c v) ≠ 0 ∧
      d.qstate (valueOf c v) ≠ 5) ∧
    (∃ (c : Call) (v : Nat) (d : Dev), d.admits c Obj.quayRelease (valueOf c v) ∧ valueOf c v < 128 ∧ d.qstate (valueOf c v) =
      1) ∧
    (∃ (c : Call) (k : Fin 64) (v : Nat) (d : Dev), d.admits c (Obj.routeBlock k) (valueOf c v)) ∧
    (∃ (c : Call) (v : Nat) (d : Dev), d.admits c Obj.fabricId (valueOf c v) ∧ d.mode = 0) :=
  ⟨⟨byManager 1, 0, 8, (16, false), (linked.setQuay 0 fun x => { x with l0p := true }).put (Obj.l0pEnable 0) 1,
     by unfold Dev.admits; decide +kernel⟩,
   ⟨byManager 1, 0, managed, by unfold Dev.admits; decide +kernel⟩,
   ⟨byManager 1, 0, managed, by unfold Dev.admits; decide +kernel⟩,
   ⟨ifSeq 256 0, 1, 0, managed, by unfold Dev.admits; decide +kernel⟩,
   ⟨ifSeq 2 0, 0, managed, by unfold Dev.admits; decide +kernel⟩⟩

/-- A state and operands for each clause of LinkEventsComplete. -/
theorem test_met_LinkEventsComplete :
    (∃ (q : Fin 128) (f : RxFlit) (d : Dev), d.powered = true ∧ d.linkOn q = true ∧ (d.stream q f.stream).failed = false ∧
      (f.crcOk && !f.ideOk && (d.stream q f.stream).st == 2) = false) ∧
    (∃ (q : Fin 128) (f : RxFlit) (d : Dev), d.powered = true ∧ d.linkOn q = true ∧ (d.stream q f.stream).failed = false ∧
      f.crcOk = true ∧ f.ideOk = false ∧ (d.stream q f.stream).st = 2) ∧
    (∃ (q : Fin 128) (r : TrainResult) (w : Nat) (p : Nat) (rev : Bool) (d : Dev), d.powered = true ∧ d.linksUp q = true ∧ p =
      settledProtocol (d.get (Obj.cxlOffer q)) (d.role q) (d.rateCap q) r ∧ protocolOffered (d.get (Obj.cxlOffer q)) (d.role q)
      p = true ∧ (d.role q = 3 → r.pbr = true) ∧ d.qstate q = 2 ∧ ((d.setQuay q fun k =>
      { k with partnerMax := r.partnerMax }).trainedLanes q r.failed false).settled q (((d.setQuay q fun k =>
      { k with partnerMax := r.partnerMax }).trainedLanes q r.failed false).cfgWidth q) = some (w, rev)) ∧
    (∃ (q : Fin 128) (d : Dev), d.powered = true ∧ (d.quay q).dlDown = true ∧ (d.quay q).l0 = true) ∧
    (∃ (d : Dev), d.powered = true) ∧
    (∃ (d : Dev), d.powered = true) ∧
    (∃ (q : Fin 128) (d : Dev), d.powered = true ∧ (d.setQuay q fun k => { k with perst := true }).role q = 1 ∧ (d.setQuay q fun
      k => { k with perst := true }).qstate q ≠ 0) ∧
    (∃ (d : Dev), d.powered = true) ∧
    (∃ (q : Fin 128) (d : Dev), d.powered = true ∧ d.role q = 1 ∧ d.qstate q ≠ 0) ∧
    (∃ (q : Fin 128) (d : Dev), d.powered = true ∧ d.role q = 2 ∧ d.alive q = true) :=
  ⟨⟨0, { crcOk := true, seq := 1, ack := 0 }, linked, by decide +kernel⟩,
   ⟨0, { crcOk := true, ideOk := false, seq := 1, ack := 0 }, linked.setIde 0 0 fun x => { x with st := 2 }, by decide +kernel⟩,
   ⟨0, { width := 16, rate := 6, protocol := 2 }, 16, 2, false, ((withQuay 0 1 2 full).put (Obj.cxlOffer 0) 1).put
     (Obj.wharfState 0) 1, by decide +kernel⟩,
   ⟨0, linked.setQuay 0 fun x => { x with dlDown := true }, by decide +kernel⟩,
   ⟨managed, by decide +kernel⟩,
   ⟨managed, by decide +kernel⟩,
   ⟨0, linked, by decide +kernel⟩,
   ⟨managed, by decide +kernel⟩,
   ⟨0, linked, by decide +kernel⟩,
   ⟨4, linked, by decide +kernel⟩⟩

/-- A state and operands for each clause of OriginatedRequestsComplete. -/
theorem test_met_OriginatedRequestsComplete :
    (∃ (q : Fin 128) (slot : Nat) (gen : Nat) (o : Orig) (d : Dev), d.powered = true ∧ d.origAt q slot gen = some o) ∧
    (∃ (q : Fin 128) (slot : Nat) (gen : Nat) (data : Nat) (o : Orig) (p : Nat × Nat × Option Nat) (d : Dev), d.powered = true ∧
      d.origAt q slot gen = some o ∧ ((d.payloadIn q 64 {}).dropOrig o).wayTo q (4 + o.level) (rspMsg q slot (.data data)).chan
      o.ini = some p) ∧
    (∃ (q : Fin 128) (slot : Nat) (gen : Nat) (d : Dev), d.powered = true ∧ d.origAt q slot gen = none) ∧
    (∃ (q : Fin 128) (id : Nat) (m : Msg) (d : Dev), d.powered = true ∧ d.isUp q = true ∧ d.power ≠ 1 ∧ d.role q = 3 ∧ id ≠
      d.get Obj.fabricId ∧ m.len ≤ 4096 ∧ (isResponse m.chan = true ∨ (d.ideStops q = false ∧ (d.metered && meteredMsg m) =
      false))) :=
  ⟨⟨0, 0, 0, { quay := 0, slot := 0, gen := 0, ini := .mem 1, issued := 0, limit := 0 }, linked.setNet fun x =>
     { x with orig := [{ quay := 0, slot := 0, gen := 0, ini := .mem 1, issued := 0, limit := 0 }] }, by decide +kernel⟩,
   ⟨0, 0, 0, 0, { quay := 0, slot := 0, gen := 0, ini := .walk 0 0, issued := 0, limit := 0 }, (((((linked).setNet fun x =>
     { x with orig := [{ quay := 0, slot := 0, gen := 0, ini := .walk 0 0, issued := 0, limit := 0 }] }).payloadIn 0 64
     {}).dropOrig { quay := 0, slot := 0, gen := 0, ini := .walk 0 0, issued := 0, limit := 0 }).wayTo 0 4 Chan.s2mDrs (.walk 0
     0)).getD (0, 0, none), linked.setNet fun x =>
     { x with orig := [{ quay := 0, slot := 0, gen := 0, ini := .walk 0 0, issued := 0, limit := 0 }] }, by decide +kernel⟩,
   ⟨0, 0, 0, managed, by decide +kernel⟩,
   ⟨8, 5, { chan := .nonPosted }, linked, by decide +kernel⟩⟩

/-- A state and operands for each clause of SwitchEventsComplete. -/
theorem test_met_SwitchEventsComplete :
    (∃ (o : Fin 196) (d : Dev), d.powered = true ∧ sliceOfPort o = none) ∧
    (∃ (o : Fin 196) (s : Nat) (d : Dev), d.powered = true ∧ sliceOfPort o = some s) ∧
    (∃ (inp : Fin 196) (out : Fin 196) (cls : Fin 8) (f : CoreFlit) (d : Dev), d.powered = true ∧ d.net.voq.find? (fun f =>
      f.inp == inp.val && f.out == out.val && f.cls == cls.val && decide (1 ≤ f.reserved)) = some f ∧ d.mayRecharge inp out cls
      = true) ∧
    (∃ (o : Fin 196) (w : PrioWrite) (rest : List PrioWrite) (d : Dev), d.powered = true ∧ (d.arb o).coming = w :: rest) ∧
    (∃ (d : Dev), d.powered = true) ∧
    (∃ (d : Dev), d.powered = true) :=
  ⟨⟨0, managed, by decide +kernel⟩,
   ⟨128, 0, full, by decide +kernel⟩,
   ⟨4, 0, 0,
     { inp := 4, out := 0, cls := 0, ch := .completion, units := 1, left := 0, admitted := 0, reserved := 1, data := false, items := [{ msg := { chan := .completion } }] },
     full.setNet fun x =>
     { x with voq := [{ inp := 4, out := 0, cls := 0, ch := .completion, units := 1, left := 0, admitted := 0, reserved := 1, data := false, items := [{ msg := { chan := .completion } }] }] },
     by decide +kernel⟩,
   ⟨0, PrioWrite.policy 0, [], full.setArb 0 fun x => { x with coming := [.policy 0] }, by decide +kernel⟩,
   ⟨managed, by decide +kernel⟩,
   ⟨managed, by decide +kernel⟩⟩

/-- A state and operands for each clause of PrioritiesAndGatesComplete. -/
theorem test_met_PrioritiesAndGatesComplete :
    (∃ (c : Call) (p : Fin 196) (v : Nat) (d : Dev), d.admits c (Obj.inputWeight p) (valueOf c v)) ∧
    (∃ (c : Call) (p : Fin 196) (v : Nat) (d : Dev), d.admits c (Obj.classPriority p) (valueOf c v)) ∧
    (∃ (c : Call) (q : Fin 128) (v : Nat) (d : Dev), d.admits c (Obj.gateCommit q) (valueOf c v) ∧ (d.shadow q).ok = true ∧
      d.get (Obj.gateStatus q) ≠ 2) ∧
    (∃ (q : Fin 128) (g : GateList) (t : Nat) (d : Dev), d.powered = true ∧ (d.gate q).pending = some (g, t) ∧ t ≤ d.time) ∧
    (∃ (q : Fin 128) (g : GateList) (d : Dev), d.powered = true ∧ (d.gate q).running = some g) ∧
    (∃ (c : Call) (q : Fin 128) (v : Nat) (d : Dev), d.admits c (Obj.gateEnable q) (valueOf c v)) ∧
    (∃ (c : Call) (q : Fin 128) (cls : Fin 8) (w : ShaperObj) (v : Nat) (d : Dev), d.admits c (shaperObj q cls w) (valueOf c v)
      ∧ (w = .rate → valueOf c v = 0 → cls.val < 4)) :=
  ⟨⟨byManager 1, 0, 1, managed, by unfold Dev.admits; decide +kernel⟩,
   ⟨byManager 4, 0, 0, managed, by unfold Dev.admits; decide +kernel⟩,
   ⟨byManager 0, 0, 0, managed, by unfold Dev.admits; decide +kernel⟩,
   ⟨0, { base := 0, cycle := 1000, entries := [] }, 0, full.setGate 0 fun x =>
     { x with pending := some ({ base := 0, cycle := 1000, entries := [] }, 0) }, by decide +kernel⟩,
   ⟨0, { base := 0, cycle := 1000, entries := [] }, full.setGate 0 fun x =>
     { x with running := some { base := 0, cycle := 1000, entries := [] } }, by decide +kernel⟩,
   ⟨byManager 1, 0, 0, managed, by unfold Dev.admits; decide +kernel⟩,
   ⟨byManager 4, 0, 0, ShaperObj.rate, 0, managed, by unfold Dev.admits; decide +kernel⟩⟩

/-- A state and operands for each clause of AdmissionComplete. -/
theorem test_met_AdmissionComplete :
    (∃ (q : Fin 128) (m : Msg) (d : Dev), d.powered = true ∧ d.power = 1 ∧ d.isUp q = true ∧ d.receives q m.chan = true ∧
      isResponse m.chan = false) ∧
    (∃ (q : Fin 128) (m : Msg) (d : Dev), d.powered = true ∧ d.isUp q = true ∧ d.receives q m.chan = true ∧ isResponse m.chan =
      true ∧ crosses4K m = false) ∧
    (∃ (q : Fin 128) (m : Msg) (d : Dev), d.powered = true ∧ d.isUp q = true ∧ d.receives q m.chan = true ∧ isResponse m.chan =
      false ∧ d.power ≠ 1 ∧ d.quayWindow q = false ∧ (d.ideStops q && !toDevice q m) = false ∧ (d.metered && meteredMsg m) =
      false ∧ crosses4K m = true) ∧
    (∃ (q : Fin 128) (m : Msg) (d : Dev), d.powered = true ∧ d.isUp q = true ∧ d.receives q m.chan = true ∧ isResponse m.chan =
      true ∧ crosses4K m = true) ∧
    (∃ (q : Fin 128) (m : Msg) (d : Dev), d.powered = true ∧ d.isUp q = true ∧ d.receives q m.chan = true ∧ isResponse m.chan =
      false ∧ d.power ≠ 1 ∧ d.quayWindow q = false ∧ (d.ideStops q && !toDevice q m) = false ∧ (d.metered && meteredMsg m) =
      false ∧ crosses4K m = false ∧ kindOfMsg m = 0) ∧
    (∃ (q : Fin 128) (m : Msg) (ms : Nat) (d : Dev), d.powered = true ∧ d.isUp q = true ∧ d.receives q m.chan = true ∧
      isResponse m.chan = false ∧ d.power ≠ 1 ∧ d.quayWindow q = false ∧ (d.ideStops q && !toDevice q m) = false ∧ (d.metered &&
      meteredMsg m) = false ∧ crosses4K m = false ∧ kindOfMsg m ≠ 0 ∧ d.heldBy q (d.inputOf q (d.levelOf q m) m) m = some ms) ∧
    (∃ (q : Fin 128) (m : Msg) (d : Dev), d.powered = true ∧ d.isUp q = true ∧ d.receives q m.chan = true ∧ isResponse m.chan =
      false ∧ d.power ≠ 1 ∧ d.quayWindow q = false ∧ (d.ideStops q && !toDevice q m) = false ∧ (d.metered && meteredMsg m) =
      false ∧ crosses4K m = false ∧ kindOfMsg m ≠ 0 ∧ d.heldBy q (d.inputOf q (d.levelOf q m) m) m = none) :=
  ⟨⟨0, { chan := .nonPosted }, inPower 1 linked, by decide +kernel⟩,
   ⟨0, { chan := .completion }, linked, by decide +kernel⟩,
   ⟨0, { chan := .nonPosted, sort := .memRead, addr := 4095, size := 2 }, linked, by decide +kernel⟩,
   ⟨0, { chan := .completion, len := 4160, size := 4160 }, linked, by decide +kernel⟩,
   ⟨0, { chan := .nonPosted }, linked, by decide +kernel⟩,
   ⟨0, { chan := .nonPosted, sort := .memRead, addr := 4096, size := 1 }, 0x200, linked.setCustoms fun x =>
     { x with impounds := [{ master := 0x200, input := 0, everywhere := true }] }, by decide +kernel⟩,
   ⟨0, { chan := .nonPosted, sort := .memRead }, linked, by decide +kernel⟩⟩

/-- A state and operands for each clause of CustomsCommandsComplete. -/
theorem test_met_CustomsCommandsComplete :
    (∃ (c : Call) (v : Nat) (d : Dev), d.admits c Obj.regionSet (valueOf c v) ∧ (writableMaster (bits (valueOf c v) 0 16) = true
      ∧ absentMaster d.part (bits (valueOf c v) 0 16) = false ∧ regionCache (bits (valueOf c v) 64 128) ≠ 3 ∧ bits (valueOf c v)
      24 40 = 0 ∧ bits (bits (valueOf c v) 64 128) 8 4 = 0 ∧ bits (bits (valueOf c v) 64 128) 64 12 = 0 ∧ (regionValid (bits
      (valueOf c v) 64 128) = true → regionFirst (bits (valueOf c v) 64 128) ≤ regionLast (bits (valueOf c v) 64 128) ∧
      (regionValid (d.newestTable.region (bits (valueOf c v) 0 16) (bits (valueOf c v) 16 8)) = true ∨ d.newestTable.used <
      32768)))) ∧
    (∃ (c : Call) (v : Nat) (d : Dev), d.admits c Obj.regionClearMaster (valueOf c v) ∧ writableMaster (valueOf c v) = true ∧
      absentMaster d.part (valueOf c v) = false) ∧
    (∃ (c : Call) (v : Nat) (d : Dev), d.admits c Obj.privilegeSet (valueOf c v) ∧ writableMaster (bits (valueOf c v) 0 16) =
      true ∧ absentMaster d.part (bits (valueOf c v) 0 16) = false ∧ bits (valueOf c v) 16 8 ≤ 1) ∧
    (∃ (c : Call) (v : Nat) (d : Dev), d.admits c Obj.customsBarrier (valueOf c v) ∧ d.get Obj.customsBarrierStatus ≠ 1) ∧
    (∃ (d : Dev), d.powered = true ∧ d.get Obj.customsBarrierStatus = 1 ∧ d.checkerBehind (d.get Obj.customsBarrierEpoch) =
      false ∧ d.openChecks (d.get Obj.customsBarrierEpoch) = 0) ∧
    (∃ (d : Dev), d.powered = true ∧ d.get Obj.customsBarrierStatus = 1) ∧
    (∃ (d : Dev), d.powered = true) ∧
    (∃ (d : Dev), d.powered = true) ∧
    (∃ (c : Call) (v : Nat) (d : Dev), d.admits c Obj.release (valueOf c v) ∧ bits (valueOf c v) 16 8 ≤ 1 ∧ d.impounded (bits
      (valueOf c v) 0 16) = true) ∧
    (∃ (c : Call) (v : Nat) (d : Dev), d.admits c Obj.release (valueOf c v) ∧ bits (valueOf c v) 16 8 ≤ 1 ∧ d.impounded (bits
      (valueOf c v) 0 16) = true) :=
  ⟨⟨byManager 24, 0, managed, by unfold Dev.admits; decide +kernel⟩,
   ⟨byManager 2, 0, managed, by unfold Dev.admits; decide +kernel⟩,
   ⟨byManager 3, 0, managed, by unfold Dev.admits; decide +kernel⟩,
   ⟨byManager 0, 0, managed, by unfold Dev.admits; decide +kernel⟩,
   ⟨full.put (Obj.customsBarrierStatus) 1, by decide +kernel⟩,
   ⟨full.put (Obj.customsBarrierStatus) 1, by decide +kernel⟩,
   ⟨managed, by decide +kernel⟩,
   ⟨managed, by decide +kernel⟩,
   ⟨byManager 3, 5, full.setCustoms fun x => { x with impounds := [{ master := 5, input := 0 }] },
     by unfold Dev.admits; decide +kernel⟩,
   ⟨byManager 3, 5, full.setCustoms fun x => { x with impounds := [{ master := 5, input := 0 }] },
     by unfold Dev.admits; decide +kernel⟩⟩

/-- A state and operands for each clause of ModeCommandsComplete. -/
theorem test_met_ModeCommandsComplete :
    (∃ (c : Call) (v : Nat) (d : Dev), d.admits c Obj.serviceGo (valueOf c v) ∧ d.mode = 0 ∧ d.power ≠ 2 ∧ d.get Obj.ledgerState
      ≠ 0 ∧ d.get Obj.lifecycle ≠ 3 ∧ d.inTransition = false) ∧
    (∃ (c : Call) (v : Nat) (d : Dev), d.admits c Obj.modeChange (valueOf c v) ∧ d.service = true ∧ valueOf c v ≠ d.mode ∧
      d.inTransition = false) ∧
    (∃ (c : Call) (v : Nat) (d : Dev), d.admits c Obj.enterSalvage (valueOf c v)) ∧
    (∃ (c : Call) (v : Nat) (d : Dev), d.admits c Obj.recoveryReset (valueOf c v) ∧ d.mode = 5) ∧
    (∃ (c : Call) (v : Nat) (d : Dev), d.admits c Obj.enterDrydock (valueOf c v) ∧ d.mode = 0 ∧ d.dockHolder.map (·.1) = some
      (callerSlot c.caller) ∧ d.inTransition = false) ∧
    (∃ (c : Call) (v : Nat) (d : Dev), d.admits c Obj.leaveDrydock (valueOf c v) ∧ d.mode = 4) ∧
    (∃ (c : Call) (m : Fin 3) (sub : Fin 10) (v : Nat) (d : Dev), d.admits c (0xD11000 + 4096 * m.val + sub) (valueOf c v) ∧
      (d.mode = m + 1 → d.inTransition = false)) :=
  ⟨⟨byManager 1, 1, full.put (Obj.ledgerState) 1, by unfold Dev.admits; decide +kernel⟩,
   ⟨byManager 1, 2, working, by unfold Dev.admits; decide +kernel⟩,
   ⟨byManager 0, 0, managed, by unfold Dev.admits; decide +kernel⟩,
   ⟨byManager 0, 0, inMode 5 linked, by unfold Dev.admits; decide +kernel⟩,
   ⟨byManager 0, 0, full.setBw fun x => { x with holders := [(1, 2)] }, by unfold Dev.admits; decide +kernel⟩,
   ⟨byManager 0, 0, inMode 4 linked, by unfold Dev.admits; decide +kernel⟩,
   ⟨byManager 1, 0, 1, 0, managed, by unfold Dev.admits; decide +kernel⟩⟩

/-- A state and operands for each clause of TransitionEventsComplete. -/
theorem test_met_TransitionEventsComplete :
    (∃ (d : Dev), d.powered = true ∧ d.modes.autoRuns = true) ∧
    (∃ (w : Fin 32) (t : Transition) (d : Dev), d.powered = true ∧ d.modes.trans = some t ∧ t.nowWharves.contains w.val = true ∧
      d.wharfRuns w = true) ∧
    (∃ (s : Fin 16) (d : Dev), d.powered = true ∧ d.get (Obj.sliceState s) = 1 ∧ d.busyFor (d.atHome s) = false ∧ (d.slice
      s).working = false) ∧
    (∃ (s : Fin 16) (d : Dev), d.powered = true ∧ d.modes.unpark.head? = some s.val ∧ d.get (Obj.sliceState s) = 3 ∧ d.busyFor
      (d.comingHome s) = false) ∧
    (∃ (d : Dev), d.powered = true ∧ d.get Obj.lullEnable = 1 ∧ d.power = 0 ∧ (d.mode = 0 ∨ d.service = true) ∧ d.inTransition =
      false ∧ d.modes.unpark = [] ∧ d.modes.parkTo = none ∧ d.idle = true) ∧
    (∃ (d : Dev), d.powered = true ∧ d.power = 1 ∧ d.modes.lullEntry = false ∧ d.modes.lullExit = false) ∧
    (∃ (d : Dev), d.powered = true ∧ d.power = 1 ∧ d.modes.lullEntry = true) ∧
    (∃ (d : Dev), d.powered = true) :=
  ⟨⟨full.setModes fun x => { x with autoRuns := true }, by decide +kernel⟩,
   ⟨0, { target := 1, fromSlipway := true, nowWharves := [0] }, (full.put (Obj.wharfState 0) 1).setModes fun x =>
     { x with trans := some { target := 1, fromSlipway := true, nowWharves := [0] } }, by decide +kernel⟩,
   ⟨0, full.put (Obj.sliceState 0) 1, by decide +kernel⟩,
   ⟨0, (full.setModes fun x => { x with unpark := [0] }).put (Obj.sliceState 0) 3, by decide +kernel⟩,
   ⟨full, by decide +kernel⟩,
   ⟨inMode 1 (inPower 1 linked), by decide +kernel⟩,
   ⟨(inPower 1 managed).setModes fun x => { x with lullEntry := true }, by decide +kernel⟩,
   ⟨managed, by decide +kernel⟩⟩

/-- A state and operands for each clause of PowerStateCompletes. -/
theorem test_met_PowerStateCompletes :
    (∃ (c : Call) (v : Nat) (d : Dev), d.admits c Obj.powerStateRequest (valueOf c v) ∧ ((valueOf c v = 2 → d.service = false) ∧
      d.inTransition = false ∧ (d.powerChanging = true → d.mayWait (valueOf c v) = true))) ∧
    (∃ (r : Fin 6) (d : Dev), d.powered = true ∧ d.tide.rising = some r.val ∧ railAfter r = none) ∧
    (∃ (r : Fin 6) (n : Nat) (d : Dev), d.powered = true ∧ d.tide.rising = some r.val ∧ railAfter r = some n) ∧
    (∃ (r : Fin 6) (n : Nat) (d : Dev), d.powered = true ∧ d.tide.rising = some r.val ∧ railAfter r = some n) ∧
    (∃ (r : Fin 6) (d : Dev), d.powered = true ∧ d.tide.rising = some r.val) ∧
    (∃ (r : Fin 6) (d : Dev), d.powered = true ∧ d.tide.rising ≠ some r.val ∧ d.railState r = 2 ∧ d.power ≠ 2) ∧
    (∃ (r : Fin 6) (d : Dev), d.powered = true ∧ d.tide.rising ≠ some r.val ∧ d.railState r = 2 ∧ d.power = 2) :=
  ⟨⟨byManager 1, 2, managed, by unfold Dev.admits; decide +kernel⟩,
   ⟨3, managed.setTide fun x => { x with rising := some 3 }, by decide +kernel⟩,
   ⟨4, 1, managed, by decide +kernel⟩,
   ⟨4, 1, managed, by decide +kernel⟩,
   ⟨4, managed, by decide +kernel⟩,
   ⟨0, full.put (Obj.railState 0) 2, by decide +kernel⟩,
   ⟨0, (inPower 2 managed).put (Obj.railState 0) 2, by decide +kernel⟩⟩

/-- A state and operands for each clause of VauxAndThermalComplete. -/
theorem test_met_VauxAndThermalComplete :
    (∃ (tj : Nat) (d : Dev), d.powered = true ∧ (d.put Obj.tjMax tj).coreOn = false) ∧
    (∃ (tj : Nat) (d : Dev), d.powered = true ∧ (d.put Obj.tjMax tj).coreOn = true) :=
  ⟨⟨0, managed, by decide +kernel⟩,
   ⟨0, full, by decide +kernel⟩⟩

/-- A state and operands for each clause of DecisionsComplete. -/
theorem test_met_DecisionsComplete :
    (∃ (c : Call) (v : Nat) (x : Decision) (d : Dev), d.admits c Obj.decision (valueOf c v) ∧ (1 ≤ (verdictOf (valueOf c v)).fn
      ∧ (verdictOf (valueOf c v)).fn ≤ 7 ∧ (verdictOf (valueOf c v)).verdict ≤ 2 ∧ d.decided (verdictOf (valueOf c v)) = some x
      ∧ x.stale = false ∧ ((verdictOf (valueOf c v)).verdict = 2 → d.altOk x (verdictOf (valueOf c v)).arg = true))) ∧
    (∃ (i : Fin 4096) (token : Nat) (verdict : Nat) (d : Dev), d.powered = true ∧ d.ownsToken i token = true ∧ verdict ≤ 2) ∧
    (∃ (token : Nat) (x : Decision) (d : Dev), d.powered = true ∧ d.modes.decisions.find? (·.token == token) = some x) ∧
    (∃ (c : Call) (f : Fin 7) (v : Nat) (d : Dev), d.admits c (Obj.functionMode (f + 1)) (valueOf c v)) ∧
    (∃ (c : Call) (f : Fin 7) (v : Nat) (d : Dev), d.admits c (Obj.decisionLimit (f + 1)) (valueOf c v)) :=
  ⟨⟨byManager 16, 131073, { token := 1, fn := 2, subject := 0, proposal := 0, limit := 0, arose := 0 }, full.setModes fun x =>
     { x with decisions := [{ token := 1, fn := 2, subject := 0, proposal := 0, limit := 0, arose := 0 }] },
     by unfold Dev.admits; decide +kernel⟩,
   ⟨1, 1, 0, full.setModes fun x =>
     { x with decisions := [{ token := 1, fn := 7, subject := 1, proposal := 0, limit := 0, arose := 0 }] }, by decide +kernel⟩,
   ⟨1, { token := 1, fn := 2, subject := 0, proposal := 0, limit := 0, arose := 0 }, full.setModes fun x =>
     { x with decisions := [{ token := 1, fn := 2, subject := 0, proposal := 0, limit := 0, arose := 0 }] }, by decide +kernel⟩,
   ⟨byManager 1, 0, 0, managed, by unfold Dev.admits; decide +kernel⟩,
   ⟨byManager 4, 2, 1, managed, by unfold Dev.admits; decide +kernel⟩⟩

/-- A state and operands for each clause of CollectorCompletes. -/
theorem test_met_CollectorCompletes :
    (∃ (d : Dev), d.powered = true) ∧
    (∃ (e : Err) (rest : List Err) (d : Dev), d.powered = true ∧ d.lines = e :: rest) ∧
    (∃ (d : Dev), d.powered = true) ∧
    (∃ (c : Call) (k : Fin 3) (v : Nat) (d : Dev), d.admits c (Obj.classAck k) (valueOf c v) ∧ d.get (Obj.classState k) = 2 ∧
      d.get (Obj.classCount k) = valueOf c v) ∧
    (∃ (c : Call) (v : Nat) (d : Dev), d.admits c Obj.sourceClear (valueOf c v)) :=
  ⟨⟨managed, by decide +kernel⟩,
   ⟨{ typ := 1, inst := 0 }, [], { full with lines := [{ typ := 1, inst := 0 }] }, by decide +kernel⟩,
   ⟨managed, by decide +kernel⟩,
   ⟨byManager 4, 0, 1, (full.put (Obj.classState 0) 2).put (Obj.classCount 0) 1, by unfold Dev.admits; decide +kernel⟩,
   ⟨byManager 2, 0, managed, by unfold Dev.admits; decide +kernel⟩⟩

/-- A state and operands for each clause of FencingCompletes. -/
theorem test_met_FencingCompletes :
    (∃ (c : Call) (v : Nat) (u : FenceUnit) (d : Dev), d.admits c Obj.fenceUnit (valueOf c v) ∧ unitArg (valueOf c v) = some u ∧
      d.isFenced u = false ∧ d.mayFence u = true) ∧
    (∃ (c : Call) (v : Nat) (u : FenceUnit) (d : Dev), d.admits c Obj.fenceClear (valueOf c v) ∧ unitArg (valueOf c v) = some u
      ∧ absentUnit d.part u = false) ∧
    (∃ (s : Fin 16) (f : Fencing) (d : Dev), d.powered = true ∧ d.faults.fencing.find? (fun f => f.slice == s.val && !f.ended) =
      some f) ∧
    (∃ (s : Fin 16) (f : Fencing) (d : Dev), d.powered = true ∧ d.faults.fencing.find? (fun f => f.slice == s.val && f.ended) =
      some f) ∧
    (∃ (d : Dev), d.powered = true ∧ d.faults.flushing = true ∧ d.flushLeft = 0) :=
  ⟨⟨byManager 2, 1, FenceUnit.slice 0, full, by unfold Dev.admits; decide +kernel⟩,
   ⟨byManager 2, 1, FenceUnit.slice 0, full, by unfold Dev.admits; decide +kernel⟩,
   ⟨0, { slice := 0, mirror := [], time := 0 }, full.setFaults fun x =>
     { x with fencing := [{ slice := 0, mirror := [], time := 0 }] }, by decide +kernel⟩,
   ⟨0, { slice := 0, mirror := [], ended := true, time := 0 }, full.setFaults fun x =>
     { x with fencing := [{ slice := 0, mirror := [], ended := true, time := 0 }] }, by decide +kernel⟩,
   ⟨full.setFaults fun x => { x with flushing := true }, by decide +kernel⟩⟩

/-- A state and operands for each clause of CoherenceEventsComplete. -/
theorem test_met_CoherenceEventsComplete :
    (∃ (b : Fin 64) (line : Nat) (r : BasinReq) (d : Dev), d.powered = true ∧ (d.wakeFor (d.basinAccess b line r)).stranded
      ((d.wakeFor (d.basinAccess b line r)).basinAccess b line r) = false) ∧
    (∃ (a : Access) (d : Dev), d.powered = true ∧ isWrite a.op = true ∧ isBasinKey a.key = false ∧ (d.wakeFor a).stranded a =
      false) ∧
    (∃ (n : Fin 16) (k : Nat) (r : RingSnoop) (d : Dev), d.powered = true ∧ d.coh.snoops.find? (fun r => r.target == n.val &&
      r.key == k) = some r ∧ d.sliceFenced n = false) ∧
    (∃ (s : Fin 16) (n : Fin 16) (k : Nat) (x : RingAnswer) (d : Dev), d.powered = true ∧ d.sliceFenced s = false ∧
      d.coh.answers.find? (fun x => x.home == s.val && x.origin == n.val && x.key == k) = some x) ∧
    (∃ (s : Fin 16) (d : Dev), d.powered = true ∧ d.sliceFenced s = false) ∧
    (∃ (s : Fin 16) (k : Nat) (t : Tx) (n : Nat) (d : Dev), d.powered = true ∧ d.sliceFenced s = false ∧ d.tx s k = some t ∧
      t.near = some n ∧ (if (((d.setTx s k fun t => { t with near := none }).dirEnt s k).isSome || n == s.val) && !(d.setTx s k
      fun t => { t with near := none }).sliceFenced n then (d.setTx s k fun t => { t with near := none }).install n
      { key := k, st := .f, data := t.data.getD 0 } else none) = none) ∧
    (∃ (s : Fin 16) (k : Nat) (t : Tx) (n : Nat) (e : Dev) (d : Dev), d.powered = true ∧ d.sliceFenced s = false ∧ d.tx s k =
      some t ∧ t.near = some n ∧ (if (((d.setTx s k fun t => { t with near := none }).dirEnt s k).isSome || n == s.val) &&
      !(d.setTx s k fun t => { t with near := none }).sliceFenced n then (d.setTx s k fun t => { t with near := none }).install
      n { key := k, st := .f, data := t.data.getD 0 } else none) = some e) ∧
    (∃ (s : Fin 16) (k : Nat) (h : Fin 64) (d : Dev), d.powered = true ∧ d.sliceFenced s = false ∧ (d.slice s).conflict.any (fun
      p => p.1 == k && p.2.acc.host == h.val) = true) ∧
    (∃ (s : Fin 16) (k : Nat) (h : Fin 64) (d : Dev), d.powered = true ∧ d.sliceFenced s = false ∧ ((d.tx s k).map fun t : Tx =>
      t.crossed.contains h.val).getD false = false) ∧
    (∃ (s : Fin 16) (k : Nat) (l : SLine) (d : Dev), d.powered = true ∧ d.line s k = some l ∧ isBasinKey k = true ∧
      d.sliceFenced s = false ∧ d.homeOf k ≠ s.val ∧ (l.st = .s ∨ l.st = .f)) ∧
    (∃ (s : Fin 16) (k : Nat) (l : SLine) (d : Dev), d.powered = true ∧ d.line s k = some l ∧ l.st = .m ∧ d.sliceFenced s =
      false ∧ (d.slice s).victims.length < 64 ∧ (d.tx s k).isNone = true) ∧
    (∃ (s : Fin 16) (k : Nat) (a : MemAcc) (d : Dev), d.powered = true ∧ d.pool.accesses.find? (fun a => a.slice == s.val &&
      a.key == k && kindOf a == 1 && a.write) = some a) ∧
    (∃ (s : Fin 16) (k : Nat) (a : MemAcc) (d : Dev), d.powered = true ∧ d.pool.accesses.find? (fun a => a.slice == s.val &&
      a.key == k && kindOf a == 1 && a.write) = some a) ∧
    (∃ (m : Fin 64) (line : Nat) (a : MemAcc) (d : Dev), d.powered = true ∧ d.pool.accesses.find? (fun a => a.dev == m.val &&
      a.line == line && a.goal == MemFor.poison) = some a) :=
  ⟨⟨0, 0, { host := 0, quay := 0, tag := 0, op := .sharedRd }, managed, by decide +kernel⟩,
   ⟨{ host := 0, tag := 0, key := (privateKey 1 5), index := 0, op := .write }, working, by decide +kernel⟩,
   ⟨0, 7, { home := 1, target := 0, key := 7, kind := .read }, working.setCoh fun x =>
     { x with snoops := [{ home := 1, target := 0, key := 7, kind := .read }] }, by decide +kernel⟩,
   ⟨0, 1, 7, { home := 0, origin := 1, key := 7, held := none, data := none }, working.setCoh fun x =>
     { x with answers := [{ home := 0, origin := 1, key := 7, held := none, data := none }] }, by decide +kernel⟩,
   ⟨0, managed, by decide +kernel⟩,
   ⟨0, (basinKey 0 5),
     { key := (basinKey 0 5), serves := .host { acc := { host := 0, tag := 0, key := (basinKey 0 5), index := 0, op := .sharedRd } }, stages := [.respond], near := some 1 },
     1, working.setSlice 0 fun x =>
     { x with txs := [{ key := (basinKey 0 5), serves := .host { acc := { host := 0, tag := 0, key := (basinKey 0 5), index := 0, op := .sharedRd } }, stages := [.respond], near := some 1 }] },
     by decide +kernel⟩,
   ⟨0, (basinKey 0 5),
     { key := (basinKey 0 5), serves := .host { acc := { host := 0, tag := 0, key := (basinKey 0 5), index := 0, op := .sharedRd } }, stages := [.respond], near := some 0 },
     0, (((((working).setSlice 0 fun x =>
     { x with txs := [{ key := (basinKey 0 5), serves := .host { acc := { host := 0, tag := 0, key := (basinKey 0 5), index := 0, op := .sharedRd } }, stages := [.respond], near := some 0 }] }).setTx
     0 (basinKey 0 5) fun t => { t with near := none }).install 0 { key := (basinKey 0 5), st := .f, data := 0 }).getD full),
     working.setSlice 0 fun x =>
     { x with txs := [{ key := (basinKey 0 5), serves := .host { acc := { host := 0, tag := 0, key := (basinKey 0 5), index := 0, op := .sharedRd } }, stages := [.respond], near := some 0 }] },
     by decide +kernel, by decide +kernel, by decide +kernel, rfl, rfl⟩,
   ⟨0, (basinKey 0 5), 0, working.setSlice 0 fun x =>
     { x with conflict := [((basinKey 0 5), { acc := { host := 0, tag := 0, key := (basinKey 0 5), index := 0, op := .sharedRd } })] },
     by decide +kernel⟩,
   ⟨0, 0, 0, managed, by decide +kernel⟩,
   ⟨3, (basinKey 0 5), { key := (basinKey 0 5), st := .s, data := 0 }, working.setSlice 3 fun x =>
     { x with lines := [{ key := (basinKey 0 5), st := .s, data := 0 }] }, by decide +kernel⟩,
   ⟨3, (privateKey 1 5), { key := (privateKey 1 5), st := .m, data := 0 }, working.setSlice 3 fun x =>
     { x with lines := [{ key := (privateKey 1 5), st := .m, data := 0 }] }, by decide +kernel⟩,
   ⟨0, (privateKey 1 5),
     { id := 1, slice := 0, key := (privateKey 1 5), dev := 0, line := 0, epoch := 0, index := 0, quay := 4, write := true, goal := .clean 0 0 },
     working.setPool fun x =>
     { x with accesses := [{ id := 1, slice := 0, key := (privateKey 1 5), dev := 0, line := 0, epoch := 0, index := 0, quay := 4, write := true, goal := .clean 0 0 }] },
     by decide +kernel⟩,
   ⟨0, (privateKey 1 5),
     { id := 1, slice := 0, key := (privateKey 1 5), dev := 0, line := 0, epoch := 0, index := 0, quay := 4, write := true, goal := .clean 0 0 },
     working.setPool fun x =>
     { x with accesses := [{ id := 1, slice := 0, key := (privateKey 1 5), dev := 0, line := 0, epoch := 0, index := 0, quay := 4, write := true, goal := .clean 0 0 }] },
     by decide +kernel⟩,
   ⟨0, 0,
     { id := 1, slice := 0, key := (privateKey 1 5), dev := 0, line := 0, epoch := 0, index := 0, quay := 4, write := true, goal := .poison },
     working.setPool fun x =>
     { x with accesses := [{ id := 1, slice := 0, key := (privateKey 1 5), dev := 0, line := 0, epoch := 0, index := 0, quay := 4, write := true, goal := .poison }] },
     by decide +kernel⟩⟩

/-- A state and operands for each clause of BasinsComplete. -/
theorem test_met_BasinsComplete :
    (∃ (c : Call) (b : Fin 64) (v : Nat) (d : Dev), d.admits c (Obj.basinEnable b) (valueOf c v) ∧ valueOf c v = 1 ∧ ((d.nextSet
      b).any (fun s => d.get (Obj.sliceState s) == 4) = false ∨ d.basinState b ≠ 0)) ∧
    (∃ (c : Call) (b : Fin 64) (v : Nat) (d : Dev), d.admits c (Obj.basinEnable b) (valueOf c v) ∧ valueOf c v = 0) ∧
    (∃ (c : Call) (b : Fin 64) (w : BasinObj) (v : Nat) (d : Dev), d.admits c (basinObj b w) (valueOf c v) ∧ ((w = .homeSetBase
      → setOk d.part (valueOf c v) (d.get (Obj.homeSetSize b)) = true ∧ d.basinLive b = false) ∧ (w = .homeSetSize → setOk
      d.part (d.get (Obj.homeSetBase b)) (valueOf c v) = true ∧ d.basinLive b = false) ∧ (w = .members → (d.basinLive b &&
      Nat.land (d.get (Obj.members b)) (valueOf c v) != d.get (Obj.members b)) = false))) ∧
    (∃ (c : Call) (b : Fin 64) (v : Nat) (d : Dev), d.admits c (Obj.basinReset b) (valueOf c v) ∧ d.basinState b = 2 ∧ d.service
      = true ∧ d.setBusy b = false) ∧
    (∃ (b : Fin 64) (d : Dev), d.powered = true ∧ d.basinState b = 3 ∧ d.service = true ∧ d.walking b = false ∧ (d.basin
      b).enabling = false) ∧
    (∃ (c : Call) (b : Fin 64) (v : Nat) (d : Dev), d.admits c (Obj.basinOpen b) (valueOf c v) ∧ d.basinState b = 4 ∧ d.service
      = true ∧ d.setFenced b = false) ∧
    (∃ (s : Fin 16) (k : Nat) (who : SnoopTarget) (d : Dev), d.powered = true ∧ d.outstanding s k who = true ∧ d.service = true
      ∧ d.basinState (basinOfKey k) = 1) :=
  ⟨⟨byManager 1, 0, 1, managed, by unfold Dev.admits; decide +kernel⟩,
   ⟨byManager 1, 0, 0, managed, by unfold Dev.admits; decide +kernel⟩,
   ⟨ifSeq 1 0, 0, BasinObj.homeSetBase, 0, managed, by unfold Dev.admits; decide +kernel⟩,
   ⟨byManager 0, 0, 0, working.put (Obj.basinState 0) 2, by unfold Dev.admits; decide +kernel⟩,
   ⟨0, working.put (Obj.basinState 0) 3, by decide +kernel⟩,
   ⟨byManager 0, 0, 0, working.put (Obj.basinState 0) 4, by unfold Dev.admits; decide +kernel⟩,
   ⟨0, (basinKey 0 5), SnoopTarget.host 0, (working.put (Obj.basinState 0) 1).setSlice 0 fun x =>
     { x with txs := [{ key := (basinKey 0 5), serves := .walk 0, stages := [], snps := [0] }] }, by decide +kernel⟩⟩

/-- A state and operands for each clause of LedgerCommandsComplete. -/
theorem test_met_LedgerCommandsComplete :
    (∃ (c : Call) (h : Fin 64) (v : Nat) (d : Dev), d.admits c (Obj.slotSource h) (valueOf c v) ∧ (d.sourceTaken h (d.get
      (Obj.slotKind h)) (valueOf c v) = false ∧ (d.get (Obj.slotKind h) = 1 → valueOf c v ≤ 127) ∧ d.slotInUse h = false)) ∧
    (∃ (c : Call) (h : Fin 64) (v : Nat) (d : Dev), d.admits c (Obj.slotKind h) (valueOf c v) ∧ (d.sourceTaken h (valueOf c v)
      (d.get (Obj.slotSource h)) = false ∧ (valueOf c v = 1 → d.get (Obj.slotSource h) ≤ 127) ∧ d.slotInUse h = false)) ∧
    (∃ (c : Call) (n : Fin 1024) (v : Nat) (d : Dev), d.admits c (Obj.berthEnable n) (valueOf c v) ∧ valueOf c v = 1 ∧ d.get
      (Obj.berthEnable n) = 0 ∧ d.berthOk n (d.get (Obj.berthBase n)) (d.get (Obj.berthLimit n)) = true) ∧
    (∃ (c : Call) (n : Fin 1024) (v : Nat) (d : Dev), d.admits c (Obj.berthEnable n) (valueOf c v) ∧ valueOf c v = 0 ∧
      d.berthHolds n 0 = false) ∧
    (∃ (c : Call) (v : Nat) (d : Dev), d.admits c Obj.ledgerWrite (valueOf c v) ∧ checkLedgerWrite (valueOf c v) d = 0) ∧
    (∃ (c : Call) (v : Nat) (d : Dev), d.admits c Obj.poolBarrier (valueOf c v) ∧ d.get Obj.barrierStatus ≠ 1) ∧
    (∃ (d : Dev), d.powered = true ∧ d.get Obj.barrierStatus = 1 ∧ d.openBefore (d.get Obj.barrierEpoch) = false) ∧
    (∃ (s : Fin 16) (line : Nat) (d : Dev), d.powered = true ∧ d.pool.walks.any (fun w => w.slice == s.val && w.line == line) =
      true) ∧
    (∃ (i : Nat) (f : PageFence) (d : Dev), d.powered = true ∧ d.pool.fences.find? (·.index == i) = some f ∧ d.pageBusy i =
      false ∧ f.writeBack = false) ∧
    (∃ (c : Call) (n : Fin 1024) (v : Nat) (d : Dev), d.admits c (Obj.berthFlush n) (valueOf c v)) ∧
    (∃ (c : Call) (v : Nat) (d : Dev), d.admits c Obj.ledgerInit (valueOf c v) ∧ d.mode = 0) ∧
    (∃ (c : Call) (v : Nat) (d : Dev), d.admits c Obj.ledgerAdopt (valueOf c v) ∧ d.mode = 0) :=
  ⟨⟨ifSeq 2 0, 0, 0, managed, by unfold Dev.admits; decide +kernel⟩,
   ⟨byManager 1, 0, 0, managed, by unfold Dev.admits; decide +kernel⟩,
   ⟨byManager 1, 0, 1, managed, by unfold Dev.admits; decide +kernel⟩,
   ⟨byManager 1, 0, 0, managed, by unfold Dev.admits; decide +kernel⟩,
   ⟨byManager 16, 0, managed, by unfold Dev.admits; decide +kernel⟩,
   ⟨byManager 0, 0, managed, by unfold Dev.admits; decide +kernel⟩,
   ⟨full.put (Obj.barrierStatus) 1, by decide +kernel⟩,
   ⟨0, 0, working.setPool fun x => { x with walks := [{ slice := 0, line := 0, epoch := 0, waiting := [] }] },
     by decide +kernel⟩,
   ⟨0, { index := 0, old := 0, writeBack := false }, working.setPool fun x =>
     { x with fences := [{ index := 0, old := 0, writeBack := false }] }, by decide +kernel⟩,
   ⟨byManager 0, 0, 0, managed, by unfold Dev.admits; decide +kernel⟩,
   ⟨byManager 0, 0, managed, by unfold Dev.admits; decide +kernel⟩,
   ⟨byManager 0, 0, managed, by unfold Dev.admits; decide +kernel⟩⟩

/-- A state and operands for each clause of CapacityCompletes. -/
theorem test_met_CapacityCompletes :
    (∃ (c : Call) (v : Nat) (d : Dev), d.admits c Obj.allocGrant (valueOf c v)) ∧
    (∃ (target : Nat) (r : CapReq) (d : Dev), d.powered = true ∧ d.pool.caps.find? (fun r => r.target == target && r.zeroWait) =
      some r) ∧
    (∃ (c : Call) (v : Nat) (d : Dev), d.admits c Obj.extentAnnounce (valueOf c v) ∧ bits (valueOf c v) 0 16 < 1024 ∧ d.inBerth
      (bits (valueOf c v) 0 16) (bits (valueOf c v) 32 32) (bits (valueOf c v) 64 32) = true ∧ ((List.range (bits (valueOf c v)
      64 32)).all fun i => entryValid (d.ledgerAt (d.get (Obj.ledgerFirst (bits (valueOf c v) 0 16)) + bits (valueOf c v) 32 32
      + i))) = true) ∧
    (∃ (n : Fin 1024) (first : Nat) (x : Extent) (d : Dev), d.powered = true ∧ d.extentAt n first = some x) ∧
    (∃ (n : Fin 1024) (first : Nat) (x : Extent) (d : Dev), d.powered = true ∧ d.extentAt n first = some x) ∧
    (∃ (n : Fin 1024) (first : Nat) (x : Extent) (d : Dev), d.powered = true ∧ d.extentAt n first = some x) ∧
    (∃ (n : Fin 1024) (first : Nat) (pages : Nat) (d : Dev), d.powered = true ∧ d.inBerth n first pages = true) ∧
    (∃ (m : Fin 64) (p : Nat) (z : Nat × Nat × Nat × Nat) (d : Dev), d.powered = true ∧ d.crane.zeroing.find? (fun z => z.1 ==
      m.val && z.2.1 == p && z.2.2.1 == 32) = some z) :=
  ⟨⟨byManager 16, 0, managed, by unfold Dev.admits; decide +kernel⟩,
   ⟨1, { target := 1, tier := 0, fallback := false, pages := 1, minPages := 1, asker := .inst 0, zeroWait := true },
     working.setPool fun x =>
     { x with caps := [{ target := 1, tier := 0, fallback := false, pages := 1, minPages := 1, asker := .inst 0, zeroWait := true }] },
     by decide +kernel⟩,
   ⟨byManager 16, 1 + 2 ^ 64, ((working.put (Obj.berthEnable 1) 1).put (Obj.berthLimit 1) 0xFFFFFFF).setPool fun x =>
     { x with ledger := [(0, 2 ^ 63)] }, by unfold Dev.admits; decide +kernel⟩,
   ⟨1, 0, { berth := 1, first := 0, pages := 1 }, ((working.put (Obj.berthEnable 1) 1).put (Obj.berthLimit 1) 0xFFFFFFF).setPool
     fun x => { x with extents := [{ berth := 1, first := 0, pages := 1 }] }, by decide +kernel⟩,
   ⟨1, 0, { berth := 1, first := 0, pages := 1 }, ((working.put (Obj.berthEnable 1) 1).put (Obj.berthLimit 1) 0xFFFFFFF).setPool
     fun x => { x with extents := [{ berth := 1, first := 0, pages := 1 }] }, by decide +kernel⟩,
   ⟨1, 0, { berth := 1, first := 0, pages := 1 }, ((working.put (Obj.berthEnable 1) 1).put (Obj.berthLimit 1) 0xFFFFFFF).setPool
     fun x => { x with extents := [{ berth := 1, first := 0, pages := 1 }] }, by decide +kernel⟩,
   ⟨1, 0, 1, (working.put (Obj.berthEnable 1) 1).put (Obj.berthLimit 1) 0xFFFFFFF, by decide +kernel⟩,
   ⟨0, 0, (0, 0, 32, 0), working.setCrane fun x => { x with zeroing := [(0, 0, 32, 0)] }, by decide +kernel⟩⟩

/-- A state and operands for each clause of AccessesComplete. -/
theorem test_met_AccessesComplete :
    (∃ (a : Access) (d : Dev), d.powered = true ∧ isWrite a.op = true ∧ isBasinKey a.key = false ∧ (d.wakeFor a).stranded a =
      false) ∧
    (∃ (i : Nat) (f : PageFence) (d : Dev), d.powered = true ∧ d.pool.fences.find? (·.index == i) = some f ∧ d.pageBusy i =
      false ∧ f.writeBack = false) ∧
    (∃ (i : Nat) (f : PageFence) (d : Dev), d.powered = true ∧ d.pool.fences.find? (·.index == i) = some f ∧ (d.pageBusy i =
      true ∨ (f.writeBack = true ∧ f.lines.any (fun p => d.cleaning p.1 p.2) = true))) ∧
    (∃ (i : Nat) (f : PageFence) (d : Dev), d.powered = true ∧ d.pool.fences.find? (·.index == i) = some f ∧ d.pageBusy i =
      false ∧ f.writeBack = true ∧ f.lines.any (fun p => d.cleaning p.1 p.2) = false) ∧
    (∃ (c : Call) (n : Fin 1024) (v : Nat) (d : Dev), d.admits c (Obj.berthFlush n) (valueOf c v)) ∧
    (∃ (q : Fin 128) (slot : Nat) (gen : Nat) (o : Orig) (id : Nat) (a : MemAcc) (d : Dev), d.powered = true ∧ d.origAt q slot
      gen = some o ∧ o.ini = .mem id ∧ d.accOf id = some a ∧ a.write = true) ∧
    (∃ (q : Fin 128) (slot : Nat) (gen : Nat) (cause : Fin 4) (o : Orig) (id : Nat) (a : MemAcc) (d : Dev), d.powered = true ∧
      d.origAt q slot gen = some o ∧ o.ini = .mem id ∧ d.accOf id = some a ∧ a.write = true ∧ cause ≠ 0 ∧ cause ≠ 1 ∧ o.sent =
      false) ∧
    (∃ (q : Fin 128) (slot : Nat) (gen : Nat) (o : Orig) (id : Nat) (a : MemAcc) (d : Dev), d.powered = true ∧ d.origAt q slot
      gen = some o ∧ o.ini = .mem id ∧ d.accOf id = some a ∧ a.write = true ∧ o.sent = true) ∧
    (∃ (q : Fin 128) (slot : Nat) (gen : Nat) (o : Orig) (id : Nat) (a : MemAcc) (d : Dev), d.powered = true ∧ d.origAt q slot
      gen = some o ∧ o.ini = .mem id ∧ d.accOf id = some a ∧ a.write = true ∧ o.sent = true) ∧
    (∃ (m : Fin 64) (line : Nat) (a : MemAcc) (d : Dev), d.powered = true ∧ d.pool.accesses.find? (fun a => a.dev == m.val &&
      a.line == line && a.goal == MemFor.poison) = some a) ∧
    (∃ (s : Fin 16) (k : Nat) (d : Dev), d.powered = true ∧ d.pool.hints.contains (s.val, k) = true ∧ d.metered = false) :=
  ⟨⟨{ host := 0, tag := 0, key := (privateKey 1 5), index := 0, op := .write }, working, by decide +kernel⟩,
   ⟨0, { index := 0, old := 0, writeBack := false }, working.setPool fun x =>
     { x with fences := [{ index := 0, old := 0, writeBack := false }] }, by decide +kernel⟩,
   ⟨0, { index := 0, old := 0, writeBack := true, lines := [(0, (privateKey 1 5))] }, working.setPool fun x =>
     { x with fences := [{ index := 0, old := 0, writeBack := true, lines := [(0, (privateKey 1 5))] }], accesses := [{ id := 1, slice := 0, key := (privateKey 1 5), dev := 0, line := 0, epoch := 0, index := 0, quay := 4, write := true, goal := .clean 0 0 }] },
     by decide +kernel⟩,
   ⟨0, { index := 0, old := 0, writeBack := true }, working.setPool fun x =>
     { x with fences := [{ index := 0, old := 0, writeBack := true }] }, by decide +kernel⟩,
   ⟨byManager 0, 0, 0, managed, by unfold Dev.admits; decide +kernel⟩,
   ⟨0, 0, 0, { quay := 0, slot := 0, gen := 0, ini := .mem 1, issued := 0, limit := 0 }, 1,
     { id := 1, slice := 0, key := (privateKey 1 5), dev := 0, line := 0, epoch := 0, index := 0, quay := 4, write := true, goal := .tx },
     (working.setNet fun x =>
     { x with orig := [{ quay := 0, slot := 0, gen := 0, ini := .mem 1, issued := 0, limit := 0 }] }).setPool fun x =>
     { x with accesses := [{ id := 1, slice := 0, key := (privateKey 1 5), dev := 0, line := 0, epoch := 0, index := 0, quay := 4, write := true, goal := .tx }] },
     by decide +kernel⟩,
   ⟨0, 0, 0, 2, { quay := 0, slot := 0, gen := 0, ini := .mem 1, issued := 0, limit := 0, sent := false }, 1,
     { id := 1, slice := 0, key := (privateKey 1 5), dev := 0, line := 0, epoch := 0, index := 0, quay := 4, write := true, goal := .tx },
     (working.setNet fun x =>
     { x with orig := [{ quay := 0, slot := 0, gen := 0, ini := .mem 1, issued := 0, limit := 0, sent := false }] }).setPool fun
     x =>
     { x with accesses := [{ id := 1, slice := 0, key := (privateKey 1 5), dev := 0, line := 0, epoch := 0, index := 0, quay := 4, write := true, goal := .tx }] },
     by decide +kernel⟩,
   ⟨0, 0, 0, { quay := 0, slot := 0, gen := 0, ini := .mem 1, issued := 0, limit := 0, sent := true }, 1,
     { id := 1, slice := 0, key := (privateKey 1 5), dev := 0, line := 0, epoch := 0, index := 0, quay := 4, write := true, goal := .tx },
     (working.setNet fun x =>
     { x with orig := [{ quay := 0, slot := 0, gen := 0, ini := .mem 1, issued := 0, limit := 0, sent := true }] }).setPool fun
     x =>
     { x with accesses := [{ id := 1, slice := 0, key := (privateKey 1 5), dev := 0, line := 0, epoch := 0, index := 0, quay := 4, write := true, goal := .tx }] },
     by decide +kernel⟩,
   ⟨0, 0, 0, { quay := 0, slot := 0, gen := 0, ini := .mem 1, issued := 0, limit := 0, sent := true }, 1,
     { id := 1, slice := 0, key := (privateKey 1 5), dev := 0, line := 0, epoch := 0, index := 0, quay := 4, write := true, goal := .tx },
     (working.setNet fun x =>
     { x with orig := [{ quay := 0, slot := 0, gen := 0, ini := .mem 1, issued := 0, limit := 0, sent := true }] }).setPool fun
     x =>
     { x with accesses := [{ id := 1, slice := 0, key := (privateKey 1 5), dev := 0, line := 0, epoch := 0, index := 0, quay := 4, write := true, goal := .tx }] },
     by decide +kernel⟩,
   ⟨0, 0,
     { id := 1, slice := 0, key := (privateKey 1 5), dev := 0, line := 0, epoch := 0, index := 0, quay := 4, write := true, goal := .poison },
     working.setPool fun x =>
     { x with accesses := [{ id := 1, slice := 0, key := (privateKey 1 5), dev := 0, line := 0, epoch := 0, index := 0, quay := 4, write := true, goal := .poison }] },
     by decide +kernel⟩,
   ⟨0, (privateKey 1 5), working.setPool fun x => { x with hints := [(0, (privateKey 1 5))] }, by decide +kernel⟩⟩

/-- A state and operands for each clause of MigrationCompletes. -/
theorem test_met_MigrationCompletes :
    (∃ (c : Call) (v : Nat) (d : Dev), d.admits c Obj.migrate (valueOf c v) ∧ d.checkMigrate (bits (valueOf c v) 0 32) (bits
      (valueOf c v) 32 8) (bits (valueOf c v) 64 32) = 0) ∧
    (∃ (slot : Fin 256) (g : Mig) (d : Dev), d.powered = true ∧ d.pool.migs.find? (fun g => g.slot == slot.val && g.copying) =
      some g ∧ g.failed = false ∧ d.baleReady g = true) ∧
    (∃ (slot : Fin 256) (g : Mig) (d : Dev), d.powered = true ∧ d.pool.migs.find? (fun g => g.slot == slot.val && g.copying) =
      some g) ∧
    (∃ (m : Fin 64) (p : Nat) (x : Releasing) (g : Mig) (d : Dev), d.powered = true ∧ d.pool.releasing.find? (fun x => x.dev ==
      m.val && x.page == p) = some x ∧ d.remains x = false ∧ ((d.setPool fun y =>
      { y with releasing := y.releasing.erase x }).toZeroing m p).pool.migs.find? (fun g => g.finishing && g.srcDev == m.val &&
      g.srcPage == p) = some g) ∧
    (∃ (c : Call) (v : Nat) (g : Mig) (d : Dev), d.admits c Obj.migrateAbort (valueOf c v) ∧ valueOf c v < 256 ∧
      d.pool.migs.find? (·.slot == valueOf c v) = some g) ∧
    (∃ (d : Dev), d.powered = true ∧ d.tiering = true) ∧
    (∃ (i : Nat) (e : Nat) (d : Dev), d.powered = true ∧ d.tiering = true ∧ d.nextValid d.pool.sweep = some (i, e) ∧
      entryMigrating e = false) :=
  ⟨⟨byManager 16, 2 ^ 32, (((((((working.put (Obj.ledgerState) 1).put (Obj.memdevEnable 1) 1).put (Obj.memdevQuay 1) 4).put
     (Obj.memdevPages 1) 4).put (Obj.memdevEnable 0) 1).put (Obj.memdevQuay 0) 4).put (Obj.memdevPages 0) 4).setPool fun x =>
     { x with enumerated := 3, ledger := [(0, 2 ^ 63)], pages := [(pageKey 1 0, 0)] }, by unfold Dev.admits; decide +kernel⟩,
   ⟨0,
     { slot := 0, index := 0, srcDev := 0, srcPage := 0, dstDev := 1, dstPage := 0, copying := true, engine := 0, byTier := false },
     working.setPool fun x =>
     { x with migs := [{ slot := 0, index := 0, srcDev := 0, srcPage := 0, dstDev := 1, dstPage := 0, copying := true, engine := 0, byTier := false }] },
     by decide +kernel⟩,
   ⟨0,
     { slot := 0, index := 0, srcDev := 0, srcPage := 0, dstDev := 1, dstPage := 0, copying := true, engine := 0, byTier := false },
     working.setPool fun x =>
     { x with migs := [{ slot := 0, index := 0, srcDev := 0, srcPage := 0, dstDev := 1, dstPage := 0, copying := true, engine := 0, byTier := false }] },
     by decide +kernel⟩,
   ⟨0, 0, { dev := 0, page := 0, epoch := 0, index := 0 },
     { slot := 0, index := 0, srcDev := 0, srcPage := 0, dstDev := 1, dstPage := 0, finishing := true, engine := 0, byTier := false },
     working.setPool fun x =>
     { x with migs := [{ slot := 0, index := 0, srcDev := 0, srcPage := 0, dstDev := 1, dstPage := 0, finishing := true, engine := 0, byTier := false }], releasing := [{ dev := 0, page := 0, epoch := 0, index := 0 }] },
     by decide +kernel⟩,
   ⟨byManager 1, 0,
     { slot := 0, index := 0, srcDev := 0, srcPage := 0, dstDev := 1, dstPage := 0, engine := 0, byTier := false },
     working.setPool fun x =>
     { x with migs := [{ slot := 0, index := 0, srcDev := 0, srcPage := 0, dstDev := 1, dstPage := 0, engine := 0, byTier := false }] },
     by unfold Dev.admits; decide +kernel⟩,
   ⟨working.put (Obj.tierEnable) 1, by decide +kernel⟩,
   ⟨0, 2 ^ 63, (working.put (Obj.tierEnable) 1).setPool fun x => { x with ledger := [(0, 2 ^ 63)] }, by decide +kernel⟩⟩

/-- A state and operands for each clause of EnginesComplete. -/
theorem test_met_EnginesComplete :
    (∃ (d : Dev), d.powered = true) ∧
    (∃ (e : Fin 16) (d : Dev), d.powered = true ∧ d.get (Obj.engineState e) = 0 ∧ d.coreOn = true ∧ d.mode ≠ 5) ∧
    (∃ (i : Fin 4096) (qid : Nat) (entry : Nat) (k : Nat) (e : Fin 16) (q : Queue) (x : Desc) (d : Dev), d.powered = true ∧
      d.queue i qid = some q ∧ q.exec.find? (fun x => x.entry == entry && (x.flyingOn e).contains k) = some x ∧ ((d.sendWrites q
      x k).accsOf i qid entry k).all (·.ended) = true ∧ ((q.op x).writesDst = true → ((d.sendWrites q x k).accsOf i qid entry
      k).any (fun a => a.part == 2 || a.status != 0) = true)) :=
  ⟨⟨managed, by decide +kernel⟩,
   ⟨0, full, by decide +kernel⟩,
   ⟨0, 1, 0, 0, 0,
     { inst := 0, qid := 1, ctx := { ringBase := 0, ringEntries := 64, complBase := 0, headAddr := 0, pollInterval := 64, weight := 1, burst := 1, format := 0, vector := 0, queueId := 1 }, state := .running, exec := [{ entry := 0, phase := true, raw := 0, issued := 1 }] },
     { entry := 0, phase := true, raw := 0, issued := 1 }, working.setCrane fun x =>
     { x with queues := [{ inst := 0, qid := 1, ctx := { ringBase := 0, ringEntries := 64, complBase := 0, headAddr := 0, pollInterval := 64, weight := 1, burst := 1, format := 0, vector := 0, queueId := 1 }, state := .running, exec := [{ entry := 0, phase := true, raw := 0, issued := 1 }] }], insts := [(0, { bound := true, model := 1, maxQueues := 4 })] },
     by decide +kernel⟩⟩

/-- A state and operands for each clause of QueuesComplete. -/
theorem test_met_QueuesComplete :
    (∃ (i : Fin 4096) (qid : Nat) (l : List Nat) (q : Queue) (v : Option Nat) (d : Dev), d.powered = true ∧ d.queue i qid = some
      q ∧ d.served q = true ∧ q.cache.length < 8 ∧ d.sideAccs i qid AccPart.ring = [] ∧ (d.craneCheck (d.engineOf i qid) i 1
      (q.ctx.ringBase + 64 * q.fetch)).passes = true ∧ (d.event (0xC300 + d.engineOf i qid) 0x43 1
      { master := instMaster i }).entryRead q (some (l.map some)) = .entry v) ∧
    (∃ (i : Fin 4096) (qid : Nat) (l : List Nat) (ok : Bool) (q : Queue) (d : Dev), d.powered = true ∧ d.queue i qid = some q ∧
      d.served q = true ∧ q.cache.length < 8 ∧ d.sideAccs i qid AccPart.ring = [] ∧ (d.craneCheck (d.engineOf i qid) i 1
      (q.ctx.ringBase + 64 * q.fetch)).passes = true ∧ (d.event (0xC300 + d.engineOf i qid) 0x43 1
      { master := instMaster i }).entryRead q (some (l.map some ++ if ok = true then [] else [none])) = .nothing) ∧
    (∃ (i : Fin 4096) (qid : Nat) (l : List Nat) (ok : Bool) (q : Queue) (region : Nat) (cache : Nat) (strict : Bool) (d : Dev),
      d.powered = true ∧ d.queue i qid = some q ∧ d.served q = true ∧ q.cache.length < 8 ∧ d.sideAccs i qid AccPart.ring = [] ∧
      d.craneCheck (d.engineOf i qid) i 1 (q.ctx.ringBase + 64 * q.fetch) = .pass region cache strict ∧ (d.event (0xC300 +
      d.engineOf i qid) 0x43 1 { master := instMaster i }).entryRead q (some (l.map some ++ if ok = true then [] else [none])) =
      .waits) ∧
    (∃ (i : Fin 4096) (qid : Nat) (q : Queue) (cause : Nat) (region : Nat) (d : Dev), d.powered = true ∧ d.queue i qid = some q
      ∧ d.served q = true ∧ q.cache.length < 8 ∧ d.sideAccs i qid AccPart.ring = [] ∧ d.craneCheck (d.engineOf i qid) i 1
      (q.ctx.ringBase + 64 * q.fetch) = .fail cause region) ∧
    (∃ (i : Fin 4096) (qid : Nat) (q : Queue) (d : Dev), d.powered = true ∧ d.queue i qid = some q ∧ (q.state = .running ∨
      q.state = .paused) ∧ d.queueHeld i qid = false) ∧
    (∃ (i : Fin 4096) (qid : Nat) (q : Queue) (d : Dev), d.powered = true ∧ d.queue i qid = some q ∧ q.ctx.format = 1 ∧ q.state
      ≠ .disabling ∧ q.state ≠ .disabled) ∧
    (∃ (d : Dev), d.powered = true) ∧
    (∃ (i : Fin 4096) (qid : Nat) (q : Queue) (d : Dev), d.powered = true ∧ d.queue i qid = some q ∧ q.state = .destroying ∧
      q.exec = [] ∧ q.cache = [] ∧ d.sideAccs i qid AccPart.ring = [] ∧ (q.headDue || q.noticeDue || d.storing i qid) = false) :=
  ⟨⟨0, 1, [2 ^ 15],
     { inst := 0, qid := 1, ctx := { ringBase := 0, ringEntries := 64, complBase := 0, headAddr := 0, pollInterval := 64, weight := 1, burst := 1, format := 0, vector := 0, queueId := 1 }, state := .running },
     some (2 ^ 15), (((((working.put (Obj.berthEnable 1) 1).put (Obj.berthLimit 1) 0xFFFFFFF).put (Obj.slotKind 0) 1).setCrane
     fun x =>
     { x with queues := [{ inst := 0, qid := 1, ctx := { ringBase := 0, ringEntries := 64, complBase := 0, headAddr := 0, pollInterval := 64, weight := 1, burst := 1, format := 0, vector := 0, queueId := 1 }, state := .running }], insts := [(0, { bound := true, model := 1, maxQueues := 4 })] }).setPool
     fun x => { x with ledger := [(0, 2 ^ 63)] }).setCustoms fun c => { c with tables := [{ flips := [(instMaster 0, 1)] }] },
     by decide +kernel⟩,
   ⟨0, 1, [], true,
     { inst := 0, qid := 1, ctx := { ringBase := 0, ringEntries := 64, complBase := 0, headAddr := 0, pollInterval := 64, weight := 1, burst := 1, format := 0, vector := 0, queueId := 1 }, state := .running },
     (((((working.put (Obj.berthEnable 1) 1).put (Obj.berthLimit 1) 0xFFFFFFF).put (Obj.slotKind 0) 1).setCrane fun x =>
     { x with queues := [{ inst := 0, qid := 1, ctx := { ringBase := 0, ringEntries := 64, complBase := 0, headAddr := 0, pollInterval := 64, weight := 1, burst := 1, format := 0, vector := 0, queueId := 1 }, state := .running }], insts := [(0, { bound := true, model := 1, maxQueues := 4 })] }).setPool
     fun x => { x with ledger := [(0, 2 ^ 63)] }).setCustoms fun c => { c with tables := [{ flips := [(instMaster 0, 1)] }] },
     by decide +kernel⟩,
   ⟨0, 1, [], true,
     { inst := 0, qid := 1, ctx := { ringBase := 0, ringEntries := 64, complBase := 0, headAddr := 0, pollInterval := 64, weight := 1, burst := 1, format := 0, vector := 0, queueId := 1 }, state := .running },
     256, 0, false, ((((working.put (Obj.berthEnable 1) 1).put (Obj.berthLimit 1) 0xFFFFFFF).put (Obj.slotKind 0) 1).setCrane
     fun x =>
     { x with queues := [{ inst := 0, qid := 1, ctx := { ringBase := 0, ringEntries := 64, complBase := 0, headAddr := 0, pollInterval := 64, weight := 1, burst := 1, format := 0, vector := 0, queueId := 1 }, state := .running }], insts := [(0, { bound := true, model := 1, maxQueues := 4 })] }).setCustoms
     fun c => { c with tables := [{ flips := [(instMaster 0, 1)] }] }, by decide +kernel⟩,
   ⟨0, 1,
     { inst := 0, qid := 1, ctx := { ringBase := 0, ringEntries := 64, complBase := 0, headAddr := 0, pollInterval := 64, weight := 1, burst := 1, format := 0, vector := 0, queueId := 1 }, state := .running },
     2, 0xFFFF, (((working.put (Obj.berthEnable 1) 1).put (Obj.berthLimit 1) 0xFFFFFFF).put (Obj.slotKind 0) 1).setCrane fun x
     =>
     { x with queues := [{ inst := 0, qid := 1, ctx := { ringBase := 0, ringEntries := 64, complBase := 0, headAddr := 0, pollInterval := 64, weight := 1, burst := 1, format := 0, vector := 0, queueId := 1 }, state := .running }], insts := [(0, { bound := true, model := 1, maxQueues := 4 })] },
     by decide +kernel⟩,
   ⟨0, 1,
     { inst := 0, qid := 1, ctx := { ringBase := 0, ringEntries := 64, complBase := 0, headAddr := 0, pollInterval := 64, weight := 1, burst := 1, format := 0, vector := 0, queueId := 1 }, state := .running },
     (((working.put (Obj.berthEnable 1) 1).put (Obj.berthLimit 1) 0xFFFFFFF).put (Obj.slotKind 0) 1).setCrane fun x =>
     { x with queues := [{ inst := 0, qid := 1, ctx := { ringBase := 0, ringEntries := 64, complBase := 0, headAddr := 0, pollInterval := 64, weight := 1, burst := 1, format := 0, vector := 0, queueId := 1 }, state := .running }], insts := [(0, { bound := true, model := 1, maxQueues := 4 })] },
     by decide +kernel⟩,
   ⟨0, 1,
     { inst := 0, qid := 1, ctx := { ringBase := 0, ringEntries := 64, complBase := 0, headAddr := 0, pollInterval := 64, weight := 1, burst := 1, format := 1, vector := 0, queueId := 1 }, state := .running },
     (((working.put (Obj.berthEnable 1) 1).put (Obj.berthLimit 1) 0xFFFFFFF).put (Obj.slotKind 0) 1).setCrane fun x =>
     { x with queues := [{ inst := 0, qid := 1, ctx := { ringBase := 0, ringEntries := 64, complBase := 0, headAddr := 0, pollInterval := 64, weight := 1, burst := 1, format := 1, vector := 0, queueId := 1 }, state := .running }], insts := [(0, { bound := true, model := 1, maxQueues := 4 })] },
     by decide +kernel⟩,
   ⟨managed, by decide +kernel⟩,
   ⟨0, 1,
     { inst := 0, qid := 1, ctx := { ringBase := 0, ringEntries := 64, complBase := 0, headAddr := 0, pollInterval := 64, weight := 1, burst := 1, format := 0, vector := 0, queueId := 1 }, state := .destroying },
     (((working.put (Obj.berthEnable 1) 1).put (Obj.berthLimit 1) 0xFFFFFFF).put (Obj.slotKind 0) 1).setCrane fun x =>
     { x with queues := [{ inst := 0, qid := 1, ctx := { ringBase := 0, ringEntries := 64, complBase := 0, headAddr := 0, pollInterval := 64, weight := 1, burst := 1, format := 0, vector := 0, queueId := 1 }, state := .destroying }], insts := [(0, { bound := true, model := 1, maxQueues := 4 })] },
     by decide +kernel⟩⟩

/-- A state and operands for each clause of AdminCommandsComplete. -/
theorem test_met_AdminCommandsComplete :
    (∃ (i : Fin 4096) (ctx : QContext) (x : Desc) (d : Dev), d.powered = true ∧ d.adminCmd i 0x80 = some x ∧ d.sideAccs i 0
      AccPart.context = [] ∧ d.homeRead i (bytesAt x.raw 8 8) = .memory ∧ (d.craneCheck (d.engineOf i 0) i 1 (bytesAt x.raw 8
      8)).passes = true ∧ d.createStatus i (some ctx) = 0) ∧
    (∃ (i : Fin 4096) (qid : Nat) (x : Desc) (q : Queue) (d : Dev), d.powered = true ∧ d.adminCmd i 0x81 = some x ∧ bytesAt
      x.raw 4 2 = qid ∧ qid ≠ 0 ∧ d.queue i qid = some q) ∧
    (∃ (i : Fin 4096) (qid : Nat) (x : Desc) (d : Dev), d.powered = true ∧ d.adminCmd i 0x81 = some x ∧ bytesAt x.raw 4 2 = qid
      ∧ (qid = 0 ∨ d.queue i qid = none)) ∧
    (∃ (i : Fin 4096) (qid : Nat) (x : Desc) (q : Queue) (d : Dev), d.powered = true ∧ d.adminCmd i 0x82 = some x ∧ bytesAt
      x.raw 4 2 = qid ∧ qid ≠ 0 ∧ d.queue i qid = some q ∧ d.sideAccs i 0 AccPart.result = [] ∧ (d.craneCheck (d.engineOf i 0) i
      2 (bytesAt x.raw 8 8)).passes = true) ∧
    (∃ (i : Fin 4096) (qid : Nat) (x : Desc) (q : Queue) (d : Dev), d.powered = true ∧ d.adminCmd i 0x82 = some x ∧ bytesAt
      x.raw 4 2 = qid ∧ qid ≠ 0 ∧ d.queue i qid = some q ∧ d.sideAccs i 0 AccPart.result = [] ∧ (d.craneCheck (d.engineOf i 0) i
      2 (bytesAt x.raw 8 8)).passes = true) ∧
    (∃ (i : Fin 4096) (qid : Nat) (cause : Nat) (region : Nat) (x : Desc) (q : Queue) (d : Dev), d.powered = true ∧ d.adminCmd i
      0x82 = some x ∧ bytesAt x.raw 4 2 = qid ∧ qid ≠ 0 ∧ d.queue i qid = some q ∧ d.sideAccs i 0 AccPart.result = [] ∧
      d.craneCheck (d.engineOf i 0) i 2 (bytesAt x.raw 8 8) = .fail cause region) :=
  ⟨⟨0,
     { ringBase := 0, ringEntries := 64, complBase := 0, headAddr := 0, pollInterval := 64, weight := 1, burst := 1, format := 0, vector := 0, queueId := 1 },
     { entry := 0, phase := true, raw := 0x80, issued := 1 }, (((((working.put (Obj.berthEnable 1) 1).put (Obj.berthLimit 1)
     0xFFFFFFF).put (Obj.slotKind 0) 1).setCrane fun x =>
     { x with queues := [{ inst := 0, qid := 0, ctx := { ringBase := 0, ringEntries := 64, complBase := 0, headAddr := 0, pollInterval := 64, weight := 1, burst := 1, format := 0, vector := 0, queueId := 0 }, state := .running, exec := [{ entry := 0, phase := true, raw := 0x80, issued := 1 }] }], insts := [(0, { bound := true, model := 1, maxQueues := 4 })] }).setPool
     fun x => { x with ledger := [(0, 2 ^ 63)] }).setCustoms fun c => { c with tables := [{ flips := [(instMaster 0, 1)] }] },
     by decide +kernel⟩,
   ⟨0, 1, { entry := 0, phase := true, raw := 0x81 + 2 ^ 32, issued := 1 },
     { inst := 0, qid := 1, ctx := { ringBase := 0, ringEntries := 64, complBase := 0, headAddr := 0, pollInterval := 64, weight := 1, burst := 1, format := 0, vector := 0, queueId := 1 }, state := .running },
     (((working.put (Obj.berthEnable 1) 1).put (Obj.berthLimit 1) 0xFFFFFFF).put (Obj.slotKind 0) 1).setCrane fun x =>
     { x with queues := [{ inst := 0, qid := 0, ctx := { ringBase := 0, ringEntries := 64, complBase := 0, headAddr := 0, pollInterval := 64, weight := 1, burst := 1, format := 0, vector := 0, queueId := 0 }, state := .running, exec := [{ entry := 0, phase := true, raw := 0x81 + 2 ^ 32, issued := 1 }] }, { inst := 0, qid := 1, ctx := { ringBase := 0, ringEntries := 64, complBase := 0, headAddr := 0, pollInterval := 64, weight := 1, burst := 1, format := 0, vector := 0, queueId := 1 }, state := .running }], insts := [(0, { bound := true, model := 1, maxQueues := 4 })] },
     by decide +kernel⟩,
   ⟨0, 0, { entry := 0, phase := true, raw := 0x81, issued := 1 }, (((working.put (Obj.berthEnable 1) 1).put (Obj.berthLimit 1)
     0xFFFFFFF).put (Obj.slotKind 0) 1).setCrane fun x =>
     { x with queues := [{ inst := 0, qid := 0, ctx := { ringBase := 0, ringEntries := 64, complBase := 0, headAddr := 0, pollInterval := 64, weight := 1, burst := 1, format := 0, vector := 0, queueId := 0 }, state := .running, exec := [{ entry := 0, phase := true, raw := 0x81, issued := 1 }] }], insts := [(0, { bound := true, model := 1, maxQueues := 4 })] },
     by decide +kernel⟩,
   ⟨0, 1, { entry := 0, phase := true, raw := 0x82 + 2 ^ 32, issued := 1 },
     { inst := 0, qid := 1, ctx := { ringBase := 0, ringEntries := 64, complBase := 0, headAddr := 0, pollInterval := 64, weight := 1, burst := 1, format := 0, vector := 0, queueId := 1 }, state := .running },
     ((((working.put (Obj.berthEnable 1) 1).put (Obj.berthLimit 1) 0xFFFFFFF).put (Obj.slotKind 0) 1).setCrane fun x =>
     { x with queues := [{ inst := 0, qid := 0, ctx := { ringBase := 0, ringEntries := 64, complBase := 0, headAddr := 0, pollInterval := 64, weight := 1, burst := 1, format := 0, vector := 0, queueId := 0 }, state := .running, exec := [{ entry := 0, phase := true, raw := 0x82 + 2 ^ 32, issued := 1 }] }, { inst := 0, qid := 1, ctx := { ringBase := 0, ringEntries := 64, complBase := 0, headAddr := 0, pollInterval := 64, weight := 1, burst := 1, format := 0, vector := 0, queueId := 1 }, state := .running }], insts := [(0, { bound := true, model := 1, maxQueues := 4 })] }).setCustoms
     fun c => { c with tables := [{ flips := [(instMaster 0, 1)] }] }, by decide +kernel⟩,
   ⟨0, 1, { entry := 0, phase := true, raw := 0x82 + 2 ^ 32, issued := 1 },
     { inst := 0, qid := 1, ctx := { ringBase := 0, ringEntries := 64, complBase := 0, headAddr := 0, pollInterval := 64, weight := 1, burst := 1, format := 0, vector := 0, queueId := 1 }, state := .running },
     ((((working.put (Obj.berthEnable 1) 1).put (Obj.berthLimit 1) 0xFFFFFFF).put (Obj.slotKind 0) 1).setCrane fun x =>
     { x with queues := [{ inst := 0, qid := 0, ctx := { ringBase := 0, ringEntries := 64, complBase := 0, headAddr := 0, pollInterval := 64, weight := 1, burst := 1, format := 0, vector := 0, queueId := 0 }, state := .running, exec := [{ entry := 0, phase := true, raw := 0x82 + 2 ^ 32, issued := 1 }] }, { inst := 0, qid := 1, ctx := { ringBase := 0, ringEntries := 64, complBase := 0, headAddr := 0, pollInterval := 64, weight := 1, burst := 1, format := 0, vector := 0, queueId := 1 }, state := .running }], insts := [(0, { bound := true, model := 1, maxQueues := 4 })] }).setCustoms
     fun c => { c with tables := [{ flips := [(instMaster 0, 1)] }] }, by decide +kernel⟩,
   ⟨0, 1, 2, 0xFFFF, { entry := 0, phase := true, raw := 0x82 + 2 ^ 32, issued := 1 },
     { inst := 0, qid := 1, ctx := { ringBase := 0, ringEntries := 64, complBase := 0, headAddr := 0, pollInterval := 64, weight := 1, burst := 1, format := 0, vector := 0, queueId := 1 }, state := .running },
     (((working.put (Obj.berthEnable 1) 1).put (Obj.berthLimit 1) 0xFFFFFFF).put (Obj.slotKind 0) 1).setCrane fun x =>
     { x with queues := [{ inst := 0, qid := 0, ctx := { ringBase := 0, ringEntries := 64, complBase := 0, headAddr := 0, pollInterval := 64, weight := 1, burst := 1, format := 0, vector := 0, queueId := 0 }, state := .running, exec := [{ entry := 0, phase := true, raw := 0x82 + 2 ^ 32, issued := 1 }] }, { inst := 0, qid := 1, ctx := { ringBase := 0, ringEntries := 64, complBase := 0, headAddr := 0, pollInterval := 64, weight := 1, burst := 1, format := 0, vector := 0, queueId := 1 }, state := .running }], insts := [(0, { bound := true, model := 1, maxQueues := 4 })] },
     by decide +kernel⟩⟩

/-- A state and operands for each clause of FunctionsComplete. -/
theorem test_met_FunctionsComplete :
    (∃ (i : Fin 36992) (r : FuncRegs) (d : Dev), d.powered = true ∧ i.val < 4096 ∧ (d.inst i).bound = true ∧ (d.inst
      i).resetting = false ∧ (((d.setInst i (Inst.writeRegs r)).sendPending i).inst i).enable = false) ∧
    (∃ (i : Fin 36992) (d : Dev), d.powered = true ∧ 4096 ≤ i.val ∧ d.isFunc i = true) ∧
    (∃ (i : Fin 36992) (d : Dev), d.powered = true ∧ 4096 ≤ i.val ∧ d.isFunc i = true) ∧
    (∃ (i : Fin 36992) (d : Dev), d.powered = true ∧ i.val < 4096 ∧ (d.inst i).bound = true ∧ (d.inst i).h2mPost = false) ∧
    (∃ (i : Fin 36992) (d : Dev), d.powered = true ∧ d.isFunc i = true ∧ (d.inst i).capGo = false) ∧
    (∃ (i : Fin 36992) (d : Dev), d.powered = true ∧ d.isFunc i = true ∧ (d.inst i).capGo = false) :=
  ⟨⟨0, {}, working.setCrane fun x => { x with insts := [(0, { bound := true, function := 0 })] }, by decide +kernel⟩,
   ⟨4096, working, by decide +kernel⟩,
   ⟨4096, working, by decide +kernel⟩,
   ⟨0, working.setCrane fun x => { x with insts := [(0, { bound := true, function := 0 })] }, by decide +kernel⟩,
   ⟨0, working.setCrane fun x => { x with insts := [(0, { bound := true, function := 0 })] }, by decide +kernel⟩,
   ⟨0, working.setCrane fun x => { x with insts := [(0, { bound := true, function := 0 })] }, by decide +kernel⟩⟩

/-- A state and operands for each clause of InstancesComplete. -/
theorem test_met_InstancesComplete :
    (∃ (c : Call) (v : Nat) (d : Dev), d.admits c Obj.mboxH2mAck (valueOf c v) ∧ valueOf c v < 4096) ∧
    (∃ (c : Call) (v : Nat) (d : Dev), d.admits c Obj.mboxM2h (valueOf c v) ∧ bits (valueOf c v) 0 16 < 4096 ∧ (d.inst (bits
      (valueOf c v) 0 16)).m2hValid = false) ∧
    (∃ (c : Call) (v : Nat) (d : Dev), d.admits c Obj.instConfig (valueOf c v) ∧ checkInstConfig (valueOf c v) d = 0) ∧
    (∃ (c : Call) (v : Nat) (d : Dev), d.admits c Obj.instReset (valueOf c v) ∧ valueOf c v < 4096) ∧
    (∃ (i : Fin 36992) (d : Dev), d.powered = true ∧ (d.inst i).bound = true ∧ (d.inst i).function ≠ 0) ∧
    (∃ (i : Fin 36992) (d : Dev), d.powered = true ∧ (4096 ≤ i.val ∨ (d.inst i).bound = true) ∧ (d.inst i).function = 0) ∧
    (∃ (i : Fin 36992) (d : Dev), d.powered = true ∧ 4096 ≤ i.val ∧ (d.inst i).bound = false ∧ (d.inst i).function ≠ 0) ∧
    (∃ (d : Dev), d.powered = true) ∧
    (∃ (i : Fin 4096) (d : Dev), d.powered = true ∧ (d.inst i).resetting = true) :=
  ⟨⟨byManager 2, 0, managed, by unfold Dev.admits; decide +kernel⟩,
   ⟨byManager 2056, 0, working.setCrane fun x => { x with insts := [(0, { bound := true, function := 0 })] },
     by unfold Dev.admits; decide +kernel⟩,
   ⟨byManager 32, 2 ^ 56 + 2 ^ 64, working, by unfold Dev.admits; decide +kernel⟩,
   ⟨byManager 2, 0, managed, by unfold Dev.admits; decide +kernel⟩,
   ⟨0, working.setCrane fun x => { x with insts := [(0, { bound := true, function := 1 })] }, by decide +kernel⟩,
   ⟨0, working.setCrane fun x => { x with insts := [(0, { bound := true, function := 0 })] }, by decide +kernel⟩,
   ⟨4097, working, by decide +kernel⟩,
   ⟨managed, by decide +kernel⟩,
   ⟨0, working.setCrane fun x => { x with insts := [(0, { bound := true, function := 1, resetting := true })] },
     by decide +kernel⟩⟩

/-- A state and operands for each clause of ZmpOperationsComplete. -/
theorem test_met_ZmpOperationsComplete :
    (∃ (c : Call) (d : Dev), d.powered = true ∧ d.callerOpen c.caller = true) ∧
    (∃ (c : Call) (d : Dev), d.powered = true ∧ d.callerOpen c.caller = true) ∧
    (∃ (c : Call) (d : Dev), d.powered = true ∧ d.callerOpen c.caller = true) ∧
    (∃ (c : Call) (o : ObjRef) (v : Nat) (d : Dev), d.admits { c with expect := none } (keyOf o) (valueOf
      { c with expect := none } v) ∧ (actOf (keyOf o)).check { c with expect := none } (valueOf c v) d = 0) ∧
    (∃ (c : Call) (o : ObjRef) (seq : Nat) (v : Nat) (d : Dev), d.admits { c with expect := some seq } (keyOf o) (valueOf
      { c with expect := some seq } v) ∧ (actOf (keyOf o)).check { c with expect := some seq } (valueOf c v) d = 0) ∧
    (∃ (f : Frame) (slot : Nat) (m : ZmpMsg) (x : Session) (d : Dev), d.powered = true ∧ d.hearsFrame f.binding = true ∧ f.magic
      = 0x5A4D ∧ f.version = 1 ∧ f.lenOk = true ∧ f.bodyLen ≤ 4224 ∧ f.body = .secured slot m ∧ d.session slot = some x ∧
      x.binding = f.binding.address) ∧
    (∃ (b : Binding) (d : Dev), d.powered = true ∧ d.hearsFrame b = true) :=
  ⟨⟨byManager 1, managed, by decide +kernel⟩,
   ⟨byManager 1, managed, by decide +kernel⟩,
   ⟨byManager 1, managed, by decide +kernel⟩,
   ⟨byManager 1, ⟨0xC001, 1⟩, 0, full, by unfold Dev.admits; decide +kernel⟩,
   ⟨byManager 1, ⟨0xC001, 1⟩, 0, 0, full, by unfold Dev.admits; decide +kernel⟩,
   ⟨{ binding := ⟨1, 0, 0, {}⟩, magic := 0x5A4D, version := 1, bodyLen := 24, lenOk := true, body := .secured 1 { msgId := 1, stopOnError := false, bytes := 24, wellFormed := true, unanswered := 0, ops := [.read ⟨0x1030, 1⟩] } },
     1, { msgId := 1, stopOnError := false, bytes := 24, wellFormed := true, unanswered := 0, ops := [.read ⟨0x1030, 1⟩] },
     { slot := 1, credRole := 4, cred := 0, binding := ⟨1, 0, 0, {}⟩, openTime := 0 }, full.put (Obj.ethEnable 0) 1,
     by decide +kernel⟩,
   ⟨⟨1, 0, 0, {}⟩, managed, by decide +kernel⟩⟩

/-- A state and operands for each clause of SessionsComplete. -/
theorem test_met_SessionsComplete :
    (∃ (d : Dev), d.powered = true) ∧
    (∃ (d : Dev), d.powered = true) ∧
    (∃ (slot : Nat) (seq : Nat) (status : Nat) (value : Nat) (d : Dev), d.powered = true ∧ d.mgmt.ready.contains (slot, seq,
      status, value) = true) ∧
    (∃ (c : Call) (v : Nat) (d : Dev), d.admits c Obj.sessionClose (valueOf c v)) ∧
    (∃ (slot : Nat) (d : Dev), d.powered = true ∧ (d.session slot).isSome = true) :=
  ⟨⟨managed, by decide +kernel⟩,
   ⟨managed, by decide +kernel⟩,
   ⟨1, 2, 0, 0, full.setMgmt fun x => { x with ready := [(1, 2, 0, 0)] }, by decide +kernel⟩,
   ⟨byManager 1, 1, managed, by unfold Dev.admits; decide +kernel⟩,
   ⟨1, managed, by decide +kernel⟩⟩

/-- A state and operands for each clause of ConfigurationCompletes. -/
theorem test_met_ConfigurationCompletes :
    (∃ (c : Call) (v : Nat) (d : Dev), d.admits c Obj.store (valueOf c v)) ∧
    (∃ (c : Call) (v : Nat) (d : Dev), d.admits c Obj.restoreDefaults (valueOf c v) ∧ d.mode = 0) ∧
    (∃ (c : Call) (g : Nat) (d : Dev), d.admits c Obj.groupClaim (valueOf c g) ∧ checkGroup c (valueOf c g) d = 0) ∧
    (∃ (c : Call) (g : Nat) (d : Dev), d.admits c Obj.groupRelease (valueOf c g) ∧ checkGroup c (valueOf c g) d = 0) :=
  ⟨⟨byManager 0, 0, managed, by unfold Dev.admits; decide +kernel⟩,
   ⟨byManager 0, 0, managed, by unfold Dev.admits; decide +kernel⟩,
   ⟨byManager 1, 1, managed, by unfold Dev.admits; decide +kernel⟩,
   ⟨byManager 1, 1, managed, by unfold Dev.admits; decide +kernel⟩⟩

/-- A state and operands for each clause of FabricTimeCompletes. -/
theorem test_met_FabricTimeCompletes :
    (∃ (src : Fin 5) (d : Dev), d.powered = true ∧ d.measures src = true) ∧
    (∃ (d : Dev), d.powered = true ∧ d.get Obj.timeSource ≠ 0 ∧ d.get Obj.timeState ≠ 3) ∧
    (∃ (c : Call) (v : Nat) (d : Dev), d.admits c Obj.timeSource (valueOf c v)) :=
  ⟨⟨1, managed, by decide +kernel⟩,
   ⟨managed, by decide +kernel⟩,
   ⟨byManager 1, 0, managed, by unfold Dev.admits; decide +kernel⟩⟩

/-- A state and operands for each clause of FmApiCompletes. -/
theorem test_met_FmApiCompletes :
    (∃ (b : Binding) (d : Dev), d.powered = true ∧ d.fmOpen b = true) ∧
    (∃ (b : Binding) (d : Dev), d.powered = true ∧ d.fmOpen b = true) ∧
    (∃ (b : Binding) (d : Dev), d.powered = true ∧ d.fmOpen b = true) ∧
    (∃ (b : Binding) (d : Dev), d.powered = true ∧ d.fmOpen b = true) ∧
    (∃ (b : Binding) (q : Fin 128) (d : Dev), d.powered = true ∧ d.fmOpen b = true ∧ d.role q = 1) ∧
    (∃ (b : Binding) (q : Fin 128) (v : Nat) (t : Nat) (d : Dev), d.powered = true ∧ d.fmOpen b = true ∧ d.bindable q v t =
      true) ∧
    (∃ (b : Binding) (q : Fin 128) (v : Nat) (d : Dev), d.powered = true ∧ d.fmOpen b = true ∧ d.mgmt.vppbs.any (fun p => p.1 ==
      q.val && p.2.1 == v) = true) ∧
    (∃ (b : Binding) (q : Fin 128) (d : Dev), d.powered = true ∧ d.fmOpen b = true ∧ d.role q = 2 ∧ d.isUp q = true ∧
      d.multiLogical q = true) ∧
    (∃ (b : Binding) (d : Dev), d.powered = true ∧ d.fmOpen b = true) ∧
    (∃ (b : Binding) (d : Dev), d.powered = true ∧ d.fmOpen b = true) ∧
    (∃ (b : Binding) (n : Fin 1024) (first : Nat) (pages : Nat) (d : Dev), d.powered = true ∧ d.fmOpen b = true ∧ d.inBerth n
      first pages = true) ∧
    (∃ (b : Binding) (d : Dev), d.powered = true ∧ d.fmOpen b = true) ∧
    (∃ (b : Binding) (d : Dev), d.powered = true ∧ d.fmOpen b = true) ∧
    (∃ (b : Binding) (d : Dev), d.powered = true ∧ d.fmOpen b = true) :=
  ⟨⟨⟨3, 0, 0, {}⟩, managed, by decide +kernel⟩,
   ⟨⟨3, 0, 0, {}⟩, managed, by decide +kernel⟩,
   ⟨⟨3, 0, 0, {}⟩, managed, by decide +kernel⟩,
   ⟨⟨3, 0, 0, {}⟩, managed, by decide +kernel⟩,
   ⟨⟨3, 0, 0, {}⟩, 0, linked, by decide +kernel⟩,
   ⟨⟨3, 0, 0, {}⟩, 0, 0, 4, linked, by decide +kernel⟩,
   ⟨⟨3, 0, 0, {}⟩, 0, 0, (linked.put (Obj.transportRoleCap 4) 4).setMgmt fun x => { x with vppbs := [(0, 0, 4)] },
     by decide +kernel⟩,
   ⟨⟨3, 0, 0, {}⟩, 4, (((linked.put (Obj.transportRoleCap 4) 4).put (Obj.memdevEnable 0) 1).put (Obj.memdevQuay 0) 4).put
     (Obj.memdevLd 0) 0, by decide +kernel⟩,
   ⟨⟨3, 0, 0, {}⟩, managed, by decide +kernel⟩,
   ⟨⟨3, 0, 0, {}⟩, managed, by decide +kernel⟩,
   ⟨⟨3, 0, 0, {}⟩, 1, 0, 1, ((working.put (Obj.berthEnable 1) 1).put (Obj.berthLimit 1) 0xFFFFFFF).put (Obj.transportRoleCap 4)
     4, by decide +kernel⟩,
   ⟨⟨3, 0, 0, {}⟩, managed, by decide +kernel⟩,
   ⟨⟨3, 0, 0, {}⟩, managed, by decide +kernel⟩,
   ⟨⟨3, 0, 0, {}⟩, managed, by decide +kernel⟩⟩

/-- A state and operands for each clause of PldmAndMctpComplete. -/
theorem test_met_PldmAndMctpComplete :
    (∃ (b : Binding) (d : Dev), d.powered = true ∧ d.hearsMctp b = true) ∧
    (∃ (b : Binding) (n : Nat) (o : Nat) (d : Dev), d.powered = true ∧ d.hearsMctp b = true ∧ sensorKey n = some o ∧ d.exists' o
      = true) ∧
    (∃ (b : Binding) (d : Dev), d.powered = true ∧ d.boot = .running ∧ d.hearsMctp b = true ∧ d.get Obj.pldmUpdateEnable = 1 ∧
      d.capsManager b = true) :=
  ⟨⟨⟨3, 0, 0, {}⟩, managed, by decide +kernel⟩,
   ⟨⟨3, 0, 0, {}⟩, 0, Obj.powerMeasured, full, by decide +kernel⟩,
   ⟨⟨3, 0, 0, {}⟩, managed, by decide +kernel⟩⟩

/-- A state and operands for each clause of GovernorCompletes. -/
theorem test_met_GovernorCompletes :
    (∃ (d : Dev), d.powered = true ∧ d.coreOn = true) ∧
    (∃ (d : Dev), d.powered = true ∧ d.coreOn = true ∧ d.tide.droop = false) ∧
    (∃ (d : Dev), d.powered = true ∧ d.coreOn = true) ∧
    (∃ (volts : Nat) (d : Dev), d.powered = true ∧ d.coreOn = true ∧ volts * 100 < 55 * 65536) ∧
    (∃ (d : Dev), d.powered = true ∧ d.coreOn = true ∧ d.chained = false ∧ d.tide.fore.isSome = true) ∧
    (∃ (d : Dev), d.powered = true) ∧
    (∃ (f : Fore) (d : Dev), d.powered = true ∧ d.tide.fore = some f ∧ f.ramping = true) :=
  ⟨⟨full, by decide +kernel⟩,
   ⟨full, by decide +kernel⟩,
   ⟨full, by decide +kernel⟩,
   ⟨0, full, by decide +kernel⟩,
   ⟨full.setTide fun x => { x with fore := some { hold := 0, start := 0, first := 0, step := 1 } }, by decide +kernel⟩,
   ⟨managed, by decide +kernel⟩,
   ⟨{ hold := 0, start := 0, first := 0, step := 1, ramping := true }, full.setTide fun x =>
     { x with fore := some { hold := 0, start := 0, first := 0, step := 1, ramping := true } }, by decide +kernel⟩⟩

/-- A state and operands for each clause of ChainAndRailsComplete. -/
theorem test_met_ChainAndRailsComplete :
    (∃ (f : Nat) (d : Dev), d.powered = true ∧ d.get Obj.syncEnable ≠ 0 ∧ frameOk f = true ∧ bits f 27 5 ≠ (d.put Obj.syncState
      1).get Obj.syncPosition) ∧
    (∃ (d : Dev), d.powered = true ∧ d.get Obj.syncEnable = 0) ∧
    (∃ (d : Dev), d.powered = true ∧ d.get Obj.syncEnable = 1 ∧ d.get Obj.syncPosition = 0) ∧
    (∃ (d : Dev), d.powered = true ∧ d.get Obj.syncEnable = 1 ∧ d.get Obj.syncState ≠ 2) ∧
    (∃ (r : Fin 6) (m : Nat) (d : Dev), d.powered = true ∧ d.busFree 48 = true ∧ voutLinear m = true ∧ (d.railSends r).get
      (Obj.busState 48) ≠ 2) :=
  ⟨⟨0xA500000000 + 2 ^ 27 + 15, full.put (Obj.syncEnable) 1, by decide +kernel⟩,
   ⟨managed, by decide +kernel⟩,
   ⟨full.put (Obj.syncEnable) 1, by decide +kernel⟩,
   ⟨full.put (Obj.syncEnable) 1, by decide +kernel⟩,
   ⟨0, 0, managed, by decide +kernel⟩⟩

/-- A state and operands for each clause of SlotPowerCompletes. -/
theorem test_met_SlotPowerCompletes :
    (∃ (n : Fin 48) (d : Dev), d.powered = true ∧ d.slotState n = 0) ∧
    (∃ (d : Dev), d.powered = true) ∧
    (∃ (n : Fin 48) (d : Dev), d.powered = true ∧ d.slotState n = 1 ∧ (d.slotCh n).steady = true ∧ (d.slotCh n).cooling = false) ∧
    (∃ (c : Call) (n : Fin 48) (d : Dev), d.admits c (Obj.slotPower n) (valueOf c 1) ∧ 1 ≤ c.len) ∧
    (∃ (n : Fin 48) (d : Dev), d.powered = true ∧ d.slotState n = 4 ∧ d.supplyOn n = true) ∧
    (∃ (n : Fin 48) (d : Dev), d.powered = true ∧ d.flag n Flag.timer = false ∧ d.slotState n = 5) ∧
    (∃ (n : Fin 48) (d : Dev), d.powered = true ∧ d.slotState n = 6 ∧ (d.slotCh n).perstDue = true ∧ d.coreOn = true) ∧
    (∃ (c : Call) (n : Fin 48) (d : Dev), d.admits c (Obj.slotPower n) (valueOf c 0)) ∧
    (∃ (n : Fin 48) (d : Dev), d.powered = true ∧ ((d.setFlag n Flag.seated false).setSlot n fun c =>
      { c with steady := false }).gateOn n = true) ∧
    (∃ (n : Fin 48) (d : Dev), d.powered = true ∧ d.slotState n ≠ 0) ∧
    (∃ (n : Fin 48) (d : Dev), d.powered = true ∧ d.gateOn n = true) ∧
    (∃ (d : Dev), d.powered = true) ∧
    (∃ (n : Fin 48) (d : Dev), d.powered = true ∧ d.gateOn n = true ∧ d.flag n Flag.timer = true) ∧
    (∃ (n : Fin 48) (d : Dev), d.powered = true ∧ d.gateOn n = true) ∧
    (∃ (n : Fin 48) (d : Dev), d.powered = true ∧ (d.slotCh n).cooling = true) ∧
    (∃ (n : Fin 48) (d : Dev), d.powered = true ∧ d.slotState n = 8) ∧
    (∃ (c : Call) (n : Fin 48) (v : Nat) (d : Dev), d.admits c (Obj.slotResetFault n) (valueOf c v)) ∧
    (∃ (d : Dev), d.powered = true) :=
  ⟨⟨0, managed, by decide +kernel⟩,
   ⟨managed, by decide +kernel⟩,
   ⟨0, (full.put (Obj.slotState 0) 1).setSlot 0 fun c => { c with steady := true }, by decide +kernel⟩,
   ⟨byManager 1, 0, managed, by unfold Dev.admits; decide +kernel⟩,
   ⟨0, full.put (Obj.slotState 0) 4, by decide +kernel⟩,
   ⟨0, full.put (Obj.slotState 0) 5, by decide +kernel⟩,
   ⟨0, (full.put (Obj.slotState 0) 6).setSlot 0 fun c => { c with perstDue := true }, by decide +kernel⟩,
   ⟨byManager 1, 0, managed, by unfold Dev.admits; decide +kernel⟩,
   ⟨0, full.put (Obj.slotState 0) 5, by decide +kernel⟩,
   ⟨0, full.put (Obj.slotState 0) 1, by decide +kernel⟩,
   ⟨0, full.put (Obj.slotState 0) 5, by decide +kernel⟩,
   ⟨managed, by decide +kernel⟩,
   ⟨0, (full.put (Obj.slotState 0) 5).setFlag 0 Flag.timer true, by decide +kernel⟩,
   ⟨0, full.put (Obj.slotState 0) 5, by decide +kernel⟩,
   ⟨0, (full.put (Obj.slotState 0) 7).setSlot 0 fun c => { c with cooling := true }, by decide +kernel⟩,
   ⟨0, full.put (Obj.slotState 0) 8, by decide +kernel⟩,
   ⟨byManager 0, 0, 0, managed, by unfold Dev.admits; decide +kernel⟩,
   ⟨full.put (Obj.slotState 0) 6, by decide +kernel⟩⟩

/-- A state and operands for each clause of BackplanesComplete. -/
theorem test_met_BackplanesComplete :
    (∃ (c : Call) (b : Fin 2) (v : Nat) (d : Dev), d.admits c (Obj.bpEnable b) (valueOf c v)) ∧
    (∃ (b : Fin 2) (d : Dev), d.powered = true ∧ d.get (Obj.bpState b) = 1) ∧
    (∃ (b : Fin 2) (d : Dev), d.powered = true ∧ d.get (Obj.bpState b) = 1) ∧
    (∃ (b : Fin 2) (d : Dev), d.powered = true ∧ d.get (Obj.bpState b) = 3) ∧
    (∃ (b : Fin 2) (d : Dev), d.powered = true ∧ d.get (Obj.bpState b) = 2) ∧
    (∃ (c : Call) (b : Fin 2) (v : Nat) (d : Dev), d.admits c (Obj.bpResetFault b) (valueOf c v)) :=
  ⟨⟨byManager 1, 0, 0, managed, by unfold Dev.admits; decide +kernel⟩,
   ⟨0, full.put (Obj.bpState 0) 1, by decide +kernel⟩,
   ⟨0, full.put (Obj.bpState 0) 1, by decide +kernel⟩,
   ⟨0, full.put (Obj.bpState 0) 3, by decide +kernel⟩,
   ⟨0, full.put (Obj.bpState 0) 2, by decide +kernel⟩,
   ⟨byManager 0, 0, 0, managed, by unfold Dev.admits; decide +kernel⟩⟩

/-- A state and operands for each clause of FirmwareAndSpdmComplete. -/
theorem test_met_FirmwareAndSpdmComplete :
    (∃ (c : Call) (v : Nat) (d : Dev), d.admits c Obj.svnCommit (valueOf c v) ∧ d.get Obj.svnFused ≤ d.runningSvn) ∧
    (∃ (c : Call) (v : Nat) (d : Dev), d.admits c Obj.keySlotRevoke (valueOf c v) ∧ d.bw.running.map (·.keySlot) ≠ some (valueOf
      c v) ∧ setBit (d.get Obj.keySlotsRevoked) (valueOf c v) true ≠ 15) ∧
    (∃ (b : Binding) (d : Dev), d.powered = true ∧ d.hearsSpdm b = true ∧ d.spdmOff = false) ∧
    (∃ (b : Binding) (d : Dev), d.powered = true ∧ d.hearsSpdm b = true ∧ d.spdmOff = false) ∧
    (∃ (b : Binding) (offered : Nat) (d : Dev), d.powered = true ∧ d.hearsSpdm b = true ∧ d.spdmOff = false ∧ bits offered 0 2 =
      3) ∧
    (∃ (b : Binding) (d : Dev), d.powered = true ∧ d.hearsSpdm b = true ∧ d.spdmOff = false) ∧
    (∃ (b : Binding) (d : Dev), d.powered = true ∧ d.hearsSpdm b = true ∧ d.spdmOff = false ∧ d.bw.certPresent = true) ∧
    (∃ (b : Binding) (slot : Nat) (d : Dev), d.powered = true ∧ d.hearsSpdm b = true ∧ d.spdmOff = false ∧ d.signs = true ∧
      d.hasChain slot = true) ∧
    (∃ (b : Binding) (d : Dev), d.powered = true ∧ d.hearsSpdm b = true ∧ d.spdmOff = false ∧ d.signs = true) :=
  ⟨⟨byManager 0, 0, managed, by unfold Dev.admits; decide +kernel⟩,
   ⟨byManager 1, 1, managed, by unfold Dev.admits; decide +kernel⟩,
   ⟨⟨1, 0, 0, {}⟩, managed, by decide +kernel⟩,
   ⟨⟨1, 0, 0, {}⟩, managed, by decide +kernel⟩,
   ⟨⟨1, 0, 0, {}⟩, 3, managed, by decide +kernel⟩,
   ⟨⟨1, 0, 0, {}⟩, managed, by decide +kernel⟩,
   ⟨⟨1, 0, 0, {}⟩, managed, by decide +kernel⟩,
   ⟨⟨1, 0, 0, {}⟩, 0, managed, by decide +kernel⟩,
   ⟨⟨1, 0, 0, {}⟩, managed, by decide +kernel⟩⟩

/-- A state and operands for each clause of SecureSessionsComplete. -/
theorem test_met_SecureSessionsComplete :
    (∃ (b : Binding) (k : KeyExchange) (n : Nat) (d : Dev), d.powered = true ∧ d.hearsSpdm b = true ∧ d.spdmOff = false ∧
      directSpdm b = false ∧ (d.signs = true ∨ d.get Obj.debugLevel = 3) ∧ k.proofOk = true ∧ d.credOfLeaf k.leaf = some n) ∧
    (∃ (b : Binding) (hint : Nat) (n : Nat) (d : Dev), d.powered = true ∧ d.hearsSpdm b = true ∧ d.spdmOff = false ∧ directSpdm
      b = false ∧ d.findCred (fun v => credKind v == 2 && credHint v == hint) = some n ∧ (d.preShared n).isSome = true) ∧
    (∃ (slot : Nat) (d : Dev), d.powered = true ∧ (d.session slot).isSome = true) ∧
    (∃ (slot : Nat) (d : Dev), d.powered = true ∧ (d.session slot).isSome = true) ∧
    (∃ (n : Nat) (chain : CertChain) (x : Session) (d : Dev), d.powered = true ∧ d.session n = some x ∧ 3 ≤ d.sessionRole x ∧
      d.bw.udsBlown = false ∧ chain.leafKey = Config.deviceIdPublic) ∧
    (∃ (c : Call) (k : Fin 64) (v : Nat) (d : Dev), d.admits c (Obj.credential (k + 1)) (valueOf c v) ∧ credKind (valueOf c v) ≤
      2 ∧ credRole (valueOf c v) ≤ 3) ∧
    (∃ (q : Fin 128) (k : KeyProg) (d : Dev), d.powered = true ∧ d.ideServes q k.stream = true ∧ d.ideRequester q = true ∧
      d.rootOk q k.root = true) ∧
    (∃ (q : Fin 128) (k : KeyProg) (d : Dev), d.powered = true ∧ d.ideServes q k.stream = true ∧ d.ideRequester q = false) ∧
    (∃ (stream : Nat) (d : Dev), d.powered = true ∧ stream ≤ 4) ∧
    (∃ (c : Call) (q : Fin 128) (v : Nat) (d : Dev), d.admits c (Obj.ideRequired q) (valueOf c v)) ∧
    (∃ (q : Fin 128) (stream : Nat) (set : Fin 2) (d : Dev), d.powered = true ∧ stream ≤ 4 ∧ d.ideServes q stream = true ∧
      d.bw.km.contains q.val = true ∧ (d.stream q stream).keyed set = true) ∧
    (∃ (q : Fin 128) (stream : Nat) (d : Dev), d.powered = true ∧ stream ≤ 4 ∧ d.ideServes q stream = true ∧ d.bw.km.contains
      q.val = true) ∧
    (∃ (q : Fin 128) (stream : Nat) (d : Dev), d.powered = true ∧ stream ≤ 4 ∧ (d.stream q stream).st = 2 ∧ d.ideRequester q =
      true ∧ d.ideServes q stream = true) :=
  ⟨⟨⟨1, 0, 0, {}⟩, { leaf := 7, proofOk := true }, 0, full.put (Obj.credential 1) (1 + 2 ^ 16 + 7 * 2 ^ 128), by decide +kernel⟩,
   ⟨⟨1, 0, 0, {}⟩, 7, 0, (full.put (Obj.credential 1) (2 + 2 ^ 16 + 7 * 2 ^ 512)).setBw fun x =>
     { x with store := [(0, 7)], enclave := { x.enclave with kwk := some 7 } }, by decide +kernel⟩,
   ⟨1, managed, by decide +kernel⟩,
   ⟨1, managed, by decide +kernel⟩,
   ⟨1, ⟨0, Config.deviceIdPublic⟩, { slot := 1, credRole := 4, cred := 0, binding := ⟨1, 0, 0, {}⟩, openTime := 0 }, full,
     by decide +kernel, by decide +kernel, by decide +kernel, by decide +kernel, rfl⟩,
   ⟨byManager 112, 0, 0, managed, by unfold Dev.admits; decide +kernel⟩,
   ⟨4, { stream := 0, set := 0, sub := 0, key := 7, root := some 9 }, linked.put (Obj.trustAnchor 1) 9, by decide +kernel⟩,
   ⟨0, { stream := 0, set := 0, sub := 0, key := 7, root := none }, linked, by decide +kernel⟩,
   ⟨0, managed, by decide +kernel⟩,
   ⟨byManager 1, 0, 0, managed, by unfold Dev.admits; decide +kernel⟩,
   ⟨0, 0, 0, (linked.setIde 0 0 fun x => { x with st := 1, keys := [(0, 7), (1, 7), (2, 7)] }).setBw fun x =>
     { x with km := [0] }, by decide +kernel⟩,
   ⟨0, 0, linked.setBw fun x => { x with km := [0] }, by decide +kernel⟩,
   ⟨4, 0, linked.setIde 4 0 fun x => { x with st := 2 }, by decide +kernel⟩⟩

/-- A state and operands for each clause of LifecycleCompletes. -/
theorem test_met_LifecycleCompletes :
    (∃ (d : Dev), d.powered = true) ∧
    (∃ (d : Dev), d.powered = true) ∧
    (∃ (d : Dev), d.powered = true) ∧
    (∃ (d : Dev), d.powered = true) ∧
    (∃ (c : Call) (v : Nat) (d : Dev), d.admits c Obj.selfTest (valueOf c v)) ∧
    (∃ (kinds : Fin 8) (d : Dev), d.powered = true ∧ kinds ≠ 0 ∧ d.boot ≠ .off ∧ (d.count Obj.tamperCount 1).get Obj.bwState ≠
      3) ∧
    (∃ (kinds : Fin 8) (d : Dev), d.powered = true ∧ kinds ≠ 0 ∧ d.boot ≠ .off ∧ (d.count Obj.tamperCount 1).get Obj.bwState =
      3) ∧
    (∃ (d : Dev), d.powered = true ∧ (d.get Obj.bwState = 3 ∧ d.bw.resetDue = true) ∨ d.runningCores = 0) ∧
    (∃ (c : Call) (v : Nat) (d : Dev), d.admits c Obj.zeroise (valueOf c v)) ∧
    (∃ (c : Call) (v : Nat) (d : Dev), d.admits c Obj.lifecycleArm (valueOf c v) ∧ lifecycleCheck c (valueOf c v) d = 0) ∧
    (∃ (c : Call) (v : Nat) (d : Dev), d.admits c Obj.lifecycleConfirm (valueOf c v) ∧ lifecycleCheck c (valueOf c v) d = 0 ∧
      d.bw.arming = some (callerSlot c.caller, valueOf c v)) ∧
    (∃ (d : Dev), d.powered = true) ∧
    (∃ (c : Call) (v : Nat) (d : Dev), d.admits c Obj.debugAuthorise (valueOf c v) ∧ levelRole (valueOf c v) ≤ (d.callerRole
      c.caller).getD 0 ∧ d.levelAllowed (valueOf c v) = true ∧ d.topLevel < 2) ∧
    (∃ (d : Dev), d.powered = true ∧ d.docking = false) ∧
    (∃ (c : Call) (v : Nat) (d : Dev), d.admits c Obj.debugRevoke (valueOf c v) ∧ d.mode ≠ 4 ∧ (d.bw.holders = [] ∨
      d.bw.holders.any (d.revokes c) = true)) :=
  ⟨⟨managed, by decide +kernel⟩,
   ⟨managed, by decide +kernel⟩,
   ⟨managed, by decide +kernel⟩,
   ⟨managed, by decide +kernel⟩,
   ⟨byManager 0, 0, managed, by unfold Dev.admits; decide +kernel⟩,
   ⟨1, managed, by decide +kernel⟩,
   ⟨1, full.put (Obj.bwState) 3, by decide +kernel⟩,
   ⟨(full.put (Obj.bwState) 3).setBw fun x => { x with resetDue := true }, by decide +kernel⟩,
   ⟨byManager 0, 0, managed, by unfold Dev.admits; decide +kernel⟩,
   ⟨byManager 1, 2, full, by unfold Dev.admits; decide +kernel⟩,
   ⟨byManager 1, 2, full.setBw fun x => { x with arming := some (1, 2) }, by unfold Dev.admits; decide +kernel⟩,
   ⟨managed, by decide +kernel⟩,
   ⟨byManager 1, 1, managed, by unfold Dev.admits; decide +kernel⟩,
   ⟨managed, by decide +kernel⟩,
   ⟨byManager 0, 0, managed, by unfold Dev.admits; decide +kernel⟩⟩

/-- A state and operands for each clause of BusesComplete. -/
theorem test_met_BusesComplete :
    (∃ (b : Fin 50) (j : SbJob) (d : Dev), d.powered = true ∧ d.get (Obj.busState b) = 0 ∧ (d.bus b).job = none ∧ d.nextJob b =
      some j ∧ (d.setBus b (Bus.started j)).busAbsent b = false) ∧
    (∃ (b : Fin 50) (code : Nat) (j : SbJob) (d : Dev), d.powered = true ∧ (d.bus b).job = some j ∧ code ≤ 7 ∧ (code =
      Far.arbLost → 2 ≤ (d.bus b).lost)) ∧
    (∃ (b : Fin 50) (j : SbJob) (d : Dev), d.powered = true ∧ (d.bus b).job = some j ∧ (d.bus b).lost < 2) ∧
    (∃ (b : Fin 50) (j : SbJob) (d : Dev), d.powered = true ∧ (d.bus b).job = some j) ∧
    (∃ (b : Fin 50) (d : Dev), d.powered = true ∧ d.get (Obj.busState b) = 2) ∧
    (∃ (b : Fin 50) (d : Dev), d.powered = true ∧ d.get (Obj.busState b) ≠ 2) ∧
    (∃ (b : Fin 50) (sample : Fin 8) (d : Dev), d.powered = true ∧ (d.bus b).sample = none ∧ (d.setBus b fun x =>
      { x with sample := some sample, alertAt := x.alertAt }).alertDue b (d.get (Obj.sbSignals b)) (d.get (Obj.sbSignals b)) =
      false) ∧
    (∃ (b : Fin 50) (addr : Nat) (d : Dev), d.powered = true ∧ b.val < 48 ∧ d.modeOf b = 3 ∧ addr < 256) :=
  ⟨⟨0, .alert, (full.put (Obj.sbSignals 0) 1).setBus 0 fun x => { x with alert := true }, by decide +kernel⟩,
   ⟨0, 0, .alert, (full.put (Obj.sbSignals 0) 1).setBus 0 fun x => { x with job := some .alert }, by decide +kernel⟩,
   ⟨0, .alert, (full.put (Obj.sbSignals 0) 1).setBus 0 fun x => { x with job := some .alert }, by decide +kernel⟩,
   ⟨0, .alert, (full.put (Obj.sbSignals 0) 1).setBus 0 fun x => { x with job := some .alert }, by decide +kernel⟩,
   ⟨0, full.put (Obj.busState 0) 2, by decide +kernel⟩,
   ⟨0, managed, by decide +kernel⟩,
   ⟨0, 0, managed, by decide +kernel⟩,
   ⟨0, 8, full.put (Obj.busMode 0) 3, by decide +kernel⟩⟩

/-- A state and operands for each clause of WindowsAndSensorsComplete. -/
theorem test_met_WindowsAndSensorsComplete :
    (∃ (w : Fin 128) (a : WinRead) (d : Dev), d.powered = true ∧ d.winReached w = true ∧ d.get (Obj.winEnable w) ≠ 0 ∧
      d.winRefusal w 64 a.offset a.len = 0) ∧
    (∃ (w : Fin 128) (d : Dev), d.powered = true ∧ d.winReached w = true ∧ d.get (Obj.winEnable w) = 0) ∧
    (∃ (w : Fin 128) (a : WinWrite) (d : Dev), d.powered = true ∧ d.winReached w = true ∧ d.get (Obj.winEnable w) ≠ 0 ∧
      d.winRefusal w 256 a.offset a.len = 0 ∧ (d.win w).queuedWrites < 8) ∧
    (∃ (w : Fin 128) (d : Dev), d.powered = true ∧ d.winReached w = true) ∧
    (∃ (w : Fin 128) (tag : Nat) (d : Dev), d.powered = true ∧ (d.win w).holding = some tag) ∧
    (∃ (w : Fin 128) (d : Dev), d.powered = true ∧ (d.win w).st = 2) ∧
    (∃ (w : Fin 128) (d : Dev), d.powered = true ∧ (d.win w).st = 3) ∧
    (∃ (c : Call) (w : Fin 128) (v : Nat) (d : Dev), d.admits c (Obj.winEnable w) (valueOf c v) ∧ (valueOf c v = 1 →
      d.frameTaken w = false)) ∧
    (∃ (n : Fin 64) (code : Nat) (d : Dev), d.powered = true ∧ d.get (Obj.sensorEnable n) ≠ 0 ∧ d.busFree (d.get (Obj.sensorBus
      n)) = true ∧ d.sensorCode n code = Far.ok ∧ (d.sensorSends n (d.get (Obj.sensorCommand n)) 2 Far.ok).get (Obj.sensorFormat
      n) ≠ 1) ∧
    (∃ (n : Fin 64) (code : Nat) (data : Nat) (d : Dev), d.powered = true ∧ d.get (Obj.sensorEnable n) ≠ 0 ∧ d.get
      (Obj.sensorFormat n) = 1 ∧ d.busFree (d.get (Obj.sensorBus n)) = true ∧ d.sensorCode n code = Far.ok ∧ voutLinear data =
      true) :=
  ⟨⟨0, { offset := 0, len := 4 }, working.put (Obj.winEnable 0) 1, by decide +kernel⟩,
   ⟨0, linked, by decide +kernel⟩,
   ⟨0, { offset := 0, len := 4, data := 0 }, working.put (Obj.winEnable 0) 1, by decide +kernel⟩,
   ⟨0, linked, by decide +kernel⟩,
   ⟨0, 1, working.setWin 0 fun x => { x with holding := some 1 }, by decide +kernel⟩,
   ⟨0, working.setWin 0 fun x => { x with st := 2 }, by decide +kernel⟩,
   ⟨0, working.setWin 0 fun x => { x with st := 3 }, by decide +kernel⟩,
   ⟨byManager 1, 0, 0, managed, by unfold Dev.admits; decide +kernel⟩,
   ⟨0, 0, (full.put (Obj.sensorEnable 0) 1).put (Obj.sensorFormat 0) 0, by decide +kernel⟩,
   ⟨0, 0, 0, (full.put (Obj.sensorEnable 0) 1).put (Obj.sensorFormat 0) 1, by decide +kernel⟩⟩

/-- A state and operands for each clause of CountersComplete. -/
theorem test_met_CountersComplete :
    (∃ (c : Call) (u : CtrUnit) (k : Fin 8) (v : Nat) (d : Dev), d.admits c (256 * ctrBlock u + 0x20 + k) (valueOf c v)) ∧
    (∃ (c : Call) (u : CtrUnit) (v : Nat) (d : Dev), d.admits c (256 * ctrBlock u + 2) (valueOf c v)) ∧
    (∃ (c : Call) (u : CtrUnit) (k : Fin 8) (v : Nat) (d : Dev), d.admits c (256 * ctrBlock u + 0x10 + k) (valueOf c v) ∧
      configOk (ctrBlock u) (valueOf c v) = true) ∧
    (∃ (c : Call) (u : CtrUnit) (k : Fin 8) (v : Nat) (d : Dev), d.admits c (256 * ctrBlock u + 0x30 + k) (valueOf c v) ∧ byteAt
      (valueOf c v) 4 < 2) ∧
    (∃ (c : Call) (v : Nat) (d : Dev), d.admits c Obj.countEnable (valueOf c v)) ∧
    (∃ (q : Fin 128) (d : Dev), d.powered = true ∧ d.obs.restarted.contains q.val = false) ∧
    (∃ (c : Call) (q : Fin 128) (v : Nat) (d : Dev), d.admits c (Obj.bwWindow q) (valueOf c v)) ∧
    (∃ (c : Call) (i : Fin 40) (v : Nat) (d : Dev), d.admits c (Obj.initClear i) (valueOf c v)) ∧
    (∃ (d : Dev), d.powered = true ∧ d.get Obj.tlmEnable ≠ 1) ∧
    (∃ (d : Dev), d.powered = true ∧ d.get Obj.tlmEnable = 1) ∧
    (∃ (c : Call) (v : Nat) (d : Dev), d.admits c Obj.traceStart (valueOf c v) ∧ checkTrace c (valueOf c v) d = 0) ∧
    (∃ (c : Call) (v : Nat) (d : Dev), d.admits c Obj.traceStop (valueOf c v)) :=
  ⟨⟨byManager 8, CtrUnit.quay 0, 0, 0, managed, by unfold Dev.admits; decide +kernel⟩,
   ⟨byManager 4, CtrUnit.quay 0, 0, managed, by unfold Dev.admits; decide +kernel⟩,
   ⟨byManager 4, CtrUnit.quay 0, 0, 0, managed, by unfold Dev.admits; decide +kernel⟩,
   ⟨byManager 24, CtrUnit.quay 0, 0, 0, managed, by unfold Dev.admits; decide +kernel⟩,
   ⟨byManager 1, 0, managed, by unfold Dev.admits; decide +kernel⟩,
   ⟨0, managed, by decide +kernel⟩,
   ⟨byManager 4, 0, 1, managed, by unfold Dev.admits; decide +kernel⟩,
   ⟨byManager 0, 0, 0, managed, by unfold Dev.admits; decide +kernel⟩,
   ⟨managed, by decide +kernel⟩,
   ⟨full.put (Obj.tlmEnable) 1, by decide +kernel⟩,
   ⟨byManager 0, 0, full.put (Obj.debugLevel) 1, by unfold Dev.admits; decide +kernel⟩,
   ⟨byManager 0, 0, managed, by unfold Dev.admits; decide +kernel⟩⟩

/-- A state and operands for each clause of GeneratorsComplete. -/
theorem test_met_GeneratorsComplete :
    (∃ (c : Call) (g : Fin 4) (v : Nat) (d : Dev), d.admits c (Obj.tgStart g) (valueOf c v) ∧ d.tgOk (d.get (Obj.tgConfig g)) =
      true ∧ d.get (Obj.tgState g) ≠ 1) ∧
    (∃ (c : Call) (g : Fin 4) (v : Nat) (d : Dev), d.admits c (Obj.tgStop g) (valueOf c v)) ∧
    (∃ (g : Fin 4) (r : TgResult) (d : Dev), d.powered = true ∧ (d.gen g).busy = true ∧ tgError (d.get (Obj.tgConfig g)) (d.gen
      g) r = 0 ∧ (d.setGen g fun x => { x with busy := false }).get (Obj.tgState g) = 1) ∧
    (∃ (c : Call) (v : Nat) (d : Dev), d.admits c Obj.prbsPattern (valueOf c v)) ∧
    (∃ (d : Dev), d.powered = true) :=
  ⟨⟨byManager 0, 0, 0, (inMode 4 linked).put (Obj.tgConfig 0) (4 + 2 ^ 8 + 2 ^ 16 + 2 ^ 134),
     by unfold Dev.admits; decide +kernel⟩,
   ⟨byManager 0, 0, 0, inMode 4 linked, by unfold Dev.admits; decide +kernel⟩,
   ⟨0, TgResult.good 0, (linked.put (Obj.tgState 0) 1).setGen 0 fun x => { x with busy := true }, by decide +kernel⟩,
   ⟨byManager 1, 0, inMode 4 linked, by unfold Dev.admits; decide +kernel⟩,
   ⟨managed, by decide +kernel⟩⟩

end Slice
end

section
/-!
PROOFS. Events as changes of the device, and the events of reference clocks and wharf clocks (R17, R59, R472).
-/

namespace Sys2Proof.Machine

open Sys2Proof

/-- An event whose meaning is the effect `eff` on a device that runs completes with `f`, where `eff` is `f` under the
event's condition. -/
theorem runs_of_liveLift {i : Instr} {c : Dev → Prop} {eff f : Dev → Dev} (arm : ∀ s : State, exec i s = liveLift eff s)
    (heff : ∀ d : Dev, c d → eff d = f d) : Runs i c f := by
  intro s hpowered hc
  rw [arm, liveLift_powered eff s hpowered, heff s.dev hc]

/-- The first start of a tile with its core rails up (R472): on a valid reference its wharves start, and on none the absence
check falls due (R59). -/
theorem effWharfStart_of_unstarted (t : Nat) (valid : Bool) (d : Dev) (hcore : d.coreOn = true)
    (hpresent : tileAbsent d.part t = false) (hstarted : bitAt d.net.started t = false) :
    effWharfStart t valid d =
      if valid then (d.setNet fun n => { n with started := Nat.lor n.started (2 ^ t) }).startTile t
      else d.setNet fun n => { n with started := Nat.lor n.started (2 ^ t), absentDue := Nat.lor n.absentDue (2 ^ t) } := by
  cases valid <;> simp [effWharfStart, hcore, hpresent, hstarted]

/-- An absence check that is due raises Type 10 for a used tile without a reference, and is due no more. -/
theorem effRefclkAbsentCheck_of_absent (t : Nat) (d : Dev) (hdue : bitAt d.net.absentDue t = true)
    (hstatus : d.get (Obj.refclkStatus t) = 0) (hused : (wharvesOf t).any d.wharfUsed = true) :
    effRefclkAbsentCheck t d =
      (d.err { typ := 10, inst := t }).setNet fun n => { n with absentDue := setBit n.absentDue t false } := by
  simp [effRefclkAbsentCheck, Dev.errIf, hdue, hstatus, hused]

/-- The reference of a started tile that reads NOT_STARTED starts its wharves. -/
theorem effRefclkFirstArrival_of_started (t : Nat) (d : Dev) (hcore : d.coreOn = true)
    (hstarted : bitAt d.net.started t = true) (hstatus : d.get (Obj.refclkStatus t) = 0) :
    effRefclkFirstArrival t d = d.startTile t := by
  simp [effRefclkFirstArrival, hcore, hstarted, hstatus]

/-- Settles O14, event by event: under its condition each event's effect takes the branch that the statement writes out. -/
theorem clockEventsComplete : Obligations.ClockEventsComplete := by
  unfold Obligations.ClockEventsComplete
  refine ⟨fun w => ?clockStop, fun t => ?startValid, fun t => ?startInvalid, fun t => ?absentCheck, fun t => ?firstArrival,
    fun t => ?loss, fun t => ?comesBack, fun w => ?relock⟩
  case clockStop => exact runs_of_liveLift (fun _ => rfl) fun _ hruns => if_pos hruns
  case startValid =>
    exact runs_of_liveLift (fun _ => rfl) fun d ⟨hcore, hpresent, hstarted⟩ =>
      effWharfStart_of_unstarted t true d hcore hpresent hstarted
  case startInvalid =>
    exact runs_of_liveLift (fun _ => rfl) fun d ⟨hcore, hpresent, hstarted⟩ =>
      effWharfStart_of_unstarted t false d hcore hpresent hstarted
  case absentCheck =>
    exact runs_of_liveLift (fun _ => rfl) fun d ⟨hdue, hstatus, hused⟩ =>
      effRefclkAbsentCheck_of_absent t d hdue hstatus hused
  case firstArrival =>
    exact runs_of_liveLift (fun _ => rfl) fun d ⟨hcore, hstarted, hstatus⟩ =>
      effRefclkFirstArrival_of_started t d hcore hstarted hstatus
  case loss => exact runs_of_liveLift (fun _ => rfl) fun _ hstatus => if_pos hstatus
  case comesBack => exact runs_of_liveLift (fun _ => rfl) fun _ hlost => if_pos hlost
  case relock => exact runs_of_liveLift (fun _ => rfl) fun _ hrelock => if_pos hrelock

end Sys2Proof.Machine
end

section
/-!
PROOFS. The check of Customs (R24, R270, R271): the regions that a check meets are those that cover its address.
-/

namespace Sys2Proof.Machine

open Sys2Proof

/-- A canonical table lists its keys in rising order. -/
theorem Tab.pairwise_keys_of_wf {α : Type} [DecidableEq α] (dflt : Nat → α) (t : Tab α) (hwf : Tab.wf dflt t = true) :
    t.Pairwise fun p q => p.1 < q.1 := by
  induction t with
  | nil => exact List.Pairwise.nil
  | cons p t ih =>
    obtain ⟨-, hlt, hrest⟩ := (Tab.wf_cons dflt p t).1 hwf
    exact List.Pairwise.cons hlt (ih hrest)

/-- A canonical table lists a value other than the default where it reads so. -/
theorem Tab.mem_iff_get_of_wf {α : Type} [DecidableEq α] (dflt : Nat → α) (t : Tab α) (hwf : Tab.wf dflt t = true) (k : Nat) (v : α)
    (hv : v ≠ dflt k) : (k, v) ∈ t ↔ Tab.get (dflt k) t k = v := by
  induction t with
  | nil => simpa using hv.symm
  | cons p t ih =>
    obtain ⟨-, hlt, hrest⟩ := (Tab.wf_cons dflt p t).1 hwf
    by_cases hk : p.1 = k
    · obtain ⟨a, b⟩ := p
      obtain rfl : a = k := hk
      have hfresh : (a, v) ∉ t := fun hmem => absurd (hlt _ hmem) (Nat.lt_irrefl a)
      simpa [Tab.get, hfresh] using eq_comm
    · rw [Tab.get_cons_ne _ p t k hk, ← ih hrest]
      simp [Prod.ext_iff, Ne.symm hk]

/-- A VALID region is not the entry of an unlisted key. -/
theorem ne_zero_of_regionValid {r : Nat} (hvalid : regionValid r = true) : r ≠ 0 := by
  rintro rfl
  simp [regionValid, bitAt] at hvalid

/-- The VALID regions of a master whose bounds contain the address's page, by number: what a check looks at (R270). -/
def CTable.hits (t : CTable) (m addr : Nat) : List (Nat × Nat) :=
  (t.regionsOf m).filter fun p => decide (regionFirst p.2 ≤ addr / 4096 ∧ addr / 4096 ≤ regionLast p.2)

/-- The VALID regions of a master are its numbers below 256 that read VALID. -/
theorem CTable.mem_regionsOf (t : CTable) (hwf : Tab.wf (fun _ => 0) t.regions = true) (m n r : Nat) :
    (n, r) ∈ t.regionsOf m ↔ n < 256 ∧ regionValid r = true ∧ t.region m n = r := by
  have hread : regionValid r = true → ((256 * m + n, r) ∈ t.regions ↔ t.region m n = r) := fun hvalid =>
    Tab.mem_iff_get_of_wf _ _ hwf _ _ (ne_zero_of_regionValid hvalid)
  simp only [CTable.regionsOf, List.mem_map, List.mem_filter, Bool.and_eq_true, beq_iff_eq]
  constructor
  · rintro ⟨⟨key, e⟩, ⟨hmem, hmaster, hvalid⟩, hpair⟩
    obtain ⟨rfl, rfl⟩ := Prod.mk.inj hpair
    have hkey : 256 * m + key % 256 = key := by rw [← hmaster]; exact Nat.div_add_mod key 256
    exact ⟨Nat.mod_lt key (by omega), hvalid, (hread hvalid).1 (hkey.symm ▸ hmem)⟩
  · rintro ⟨hn, hvalid, hregion⟩
    exact ⟨(256 * m + n, r), ⟨(hread hvalid).2 hregion, by show (256 * m + n) / 256 = m; omega, hvalid⟩,
      by rw [Nat.mul_add_mod, Nat.mod_eq_of_lt hn]⟩

/-- A check looks at the regions that cover its address. -/
theorem CTable.mem_hits (t : CTable) (hwf : Tab.wf (fun _ => 0) t.regions = true) (m addr n r : Nat) :
    (n, r) ∈ t.hits m addr ↔ t.covers m n addr ∧ t.region m n = r := by
  simp only [CTable.hits, List.mem_filter, t.mem_regionsOf hwf, CTable.covers, decide_eq_true_eq]
  constructor
  · rintro ⟨⟨hn, hvalid, rfl⟩, hbounds⟩
    exact ⟨⟨hn, hvalid, hbounds⟩, rfl⟩
  · rintro ⟨⟨hn, hvalid, hbounds⟩, rfl⟩
    exact ⟨⟨hn, hvalid, rfl⟩, hbounds⟩

/-- The regions are met in rising order of their numbers, so none twice. -/
theorem CTable.pairwise_hits (t : CTable) (hwf : Tab.wf (fun _ => 0) t.regions = true) (m addr : Nat) :
    (t.hits m addr).Pairwise fun p q => p.1 < q.1 := by
  refine List.Pairwise.filter _ (List.pairwise_map.2 (List.pairwise_filter.2 ?_))
  refine (Tab.pairwise_keys_of_wf _ _ hwf).imp fun {p q} hkeys hp hq => ?_
  simp only [Bool.and_eq_true, beq_iff_eq] at hp hq
  obtain ⟨hmaster, -⟩ := hp
  obtain ⟨hmaster', -⟩ := hq
  show p.1 % 256 < q.1 % 256
  omega

/-- With no covering region nothing is met. -/
theorem CTable.hits_eq_nil (t : CTable) (hwf : Tab.wf (fun _ => 0) t.regions = true) {m addr : Nat}
    (hnone : ∀ n : Nat, ¬ t.covers m n addr) : t.hits m addr = [] :=
  List.eq_nil_iff_forall_not_mem.2 fun p hp => hnone p.1 ((t.mem_hits hwf m addr p.1 p.2).1 hp).1

/-- With one covering region that one alone is met. -/
theorem CTable.hits_eq_singleton (t : CTable) (hwf : Tab.wf (fun _ => 0) t.regions = true) {m addr n : Nat}
    (hcovers : t.covers m n addr) (honly : ∀ k : Nat, t.covers m k addr → k = n) : t.hits m addr = [(n, t.region m n)] := by
  have hmet {p : Nat × Nat} (hp : p ∈ t.hits m addr) : p = (n, t.region m n) := by
    obtain ⟨k, r⟩ := p
    obtain ⟨hk, rfl⟩ := (t.mem_hits hwf m addr k r).1 hp
    rw [honly k hk]
  match hhits : t.hits m addr with
  | [] => exact absurd ((t.mem_hits hwf m addr n _).2 ⟨hcovers, rfl⟩) (by rw [hhits]; exact List.not_mem_nil)
  | [p] => rw [hmet (p := p) (by rw [hhits]; exact List.mem_cons_self)]
  | p :: q :: rest =>
    have hrising := t.pairwise_hits hwf m addr
    rw [hhits] at hrising
    have hlt : p.1 < q.1 := List.rel_of_pairwise_cons hrising List.mem_cons_self
    rw [hmet (p := p) (by simp [hhits]), hmet (p := q) (by simp [hhits])] at hlt
    exact absurd hlt (Nat.lt_irrefl n)

/-- With two covering regions at least two are met. -/
theorem CTable.hits_eq_cons_cons (t : CTable) (hwf : Tab.wf (fun _ => 0) t.regions = true) {m addr n k : Nat}
    (hn : t.covers m n addr) (hk : t.covers m k addr) (hne : n ≠ k) : ∃ p q rest, t.hits m addr = p :: q :: rest := by
  have hmemn := (t.mem_hits hwf m addr n _).2 ⟨hn, rfl⟩
  have hmemk := (t.mem_hits hwf m addr k _).2 ⟨hk, rfl⟩
  match hhits : t.hits m addr with
  | [] => simp [hhits] at hmemn
  | [p] =>
    rw [hhits, List.mem_singleton] at hmemn hmemk
    exact absurd (congrArg Prod.fst (hmemn.trans hmemk.symm)) hne
  | p :: q :: rest => exact ⟨p, q, rest, rfl⟩

/-- A check that meets no region consults the default map (R24, R271). -/
theorem CTable.check_of_hits_nil (t : CTable) (service : Bool) (m kind addr : Nat) (hhits : t.hits m addr = []) :
    t.check service m kind addr = if service && t.privileged m then .pass 256 0 false else .fail 2 0xFFFF := by
  unfold CTable.hits at hhits
  simp only [CTable.check, hhits]

/-- A check that meets one region follows its PRIV, then its grant (R270). -/
theorem CTable.check_of_hits_singleton (t : CTable) (service : Bool) (m kind addr n r : Nat) (hhits : t.hits m addr = [(n, r)]) :
    t.check service m kind addr =
      if regionPriv r && !t.privileged m then .fail 4 n
      else if regionGrants r kind then .pass n (regionCache r) (regionStrict r) else .fail 1 n := by
  unfold CTable.hits at hhits
  simp only [CTable.check, hhits]

/-- A check that meets two regions is an OVERLAP, whoever the master is (R270). -/
theorem CTable.check_of_hits_cons_cons (t : CTable) (service : Bool) (m kind addr : Nat) {p q : Nat × Nat} {rest : List (Nat × Nat)}
    (hhits : t.hits m addr = p :: q :: rest) : t.check service m kind addr = .fail 3 p.1 := by
  unfold CTable.hits at hhits
  simp only [CTable.check, hhits]

/-- The service modes are Bulk, Swift and Lean. -/
theorem Dev.service_iff (d : Dev) : d.service = true ↔ d.mode = 1 ∨ d.mode = 2 ∨ d.mode = 3 := by
  simp [Dev.service, or_assoc]

/-- Settles O10, by the number of regions that cover the address: none, one, or two at least. -/
theorem customsCheckDecides : Obligations.CustomsCheckDecides := by
  unfold Obligations.CustomsCheckDecides
  intro d t m kind addr hwf
  rw [← d.service_iff]
  refine ⟨fun hnone => ?noRegion, fun n hcovers honly => ?oneRegion, fun n k hn hk hne => ?twoRegions⟩
  case noRegion =>
    rw [t.check_of_hits_nil _ m kind addr (t.hits_eq_nil hwf hnone)]
    exact ⟨fun hservice hpriv => by simp [hservice, hpriv], fun _ hpriv => by simp [hpriv], fun hservice => by simp [hservice]⟩
  case oneRegion =>
    rw [t.check_of_hits_singleton _ m kind addr n _ (t.hits_eq_singleton hwf hcovers honly)]
    have hallowed {r : Nat} (hpriv : regionPriv r = true → t.privileged m = true) : (regionPriv r && !t.privileged m) = false := by
      cases hr : regionPriv r <;> simp_all
    exact ⟨fun hpriv hmaster => by simp [hpriv, hmaster], fun hpriv hgrant => by simp [hallowed hpriv, hgrant],
      fun hpriv hgrant => by simp [hallowed hpriv, hgrant]⟩
  case twoRegions =>
    obtain ⟨p, q, rest, hhits⟩ := t.hits_eq_cons_cons hwf hn hk hne
    exact ⟨p.1, t.check_of_hits_cons_cons _ m kind addr hhits⟩

end Sys2Proof.Machine
end

section
/-!
PROOFS. A command that is a write, by the shape of its row.
-/

namespace Sys2Proof.Machine

open Sys2Proof

/-- A write row completes where the object's check lets it through. -/
theorem writes_of_writeRow {i : Instr} {c : Call} {o w : Nat} {own : Dev → Prop} {a : Act}
    (arm : ∀ s : State, exec i s = writeRow a c o w s)
    (hcheck : ∀ d : Dev, own d → a.check c (valueOf c w) d = Status.success) {f : Nat → Dev → Dev} {r : Dev → Reply}
    (heffect : a.effect c (valueOf c w) = f) (hreply : ∀ n : Nat, a.reply c (valueOf c w) n = r) : Writes i c o w own f r := by
  subst heffect
  intro s hadmits hown
  rw [arm, writeRow_accepted a c o w s hadmits (hcheck s.dev hown), hreply]

/-- A write row with something due after its message completes where the object's check lets it through. -/
theorem writes_of_messageRow {i : Instr} {c : Call} {o w : Nat} {own : Dev → Prop} {a : Act}
    (arm : ∀ s : State, exec i s = messageRow a c o w s)
    (hcheck : ∀ d : Dev, own d → a.check c (valueOf c w) d = Status.success) {f : Nat → Dev → Dev} {r : Dev → Reply}
    (heffect : a.effect c (valueOf c w) = f) (hreply : ∀ n : Nat, a.reply c (valueOf c w) n = r) :
    Writes i c o w own f r Dev.endMessage := by
  subst heffect
  intro s hadmits hown
  rw [arm, messageRow_accepted a c o w s hadmits (hcheck s.dev hown), hreply]

end Sys2Proof.Machine
end

section
/-!
PROOFS. What lets the mode commands through, and what the events of a transition and of Lull do (R26 to R37, R188, R362, R469).
-/

namespace Sys2Proof.Machine

open Sys2Proof

/-- A mode command that is allowed is accepted while no transition is under way (R27). -/
theorem modeCheck_success (d : Dev) {allowed : Bool} (hallowed : allowed = true) (hidle : d.inTransition = false) :
    modeCheck allowed d = Status.success := by
  simp [modeCheck, hallowed, hidle]

/-- SERVICE_GO is let through in Slipway, out of Standby, with the Ledger configured and outside Scrapped (R26, R188, R362). -/
theorem checkServiceGo_success (c : Call) (v : Nat) (d : Dev) (hmode : d.mode = 0) (hpower : d.power ≠ 2)
    (hledger : d.get Obj.ledgerState ≠ 0) (hlifecycle : d.get Obj.lifecycle ≠ 3) (hidle : d.inTransition = false) :
    checkServiceGo c v d = Status.success :=
  modeCheck_success d (by simp [hmode, hpower, hledger, hlifecycle]) hidle

/-- A profile is written at any time, but that of the mode in force not during a transition (R30). -/
theorem actProfile_check_success (m o : Nat) (c : Call) (v : Nat) (d : Dev) (hidle : d.mode = m → d.inTransition = false) :
    (actProfile m o).check c v d = Status.success := by
  refine if_neg ?_
  rintro ⟨hmode, hbusy⟩
  exact absurd (hidle hmode) (by simp [hbusy])

/-- Settles O25, command by command: each check lets the write through under the command's own conditions. -/
theorem modeCommandsComplete : Obligations.ModeCommandsComplete := by
  unfold Obligations.ModeCommandsComplete
  refine ⟨fun c v => ?serviceGo, fun c v => ?modeChange, fun c v => ?enterSalvage, fun c v => ?recoveryReset,
    fun c v => ?enterDrydock, fun c v => ?leaveDrydock, fun c m sub v => ?profileWrite⟩
  case serviceGo =>
    exact writes_of_writeRow (fun _ => rfl) (fun d ⟨hmode, hpower, hledger, hlifecycle, hidle⟩ =>
      checkServiceGo_success c (valueOf c v) d hmode hpower hledger hlifecycle hidle) (by dsimp only [actServiceGo]) fun _ => rfl
  case modeChange =>
    exact writes_of_writeRow (fun _ => rfl) (fun d ⟨hservice, hother, hidle⟩ =>
      modeCheck_success d (by simp [hservice, hother]) hidle) (by dsimp only [actModeChange]) fun _ => rfl
  case enterSalvage => exact writes_of_writeRow (fun _ => rfl) (fun _ _ => rfl) (by dsimp only [actEnterSalvage]) fun _ => rfl
  case recoveryReset =>
    exact writes_of_messageRow (fun _ => rfl) (fun _ hmode => if_pos hmode) (by dsimp only [actRecoveryReset]) fun _ => rfl
  case enterDrydock =>
    exact writes_of_writeRow (fun _ => rfl) (fun d ⟨hmode, hholder, hidle⟩ =>
      modeCheck_success d (by simp [hmode, hholder]) hidle) (by dsimp only [actEnterDrydock]) fun _ => rfl
  case leaveDrydock =>
    exact writes_of_messageRow (fun _ => rfl) (fun _ hmode => if_pos hmode) (by dsimp only [actLeaveDrydock]) fun _ => rfl
  case profileWrite =>
    exact writes_of_writeRow (fun _ => rfl) (fun d hidle => actProfile_check_success _ _ c _ d hidle)
      (by dsimp only [actProfile]) fun _ => rfl

/-- A wharf that a transition retrains has retrained (R469). -/
theorem effWharfRetrainDone_of_retraining (w : Nat) (d : Dev) (t : Transition) (htrans : d.modes.trans = some t)
    (hnow : t.nowWharves.contains w = true) (hruns : d.wharfRuns w = true) :
    effWharfRetrainDone w d =
      (((d.forEach (d.quaysOfWharf w) Dev.endRate).setTrans
        (some { t with nowWharves := t.nowWharves.filter (· != w) })).nextWharves).settle := by
  simp only [effWharfRetrainDone, htrans]
  exact if_pos (by rw [hnow, hruns]; rfl)

/-- A slice that is PARKING, with nothing left to write back or open in it, is PARKED (R32). -/
theorem effSliceParkDone_of_empty (s : Nat) (d : Dev) (hparking : d.get (Obj.sliceState s) = 1)
    (hwritten : d.busyFor (d.atHome s) = false) (hclosed : (d.slice s).working = false) :
    effSliceParkDone s d =
      (let d := d.parkSlice s
       let d := d.setModes fun m => { m with lullParked := if m.lullEntry then m.lullParked ++ [s] else m.lullParked }
       ((if d.modes.unpark = [] then d else d.unparkNow []).parkNext).settle) :=
  (if_neg fun hother => hother hparking).trans (if_neg (by simp [hwritten, hclosed]))

/-- The slice at the head of the returns, with nothing left to write back, has returned (R32). -/
theorem effSliceUnparkDone_of_written (s : Nat) (d : Dev) (hhead : d.modes.unpark.head? = some s)
    (hreturning : d.get (Obj.sliceState s) = 3) (hwritten : d.busyFor (d.comingHome s) = false) :
    effSliceUnparkDone s d =
      (let d := (d.returnSlice s).setModes fun m => { m with
          unpark := m.unpark.drop 1, lullParked := m.lullParked.filter (· != s) }
       ((d.basinsReady).unparkNow []).unparked) :=
  (if_neg (by simp [hhead, hreturning])).trans (if_neg (by simp [hwritten]))

/-- An idle device with LULL_ENABLE enters Lull from Slipway or a service mode with nothing else under way (R36). -/
theorem effLullEntry_of_idle (d : Dev) (henable : d.get Obj.lullEnable = 1) (hfull : d.power = 0)
    (hmode : d.mode = 0 ∨ d.service = true) (htrans : d.inTransition = false) (hunpark : d.modes.unpark = [])
    (hpark : d.modes.parkTo = none) (hidle : d.idle = true) :
    effLullEntry d = ((d.put Obj.powerState 1).setModes fun m => { m with
      lullEntry := true, lullParked := [], parkTo := some (d.get Obj.lullActiveSlices) }).parkNext :=
  if_pos ⟨henable, hfull, hmode, by simp [htrans], hunpark, hpark, hidle⟩

/-- Settles O26, event by event: under its condition each event's effect takes the branch that the statement writes out. -/
theorem transitionEventsComplete : Obligations.TransitionEventsComplete := by
  unfold Obligations.TransitionEventsComplete
  refine ⟨?autostart, fun w t => ?wharfRetrainDone, fun s => ?sliceParkDone, fun s => ?sliceUnparkDone, ?lullEntry, ?lullExit,
    ?lullEntryAbort, ?powerControlUpdate⟩
  case autostart => exact runs_of_liveLift (fun _ => rfl) fun _ hruns => if_pos hruns
  case wharfRetrainDone =>
    exact runs_of_liveLift (fun _ => rfl) fun d ⟨htrans, hnow, hruns⟩ =>
      effWharfRetrainDone_of_retraining w d t htrans hnow hruns
  case sliceParkDone =>
    exact runs_of_liveLift (fun _ => rfl) fun d ⟨hparking, hwritten, hclosed⟩ =>
      effSliceParkDone_of_empty s d hparking hwritten hclosed
  case sliceUnparkDone =>
    exact runs_of_liveLift (fun _ => rfl) fun d ⟨hhead, hreturning, hwritten⟩ =>
      effSliceUnparkDone_of_written s d hhead hreturning hwritten
  case lullEntry =>
    exact runs_of_liveLift (fun _ => rfl) fun d ⟨henable, hfull, hmode, htrans, hunpark, hpark, hidle⟩ =>
      effLullEntry_of_idle d henable hfull hmode htrans hunpark hpark hidle
  case lullExit =>
    exact runs_of_liveLift (fun _ => rfl) fun d ⟨hlull, hentry, hexit⟩ => if_pos ⟨hlull, by simp [hentry], by simp [hexit]⟩
  case lullEntryAbort => exact runs_of_liveLift (fun _ => rfl) fun _ hentering => if_pos hentering
  case powerControlUpdate => exact runs_of_liveLift (fun _ => rfl) fun _ _ => rfl

end Sys2Proof.Machine
end

section
/-!
PROOFS. What requests for a power state and the events of rails do (R36 to R39, R317, R318, R369, R372).
-/

namespace Sys2Proof.Machine

open Sys2Proof

/-- A request for a power state is let through: for Standby outside the service modes, and with nothing under way that it may not
wait for (R38, R372). -/
theorem checkPowerState_success (c : Call) (v : Nat) (d : Dev) (hstandby : v = 2 → d.service = false)
    (hidle : d.inTransition = false) (hwait : d.powerChanging = true → d.mayWait v = true) :
    checkPowerState c v d = Status.success := by
  have hmode : ¬ (v = 2 ∧ d.service = true) := fun ⟨hv, hservice⟩ => by simp [hstandby hv] at hservice
  have hbusy : ¬ (d.inTransition = true ∨ d.powerChanging = true ∧ (!d.mayWait v) = true) := by
    rintro (htrans | ⟨hchanging, hmay⟩)
    · simp [hidle] at htrans
    · simp [hwait hchanging] at hmay
  exact (if_neg hmode).trans (if_neg hbusy)

/-- With the power-good of the last rail Full is reached (R317). -/
theorem effRailPowerGood_of_last (r : Nat) (nextGood : Bool) (d : Dev) (hrising : d.tide.rising = some r)
    (hlast : railAfter r = none) : effRailPowerGood r nextGood d = (d.put (Obj.railState r) 2).reachFull := by
  simp only [effRailPowerGood, if_pos hrising, hlast]

/-- With the power-good of any other rail the next is enabled, unless it is good already, which ends the rise (R317, R369). -/
theorem effRailPowerGood_of_next (r n : Nat) (nextGood : Bool) (d : Dev) (hrising : d.tide.rising = some r)
    (hnext : railAfter r = some n) :
    effRailPowerGood r nextGood d =
      if nextGood then ((d.put (Obj.railState r) 2).railErr n).failPowerUp else (d.put (Obj.railState r) 2).enableRail n := by
  simp only [effRailPowerGood, if_pos hrising, hnext]

/-- The loss of a rail that had given its power-good takes a device with its core rails up to Standby, and ends a rise that is
under way in Standby, before Type 42 is collected (R318). -/
theorem effRailPowerGoodLost_of_good (r : Nat) (d : Dev) (hrisen : d.tide.rising ≠ some r) (hgood : d.railState r = 2) :
    effRailPowerGoodLost r d =
      ((if d.power = 2 then d.failPowerUp else d.enterStandby).put (Obj.railState r) 3).collect
        { typ := 42, inst := r, unit := r, detail := d.get (Obj.railVoltage r) } :=
  (if_neg hrisen).trans (if_pos hgood)

/-- Settles O27, command and event by event; the rails' events by the rail that follows and by the power state. -/
theorem powerStateCompletes : Obligations.PowerStateCompletes := by
  unfold Obligations.PowerStateCompletes
  refine ⟨fun c v => ?request, fun r b => ?lastRail, fun r n => ?nextRail, fun r n => ?nextGoodEarly, fun r => ?timeout,
    fun r => ?lostInFull, fun r => ?lostInStandby⟩
  case request =>
    exact writes_of_writeRow (fun _ => rfl) (fun d ⟨hstandby, hidle, hwait⟩ =>
      checkPowerState_success c _ d hstandby hidle hwait) (by dsimp only [actPowerState]) fun _ => rfl
  case lastRail =>
    exact runs_of_liveLift (fun _ => rfl) fun d ⟨hrising, hlast⟩ =>
      congrArg Dev.tryAutostart (effRailPowerGood_of_last r b d hrising hlast)
  case nextRail =>
    exact runs_of_liveLift (fun _ => rfl) fun d ⟨hrising, hnext⟩ =>
      congrArg Dev.tryAutostart (effRailPowerGood_of_next r n false d hrising hnext)
  case nextGoodEarly =>
    exact runs_of_liveLift (fun _ => rfl) fun d ⟨hrising, hnext⟩ =>
      congrArg Dev.tryAutostart (effRailPowerGood_of_next r n true d hrising hnext)
  case timeout => exact runs_of_liveLift (fun _ => rfl) fun _ hrising => if_pos hrising
  case lostInFull =>
    exact runs_of_liveLift (fun _ => rfl) fun d ⟨hrisen, hgood, hpower⟩ => by
      rw [effRailPowerGoodLost_of_good r d hrisen hgood, if_neg hpower]
  case lostInStandby =>
    exact runs_of_liveLift (fun _ => rfl) fun d ⟨hrisen, hgood, hpower⟩ => by
      rw [effRailPowerGoodLost_of_good r d hrisen hgood, if_pos hpower]

end Sys2Proof.Machine
end

section
/-!
PROOFS. What verdicts, and the ends of their limits, do (R40 to R44, R244).
-/

namespace Sys2Proof.Machine

open Sys2Proof

/-- DECISION is let through for a defined function and verdict, a pending token, and an ALTERNATIVE that the function takes
(R40). -/
theorem checkDecision_success (v : Ruling) (d : Dev) (x : Decision) (hfirst : 1 ≤ v.fn) (hlast : v.fn ≤ 7)
    (hverdict : v.verdict ≤ 2) (hpending : d.decided v = some x) (hfresh : x.stale = false)
    (halt : v.verdict = 2 → d.altOk x v.arg = true) :
    checkDecision v d = Status.success := by
  have hdefined : ¬ (v.fn = 0 ∨ 7 < v.fn ∨ 2 < v.verdict) := by omega
  have htaken : ¬ (v.verdict = 2 ∧ (!d.altOk x v.arg) = true) := fun ⟨hv, hrefused⟩ => by simp [halt hv] at hrefused
  rw [checkDecision, if_neg hdefined, hpending]
  exact (if_neg (by simp [hfresh])).trans (if_neg htaken)

/-- The limit of a pending operation ends: it receives its expiry default (R41). -/
theorem Dev.expireToken_of_pending (salvage : Err → Nat → Dev → Dev) (token : Nat) (d : Dev) (x : Decision)
    (hpending : d.modes.decisions.find? (·.token == token) = some x) : d.expireToken salvage token = d.expireOne salvage x := by
  simp only [Dev.expireToken, hpending]

/-- A DECISION that is let through is carried out, and what it leaves due follows its answer. -/
theorem writes_of_decision (c : Call) (w : Nat) {own : Dev → Prop}
    (hcheck : ∀ d : Dev, own d → checkDecision (verdictOf (valueOf c w)) d = Status.success) :
    Writes (.decision c w) c Obj.decision w own (fun _ d => d.giveRuling (verdictOf (valueOf c w))) (after := Dev.endMessage) := by
  intro s hadmits hown
  have haccepted := Dev.zmpWrite_accepted actDecision c Obj.decision w s.dev hadmits (hcheck s.dev hown)
  exact (liveLift_powered _ s hadmits.1).trans
    (congrArg (fun d : Dev => Host.Outcome.next { s with dev := d.endMessage }) haccepted)

/-- Settles O29, command and event by event. -/
theorem decisionsComplete : Obligations.DecisionsComplete := by
  unfold Obligations.DecisionsComplete
  refine ⟨fun c v x => ?decision, fun i token verdict => ?hostDecision, fun token x => ?limitExpiry, fun c f v => ?functionMode,
    fun c f v => ?decisionLimit⟩
  case decision =>
    exact writes_of_decision c v fun d ⟨hfirst, hlast, hverdict, hpending, hfresh, halt⟩ =>
      checkDecision_success _ d x hfirst hlast hverdict hpending hfresh halt
  case hostDecision => exact runs_of_liveLift (fun _ => rfl) fun _ howned => if_pos howned
  case limitExpiry =>
    exact runs_of_liveLift (fun _ => rfl) fun d hpending => d.expireToken_of_pending Dev.salvageBy token x hpending
  case functionMode => exact writes_of_messageRow (fun _ => rfl) (fun _ _ => rfl) (by dsimp only [actFunctionMode]) fun _ => rfl
  case decisionLimit =>
    exact writes_of_writeRow (fun _ => rfl) (fun _ _ => rfl) (by dsimp only [actDecisionLimit, storeAct]) fun _ => rfl

end Sys2Proof.Machine
end

section
/-!
PROOFS. A lane's warning (R63, R65): what one sample of a lane changes, and what a run of samples below the level raises.
-/

namespace Sys2Proof.Machine

open Sys2Proof

/-- An object keeps its value when another is written. -/
theorem Dev.get_put_of_ne (d : Dev) {o p : Nat} (v : Nat) (hne : p ≠ o) : (d.put o v).get p = d.get p :=
  Tab.get_set_other _ _ _ _ _ _ hne

/-- A change of a quay is read there. -/
@[simp] theorem Dev.quay_setQuay (d : Dev) (q : Nat) (f : Quay → Quay) : (d.setQuay q f).quay q = f (d.quay q) :=
  Tab.get_set_same _ _ _ _

/-- A change of a quay leaves the objects. -/
@[simp] theorem Dev.get_setQuay (d : Dev) (q : Nat) (f : Quay → Quay) (o : Nat) : (d.setQuay q f).get o = d.get o := rfl

/-- A change of a quay raises no error. -/
@[simp] theorem Dev.lines_setQuay (d : Dev) (q : Nat) (f : Quay → Quay) : (d.setQuay q f).lines = d.lines := rfl

/-- A write to an object leaves the quays. -/
@[simp] theorem Dev.quay_put (d : Dev) (o v q : Nat) : (d.put o v).quay q = d.quay q := rfl

/-- An error that may be raised leaves the quays. -/
@[simp] theorem Dev.quay_errIf (d : Dev) (b : Bool) (e : Err) (q : Nat) : (d.errIf b e).quay q = d.quay q := by
  cases b <;> rfl

/-- An error that may be raised leaves the objects. -/
@[simp] theorem Dev.get_errIf (d : Dev) (b : Bool) (e : Err) (o : Nat) : (d.errIf b e).get o = d.get o := by
  cases b <;> rfl

/-- An error that may be raised comes last on the lines. -/
@[simp] theorem Dev.lines_errIf (d : Dev) (b : Bool) (e : Err) : (d.errIf b e).lines = d.lines ++ if b then [e] else [] := by
  cases b
  · exact (List.append_nil _).symm
  · rfl

/-- A bit reads as it was last set. -/
@[simp] theorem bitAt_setBit_same (v i : Nat) (b : Bool) : bitAt (setBit v i b) i = b := by
  have hpos : 0 < 2 ^ i := Nat.two_pow_pos i
  simp only [bitAt, setBit, setBits, bits, Nat.pow_one]
  rw [Nat.add_mul_div_right _ _ hpos, Nat.mul_comm _ (2 ^ i), Nat.sub_mul_div]
  generalize v / 2 ^ i = high
  cases b
  · simp only [Bool.false_eq_true, if_false, beq_eq_false_iff_ne]; omega
  · simp only [if_true, beq_iff_eq]; omega

/-- The estimate gives a FOM below FOM_WARN_LEVEL at the quay's rate (R63, R65). -/
def Dev.lowSample (d : Dev) (q est : Nat) : Prop := fomOf (d.quay q).rate est < d.get (Obj.fomWarnLevel q)

/-- The Correctable error of a lane's warning (R65). -/
def Dev.laneWarning (d : Dev) (q i : Nat) : Err :=
  { typ := 1, inst := d.deviceLane q i (d.quay q).rev, unit := q, detail := 2 ^ i }

/-- The quay's records of a lane are those of `n` low samples in a row: ten at most are counted, and from the tenth on the lane has
been warned of. -/
def Dev.lowFor (d : Dev) (q i n : Nat) : Prop :=
  Tab.get 0 (d.quay q).warnRun i = min n 10 ∧ bitAt (d.quay q).warned i = decide (10 ≤ n)

/-- No object that cuts the wharf or gives the level is a lane's FOM. -/
theorem ne_laneFom (q i : Nat) :
    Obj.fomWarnLevel q ≠ Obj.laneFom q i ∧ Obj.bifurcation (q / 4) ≠ Obj.laneFom q i ∧ Obj.narrow q ≠ Obj.laneFom q i := by
  simp only [Obj.fomWarnLevel, Obj.bifurcation, Obj.narrow, Obj.laneFom]; omega

/-- A lane's FOM leaves the level that it is compared with. -/
@[simp] theorem Dev.fomWarnLevel_put_laneFom (d : Dev) (q i v : Nat) :
    (d.put (Obj.laneFom q i) v).get (Obj.fomWarnLevel q) = d.get (Obj.fomWarnLevel q) :=
  d.get_put_of_ne v (ne_laneFom q i).1

/-- A lane's FOM leaves the configured width. -/
@[simp] theorem Dev.cfgWidth_put_laneFom (d : Dev) (q i v : Nat) : (d.put (Obj.laneFom q i) v).cfgWidth q = d.cfgWidth q := by
  obtain ⟨-, hcut, hnarrow⟩ := ne_laneFom q i
  simp only [Dev.cfgWidth, Dev.positions, d.get_put_of_ne v hcut, d.get_put_of_ne v hnarrow]

/-- A sample leaves the level. -/
theorem Dev.fomWarnLevel_sampleLane (d : Dev) (q i est : Nat) :
    (d.sampleLane q i est).get (Obj.fomWarnLevel q) = d.get (Obj.fomWarnLevel q) := by
  simp only [Dev.sampleLane, Dev.get_errIf, Dev.get_setQuay, Dev.fomWarnLevel_put_laneFom]

/-- A sample leaves the configured width. -/
theorem Dev.cfgWidth_sampleLane (d : Dev) (q i est : Nat) : (d.sampleLane q i est).cfgWidth q = d.cfgWidth q := by
  refine Eq.trans ?_ (d.cfgWidth_put_laneFom q i (fomOf (d.quay q).rate est))
  simp only [Dev.sampleLane, Dev.cfgWidth, Dev.positions, Dev.get_errIf, Dev.get_setQuay]

/-- A sample leaves the quay's rate and the direction of its lanes. -/
theorem Dev.link_sampleLane (d : Dev) (q i est : Nat) :
    ((d.sampleLane q i est).quay q).rate = (d.quay q).rate ∧ ((d.sampleLane q i est).quay q).rev = (d.quay q).rev := by
  simp only [Dev.sampleLane, Dev.quay_errIf, Dev.quay_setQuay, Dev.quay_put, and_self]

/-- A sample does not change which estimates are low. -/
theorem Dev.lowSample_sampleLane (d : Dev) (q i est e : Nat) : (d.sampleLane q i est).lowSample q e ↔ d.lowSample q e := by
  obtain ⟨hrate, -⟩ := d.link_sampleLane q i est
  rw [Dev.lowSample, Dev.lowSample, hrate, d.fomWarnLevel_sampleLane]

/-- A sample does not change how its lane is named in a warning. -/
theorem Dev.laneWarning_sampleLane (d : Dev) (q i est : Nat) : (d.sampleLane q i est).laneWarning q i = d.laneWarning q i := by
  obtain ⟨-, hrev⟩ := d.link_sampleLane q i est
  simp only [Dev.laneWarning, Dev.deviceLane, hrev, d.cfgWidth_sampleLane]

/-- A sample at the level or above raises nothing and starts the count anew (R65). -/
theorem Dev.sampleLane_of_not_low (d : Dev) (q i est : Nat) (hhigh : ¬ d.lowSample q est) :
    (d.sampleLane q i est).lines = d.lines ∧ (d.sampleLane q i est).lowFor q i 0 := by
  rw [Dev.lowSample] at hhigh
  have hnever : decide (10 ≤ 0) = false := rfl
  constructor
  · simp only [Dev.sampleLane, Dev.lines_errIf, Dev.lines_setQuay, Dev.put_lines, Dev.fomWarnLevel_put_laneFom, hhigh, decide_false,
      Bool.false_and, Bool.false_eq_true, if_false, List.append_nil]
  · simp only [Dev.sampleLane, Dev.lowFor, Dev.quay_errIf, Dev.quay_setQuay, Dev.quay_put, Dev.fomWarnLevel_put_laneFom, hhigh,
      Tab.get_set_same, decide_false, Bool.false_and, Bool.false_eq_true, if_false, bitAt_setBit_same, Nat.zero_min, hnever, and_self]

/-- A low sample after `n` low ones raises the warning when it is the tenth, and is counted (R65). -/
theorem Dev.sampleLane_of_low (d : Dev) (q i est n : Nat) (hlow : d.lowSample q est) (hcount : d.lowFor q i n) :
    (d.sampleLane q i est).lines = d.lines ++ (if n = 9 then [d.laneWarning q i] else []) ∧
    (d.sampleLane q i est).lowFor q i (n + 1) := by
  obtain ⟨hrun, hwarned⟩ := hcount
  rw [Dev.lowSample] at hlow
  have htenth : (decide (9 ≤ min n 10) && !decide (10 ≤ n)) = decide (n = 9) := by
    rw [← decide_not, ← Bool.decide_and, decide_eq_decide]; omega
  have hnext : min (min n 10 + 1) 10 = min (n + 1) 10 := by omega
  have hlast : bitAt (if n = 9 then setBit (d.quay q).warned i true else (d.quay q).warned) i = decide (10 ≤ n + 1) := by
    by_cases hninth : n = 9
    · rw [if_pos hninth, bitAt_setBit_same, decide_eq_true (by omega)]
    · rw [if_neg hninth, hwarned, decide_eq_decide]; omega
  constructor
  · simp only [Dev.sampleLane, Dev.laneWarning, Dev.deviceLane, Dev.lines_errIf, Dev.lines_setQuay, Dev.put_lines, Dev.quay_put,
      Dev.fomWarnLevel_put_laneFom, Dev.cfgWidth_put_laneFom, hlow, hrun, hwarned, decide_true, Bool.true_and, htenth,
      decide_eq_true_eq]
  · simp only [Dev.sampleLane, Dev.lowFor, Dev.quay_errIf, Dev.quay_setQuay, Dev.quay_put, Dev.fomWarnLevel_put_laneFom, hlow,
      hrun, hwarned, Tab.get_set_same, decide_true, Bool.true_and, htenth, decide_eq_true_eq, if_true, hnext, hlast, and_self]

/-- A run of low samples after `n` low ones raises one warning if the tenth is among them, and else none. -/
theorem Dev.lines_sampleLanes_of_low (q i : Nat) (ests : List Nat) (d : Dev) (n : Nat) (hcount : d.lowFor q i n)
    (hlow : ∀ e ∈ ests, d.lowSample q e) :
    (ests.foldl (fun d e => d.sampleLane q i e) d).lines =
      d.lines ++ if n < 10 ∧ 10 ≤ n + ests.length then [d.laneWarning q i] else [] := by
  induction ests generalizing d n with
  | nil =>
    have hnone : ¬ (n < 10 ∧ 10 ≤ n + 0) := by omega
    rw [List.foldl_nil, List.length_nil, if_neg hnone, List.append_nil]
  | cons e ests ih =>
    obtain ⟨hfirst, hlater⟩ := List.forall_mem_cons.1 hlow
    obtain ⟨hlines, hnext⟩ := d.sampleLane_of_low q i e n hfirst hcount
    have hrest := ih (d.sampleLane q i e) (n + 1) hnext fun x hx => (d.lowSample_sampleLane q i e x).2 (hlater x hx)
    rw [List.foldl_cons, hrest, hlines, d.laneWarning_sampleLane, List.append_assoc, List.length_cons]
    by_cases htenth : n = 9
    · subst htenth
      rw [if_pos rfl, if_neg (by omega), if_pos (by omega), List.append_nil]
    · have hcounts : (n + 1 < 10 ∧ 10 ≤ n + 1 + ests.length) ↔ (n < 10 ∧ 10 ≤ n + (ests.length + 1)) := by omega
      rw [if_neg htenth, List.nil_append]
      simp only [hcounts]

/-- Settles O11: a run from a lane that was at the level is one of low samples after none, and a sample at the level or above
starts it again. -/
theorem laneWarningOnce : Obligations.LaneWarningOnce := by
  unfold Obligations.LaneWarningOnce
  refine ⟨fun d q i ests hrun hwarned hlow => ?run, fun d q i est hlevel => ?level⟩
  case run =>
    have hraised := Dev.lines_sampleLanes_of_low q i ests d 0 ⟨hrun, hwarned⟩ hlow
    have hcounts : (0 < 10 ∧ 10 ≤ 0 + ests.length) ↔ 10 ≤ ests.length := by omega
    simp only [hcounts] at hraised
    exact hraised
  case level =>
    obtain ⟨hlines, hrun, hwarned⟩ := d.sampleLane_of_not_low q i est (Nat.not_lt.2 hlevel)
    exact ⟨hlines, hrun, hwarned⟩

end Sys2Proof.Machine
end

section
/-!
PROOFS. What the lane events do on a quay that is UP or HELD (R64, R66, R68, R85).
-/

namespace Sys2Proof.Machine

open Sys2Proof

/-- A lane that loses lock while another of the width holds its own is noted (R66). -/
theorem effLaneLockLoss_of_not_last (q i : Nat) (d : Dev) (hup : d.isUp q = true) (hlane : i < (d.quay q).width)
    (hother : Nat.lor (d.quay q).lockLost (2 ^ i) ≠ 2 ^ (d.quay q).width - 1) :
    effLaneLockLoss q i d = d.setQuay q fun k => { k with lockLost := Nat.lor (d.quay q).lockLost (2 ^ i) } :=
  (if_pos (by simp [hup, hlane])).trans (if_neg hother)

/-- A rate retrain of a held quay on a running wharf takes the rate trained and settles on the width it had (R68, R469). -/
theorem effWidthRetrain_of_rate (q : Nat) (r : TrainResult) (d : Dev) (hretrain : (d.quay q).retrain = some .rate)
    (hheld : d.qstate q = 4) (hruns : d.wharfRuns (q / 4) = true) :
    effWidthRetrain q r d =
      let top := linkTop (d.get (Obj.cxlOffer q)) (d.role q) (d.quay q).protocol r
      let e := (d.setQuay q (Quay.newRate top (d.rateCap q))).askPreset q r
      e.finishRetrain q (Retrain.rate.want (e.cfgWidth q) (e.quay q).width) r.failed := by
  simp only [effWidthRetrain, hretrain, hheld, hruns, and_self, if_true]

/-- Settles O15, event by event: under its condition each event's effect takes the branch that the statement writes out. -/
theorem laneEventsComplete : Obligations.LaneEventsComplete := by
  unfold Obligations.LaneEventsComplete
  refine ⟨fun q foms => ?sample, fun q i => ?lockLoss, fun q i => ?lockRegain, fun q i => ?lockLossTimeout,
    fun q r => ?retrain, fun q failed down => ?linkLoss⟩
  case sample => exact runs_of_liveLift (fun _ => rfl) fun d ⟨hup, hl0⟩ => if_pos (by simp [hup, hl0])
  case lockLoss =>
    exact runs_of_liveLift (fun _ => rfl) fun d ⟨hup, hlane, hother⟩ => effLaneLockLoss_of_not_last q i d hup hlane hother
  case lockRegain => exact runs_of_liveLift (fun _ => rfl) fun _ _ => rfl
  case lockLossTimeout => exact runs_of_liveLift (fun _ => rfl) fun d ⟨hup, hlost⟩ => if_pos (by simp [hup, hlost])
  case retrain =>
    exact runs_of_liveLift (fun _ => rfl) fun d ⟨hretrain, hheld, hruns⟩ => effWidthRetrain_of_rate q r d hretrain hheld hruns
  case linkLoss => exact runs_of_liveLift (fun _ => rfl) fun _ htrained => if_pos htrained

end Sys2Proof.Machine
end

section
/-!
PROOFS. What L0p, L1, flits and replays do on a link that carries them (R62, R73 to R76, R79 to R83).
-/

namespace Sys2Proof.Machine

open Sys2Proof

/-- A partner's request meets none of the device's own: it is accepted (R75). -/
theorem effPartnerWidthRequest_of_no_own (q w : Nat) (d : Dev) (hup : d.isUp q = true) (hl0p : (d.quay q).l0p = true)
    (hnone : (d.quay q).wreq = none) (hwidth : roleWidth (d.role q) w = true) :
    effPartnerWidthRequest q w d = d.acceptWidth q w := by
  simp only [effPartnerWidthRequest, hup, hl0p, hwidth, Bool.and_self, if_true, hnone]

/-- A request that waits to be issued again is sent (R75). -/
theorem effWidthReissue_of_waiting (q : Nat) (r : WidthReq) (d : Dev) (hown : (d.quay q).wreq = some r) (hup : d.isUp q = true)
    (hwaits : r.reissue = true) :
    effWidthReissue q d =
      ((d.setQuay q fun k => { k with wreq := some { r with sent := true, reissue := false } }).wakeLanes q r.width).send
        (.link q (.widthRequest r.width)) := by
  simp only [effWidthReissue, hown]
  exact if_pos (by simp [hup, hwaits])

/-- With no flit of traffic to send, an idle flit carries the credits to be returned (R80, R81). -/
theorem effFlitTransmit_of_idle (q n : Nat) (d : Dev) (hon : d.linkOn q = true)
    (hidle : ((d.transmit q n).quay q).txSeq = (d.quay q).txSeq) :
    effFlitTransmit q n d =
      ((d.setQuay q fun k => { k with returns := [] }).event (0xC100 + q) 0x02 1 {}).send
        (.flit q (d.quay q).txSeq (d.quay q).rxSeq [] (d.quay q).returns) :=
  (if_pos hon).trans (if_pos hidle)

/-- With traffic to send, its flits alone go out (R81). -/
theorem effFlitTransmit_of_traffic (q n : Nat) (d : Dev) (hon : d.linkOn q = true)
    (htraffic : ((d.transmit q n).quay q).txSeq ≠ (d.quay q).txSeq) : effFlitTransmit q n d = d.transmit q n :=
  (if_pos hon).trans (if_neg htraffic)

/-- A replay timeout with flits unacknowledged goes to Recovery after as many replays as the mode allows, and replays them
before (R83). -/
theorem effReplayTimeout_of_unacked (q : Nat) (d : Dev) (hon : d.replayOn q = true) (hunacked : (d.quay q).replay ≠ []) :
    effReplayTimeout q d =
      if maxReplays (d.quay q).protocol ≤ (d.quay q).replays then
        ((d.holdLink q).setQuay q fun k => { k with replays := 0 }).send (.link q .recovery)
      else (d.resend q (d.quay q).replay).setQuay q fun k => { k with replays := k.replays + 1 } :=
  if_pos (by simp [hon, hunacked])

/-- Settles O16, event by event: under its condition each event's effect takes the branch that the statement writes out. -/
theorem linkPowerAndReplayComplete : Obligations.LinkPowerAndReplayComplete := by
  unfold Obligations.LinkPowerAndReplayComplete
  refine ⟨fun q w => ?partnerRequest, fun q w => ?changeDone, fun q r => ?reissue, fun q => ?l1Entry, fun q => ?l1Exit,
    fun q n => ?idleFlit, fun q n => ?traffic, fun q seq => ?selectiveReplay, fun q seq => ?standardReplay, fun q => ?lastTimeout,
    fun q => ?earlierTimeout⟩
  case partnerRequest =>
    exact runs_of_liveLift (fun _ => rfl) fun d ⟨hup, hl0p, hnone, hwidth⟩ =>
      effPartnerWidthRequest_of_no_own q w d hup hl0p hnone hwidth
  case changeDone =>
    exact runs_of_liveLift (fun _ => rfl) fun d ⟨hup, hl0p, hlegal, hcut, hwidth⟩ =>
      if_pos (by rw [hup, hl0p, hlegal, decide_eq_true hcut, hwidth]; rfl)
  case reissue =>
    exact runs_of_liveLift (fun _ => rfl) fun d ⟨hown, hup, hwaits⟩ => effWidthReissue_of_waiting q r d hown hup hwaits
  case l1Entry => exact runs_of_liveLift (fun _ => rfl) fun d ⟨hup, hallowed⟩ => if_pos (by simp [hup, hallowed])
  case l1Exit => exact runs_of_liveLift (fun _ => rfl) fun _ hl1 => if_pos hl1
  case idleFlit => exact runs_of_liveLift (fun _ => rfl) fun d ⟨hon, hidle⟩ => effFlitTransmit_of_idle q n d hon hidle
  case traffic => exact runs_of_liveLift (fun _ => rfl) fun d ⟨hon, htraffic⟩ => effFlitTransmit_of_traffic q n d hon htraffic
  case selectiveReplay => exact runs_of_liveLift (fun _ => rfl) fun _ hon => if_pos hon
  case standardReplay => exact runs_of_liveLift (fun _ => rfl) fun _ hon => if_pos hon
  case lastTimeout =>
    exact runs_of_liveLift (fun _ => rfl) fun d ⟨hon, hunacked, hlast⟩ =>
      (effReplayTimeout_of_unacked q d hon hunacked).trans (if_pos hlast)
  case earlierTimeout =>
    exact runs_of_liveLift (fun _ => rfl) fun d ⟨hon, hunacked, hearlier⟩ =>
      (effReplayTimeout_of_unacked q d hon hunacked).trans (if_neg (Nat.not_le.2 hearlier))

end Sys2Proof.Machine
end

section
/-!
PROOFS. What lets the writes that shape a quay through, and what MIN_WIDTH does (R50 to R53, R71, R72, R78).
-/

namespace Sys2Proof.Machine

open Sys2Proof

/-- NARROW is let through in Slipway: None anywhere, and any value on a quay of one position that is not a Fabric quay (R50,
R53). -/
theorem actNarrow_check_success (q : Nat) (c : Call) (v : Nat) (d : Dev) (hmode : d.mode = 0)
    (hshape : v = 0 ∨ (d.positions q ≤ 1 ∧ d.role q ≠ 3)) : (actNarrow q).check c v d = Status.success := by
  have hshaped : ¬ (v ≠ 0 ∧ (1 < d.positions q ∨ d.role q = 3)) := by omega
  exact (if_neg hshaped).trans (if_pos hmode)

/-- ROLE is let through in Slipway: Fabric on a quay that is not narrow, Host for at most 64 quays (R51 to R53). -/
theorem actRole_check_success (q : Nat) (c : Call) (v : Nat) (d : Dev) (hmode : d.mode = 0)
    (hfabric : v = 3 → d.get (Obj.narrow q) = 0) (hhost : v = 1 → d.role q = 1 ∨ d.hostRoles < 64) :
    (actRole q).check c v d = Status.success := by
  have hnarrow : ¬ (v = 3 ∧ d.get (Obj.narrow q) ≠ 0) := fun ⟨hv, hset⟩ => hset (hfabric hv)
  have hroom : ¬ (v = 1 ∧ d.role q ≠ 1 ∧ 64 ≤ d.hostRoles) := fun ⟨hv, hnew, hfull⟩ =>
    (hhost hv).elim hnew (Nat.not_lt.2 hfull)
  exact (if_neg hnarrow).trans ((if_neg fun houtside => houtside hmode).trans (if_neg hroom))

/-- MIN_WIDTH is checked against the width in force when it was raised on a quay that is UP (R71). -/
theorem actMinWidth_effect (q : Nat) (c : Call) (v n : Nat) (d : Dev) :
    (actMinWidth q).effect c v n d =
      let e := d.put (Obj.minWidth q) v
      if d.get (Obj.minWidth q) < v ∧ e.isUp q = true then e.checkMinWidth q (e.get (Obj.currentWidth q)) else e := by
  simp only [actMinWidth, Bool.and_eq_true, decide_eq_true_eq]

/-- Settles O17, write by write: each check lets the write through under its own conditions. -/
theorem quayWritesComplete : Obligations.QuayWritesComplete := by
  unfold Obligations.QuayWritesComplete
  refine ⟨fun c w v => ?bifurcation, fun c q v => ?narrow, fun c q v => ?role, fun c q v => ?cxlOffer, fun c q v => ?minWidth,
    fun c q v => ?restoreWidth⟩
  case bifurcation =>
    exact writes_of_writeRow (fun _ => rfl) (fun _ hmode => if_pos hmode) (by dsimp only [actBifurcation]) fun _ => rfl
  case narrow =>
    exact writes_of_writeRow (fun _ => rfl) (fun d ⟨hmode, hshape⟩ => actNarrow_check_success q c _ d hmode hshape)
      (by dsimp only [actNarrow]) fun _ => rfl
  case role =>
    exact writes_of_writeRow (fun _ => rfl) (fun d ⟨hmode, hfabric, hhost⟩ => actRole_check_success q c _ d hmode hfabric hhost)
      (by dsimp only [actRole]) fun _ => rfl
  case cxlOffer =>
    exact writes_of_writeRow (fun _ => rfl) (fun _ hoffer => if_pos hoffer) (by dsimp only [actCxlOffer]) fun _ => rfl
  case minWidth =>
    exact writes_of_writeRow (fun _ => rfl) (fun _ hcut => if_neg (Nat.not_lt.2 hcut))
      (funext fun n => funext fun d => actMinWidth_effect q c _ n d) fun _ => rfl
  case restoreWidth =>
    exact writes_of_writeRow (fun _ => rfl) (fun _ _ => rfl) (by dsimp only [actRestoreWidth]) fun _ => rfl

end Sys2Proof.Machine
end

section
/-!
PROOFS. What lets the commands on a quay's link through (R73, R89, R96, R99, R105).
-/

namespace Sys2Proof.Machine

open Sys2Proof

/-- WIDTH_REQUEST is let through for a width that works, with none outstanding, on a quay that is UP with L0p in effect and
enabled (R73). -/
theorem checkWidthRequest_success (q v : Nat) (d : Dev) (p : Nat × Bool) (hwidest : d.widest q = some p) (hworks : v ≤ p.1)
    (hnone : (d.quay q).wreq = none) (hup : d.isUp q = true) (hl0p : (d.quay q).l0p = true) (henable : d.get (Obj.l0pEnable q) ≠ 0)
    (hwidth : roleWidth (d.role q) v = true) : checkWidthRequest q v d = Status.success := by
  simp [checkWidthRequest, hwidest, Nat.not_lt.2 hworks, hwidth, hnone, hup, hl0p, henable]

/-- QUAY_RELEASE is let through for a quay that is DOWN (R89). -/
theorem actQuayRelease_check_success (c : Call) (v : Nat) (d : Dev) (hquay : v < 128) (hdown : d.qstate v = 1) :
    actQuayRelease.check c v d = Status.success := by
  have hexists : ¬ (128 ≤ v ∨ d.qstate v = 0 ∨ d.qstate v = 5) := by omega
  exact (if_neg hexists).trans (if_pos hdown)

/-- Settles O18, command by command: each check lets the command through under its own conditions. -/
theorem quayCommandsComplete : Obligations.QuayCommandsComplete := by
  unfold Obligations.QuayCommandsComplete
  refine ⟨fun c q v p => ?widthRequest, fun c v => ?quayDown, fun c v => ?quayRelease, fun c k v => ?routeBlock,
    fun c v => ?fabricId⟩
  case widthRequest =>
    exact writes_of_writeRow (fun _ => rfl) (fun d ⟨hwidest, hworks, hnone, hup, hl0p, henable, hwidth⟩ =>
      checkWidthRequest_success q _ d p hwidest hworks hnone hup hl0p henable hwidth)
      (by dsimp only [actWidthRequest]) fun _ => rfl
  case quayDown =>
    exact writes_of_writeRow (fun _ => rfl) (fun _ hexists => if_pos hexists) (by dsimp only [actQuayDown]) fun _ => rfl
  case quayRelease =>
    exact writes_of_writeRow (fun _ => rfl) (fun d ⟨hquay, hdown⟩ => actQuayRelease_check_success c _ d hquay hdown)
      (by dsimp only [actQuayRelease]) fun _ => rfl
  case routeBlock =>
    exact writes_of_writeRow (fun _ => rfl) (fun _ _ => rfl) (by dsimp only [actRouteBlock, storeAct]) fun _ => rfl
  case fabricId =>
    exact writes_of_writeRow (fun _ => rfl) (fun _ hmode => if_pos hmode)
      (funext fun _ => funext fun _ => rfl) fun _ => rfl

end Sys2Proof.Machine
end

section
/-!
PROOFS. What the general rules and its own say of a write to FABRIC_ID, and what a refused write leaves (R5, R96, R300, R302).
-/

namespace Sys2Proof.Machine

open Sys2Proof

/-- A number that is issued changes no object but COMMIT_SEQ (R304). -/
theorem Dev.get_takeSeq_of_ne (d : Dev) {o : Nat} (hne : o ≠ Obj.commitSeq) : d.takeSeq.get o = d.get o :=
  d.get_put_of_ne (d.nextSeq + 1) hne

/-- A refused write row: its number and its answer. -/
theorem writeRow_refused (a : Act) (c : Call) (o w : Nat) (s : State) (hpowered : s.dev.powered = true)
    (hopen : s.dev.callerOpen c.caller = true) (hjudge : s.dev.judge a c o (valueOf c w) ≠ Status.success) :
    writeRow a c o w s = .next { s with
      dev := s.dev.takeSeq.send
        (.answer c.caller (answerOf (s.dev.judge a c o (valueOf c w)) o s.dev.nextSeq (s.dev.lastSeqOf o) .none)) } := by
  rw [writeRow, liveLift_powered _ s hpowered, Dev.manifestWrite_refused a c o w s.dev hopen hjudge]

/-- A write whose values can be stored meets no DEVICE_ERROR. -/
theorem journalStatus_of_journal (c : Call) (o : Nat) (hjournal : c.env.journalFails = false) :
    journalStatus c o = Status.success := by
  simp [journalStatus, hjournal]

/-- FABRIC_ID is a two-byte object of role 2 whose values end at 0x7FF (R96, R468). -/
theorem findRow_fabricId :
    findRow Obj.fabricId =
      some (⟨0x1020, 1, 1, 0x01, 1, "FABRIC_ID", .u16, 2, .rw, 2, .per, fun _ _ _ => 0, fun _ _ _ => .le 0 2047⟩, 0, 0) :=
  rfl

/-- To a caller that may write FABRIC_ID and names its LAST_SEQ, the general rules refuse a value above 0x7FF alone (R5, R96). -/
theorem Dev.generalStatus_fabricId (d : Dev) (c : Call) (v r : Nat) (hrole : d.callerRole c.caller = some r) (hrank : 2 ≤ r)
    (hmaster : d.mastered c.caller 1 = false) (hlen : c.len = 2) (hexpect : c.expect = some (d.lastSeqOf Obj.fabricId)) :
    d.generalStatus c Obj.fabricId v = if 0x7FF < v then Status.badValue else Status.success := by
  have hbelow : Obj.fabricId < 0xF00000 := by decide
  have hexists : d.exists' Obj.fabricId = true := by simp [Dev.exists', findRow_fabricId, hbelow]
  have hgroup (row : Row) (hrw : row.acc = .rw) : groupOf row Obj.fabricId = 1 := by
    simp [groupOf, hrw, Obj.fabricId, Obj.eventMask, Obj.mySession]
  have hunit : d.objFenced Obj.fabricId = false := rfl
  simp [Dev.generalStatus, findRow_fabricId, hexists, hrole, Nat.not_lt.2 hrank, hgroup, hmaster, hunit, lengthOk, hlen, hexpect,
    Rng.ok]

/-- A value out of range is answered with BAD_VALUE where the owning chapter gives no lower code (R300). -/
theorem Dev.judge_of_badValue (d : Dev) (a : Act) (c : Call) (o v : Nat) (hgeneral : d.generalStatus c o v = Status.badValue)
    (hstored : journalStatus c o = Status.success) (hcheck : a.check c v d = Status.success ∨ Status.badValue ≤ a.check c v d) :
    d.judge a c o v = Status.badValue := by
  obtain hcheck | hcheck := hcheck
  · simp [Dev.judge, hgeneral, hstored, hcheck, firstStatus]
  · have hcode : a.check c v d ≠ Status.success := Nat.ne_of_gt (Nat.lt_of_lt_of_le (by decide) hcheck)
    simp [Dev.judge, hgeneral, hstored, firstStatus, hcode, hcheck]

/-- The check of FABRIC_ID gives no code below BAD_VALUE. -/
theorem actFabricId_check_eq_success_or_ge (c : Call) (v : Nat) (d : Dev) :
    actFabricId.check c v d = Status.success ∨ Status.badValue ≤ actFabricId.check c v d := by
  by_cases hmode : d.mode = 0
  · exact .inl (if_pos hmode)
  · exact .inr (Nat.le_trans (by decide : Status.badValue ≤ Status.wrongMode) (Nat.le_of_eq (if_neg hmode).symm))

/-- Settles O9, by the judgement: a value out of range, a legal one in Slipway, and a legal one elsewhere. -/
theorem fabricIdWriteRule : Obligations.FabricIdWriteRule := by
  unfold Obligations.FabricIdWriteRule
  intro s c v r hpowered hopen hrole hrank hmaster hlen hexpect hjournal
  have hgeneral := s.dev.generalStatus_fabricId c (valueOf c v) r hrole hrank hmaster hlen hexpect
  have hstored := journalStatus_of_journal c Obj.fabricId hjournal
  have hkept : s.dev.takeSeq.get Obj.fabricId = s.dev.get Obj.fabricId := s.dev.get_takeSeq_of_ne (by decide)
  by_cases habove : 0x7FF < valueOf c v
  · rw [if_pos habove] at hgeneral
    have hjudge := s.dev.judge_of_badValue actFabricId c Obj.fabricId (valueOf c v) hgeneral hstored
      (actFabricId_check_eq_success_or_ge c _ s.dev)
    exact ⟨_, _, writeRow_refused actFabricId c Obj.fabricId v s hpowered hopen (by rw [hjudge]; decide), rfl,
      fun _ => ⟨hjudge, hkept⟩, fun hlegal => absurd habove (Nat.not_lt.2 hlegal),
      fun hlegal => absurd habove (Nat.not_lt.2 hlegal)⟩
  · rw [if_neg habove] at hgeneral
    have hadmits : s.dev.admits c Obj.fabricId (valueOf c v) := ⟨hpowered, hopen, hgeneral, hstored⟩
    by_cases hmode : s.dev.mode = 0
    · exact ⟨_, _, writeRow_accepted actFabricId c Obj.fabricId v s hadmits (if_pos hmode), rfl,
        fun hout => absurd hout habove, fun _ houtside => absurd hmode houtside, fun _ _ => ⟨rfl, Tab.get_set_same _ _ _ _⟩⟩
    · have hjudge : s.dev.judge actFabricId c Obj.fabricId (valueOf c v) = Status.wrongMode :=
        (s.dev.judge_check actFabricId c Obj.fabricId _ hadmits).trans (if_neg hmode)
      exact ⟨_, _, writeRow_refused actFabricId c Obj.fabricId v s hpowered hopen (by rw [hjudge]; decide), rfl,
        fun hout => absurd hout habove, fun _ _ => ⟨hjudge, hkept⟩, fun _ hin => absurd hin hmode⟩

end Sys2Proof.Machine
end

section
/-!
PROOFS. What the events that bring a quay's link up and down do (R81, R85, R87, R88, R97, R354).
-/

namespace Sys2Proof.Machine

open Sys2Proof

/-- A flit of a stream that has not failed is received unless it fails its integrity check on a SECURE stream (R81, R354). -/
theorem effFlitReceived_of_not_integrityFailure (q : Nat) (f : RxFlit) (d : Dev) (hon : d.linkOn q = true)
    (hlive : (d.stream q f.stream).failed = false) (hpasses : (f.crcOk && !f.ideOk && (d.stream q f.stream).st == 2) = false) :
    effFlitReceived q f d = d.receiveFlit q f :=
  (if_neg (by simp [hon, hlive])).trans (if_neg (by simpa using hpasses))

/-- A flit that fails its integrity check on a SECURE stream ends the stream and is dropped, with Type 11 (R354). -/
theorem effFlitReceived_of_integrityFailure (q : Nat) (f : RxFlit) (d : Dev) (hon : d.linkOn q = true)
    (hlive : (d.stream q f.stream).failed = false) (hcrc : f.crcOk = true) (hide : f.ideOk = false)
    (hsecure : (d.stream q f.stream).st = 2) :
    effFlitReceived q f d =
      ((d.setIde q f.stream IdeStream.fail).count (Obj.ideIntegrityFails q) 1).err { typ := 11, inst := q, unit := q } :=
  (if_neg (by simp [hon, hlive])).trans (if_pos (by simp [hcrc, hide, hsecure]))

/-- A link that may come up with a protocol on offer trains with it; a Fabric quay's partner has to do PBR (R53, R85). -/
theorem effLinkUp_of_offered (q p : Nat) (r : TrainResult) (d : Dev) (hlinks : d.linksUp q = true)
    (hp : p = settledProtocol (d.get (Obj.cxlOffer q)) (d.role q) (d.rateCap q) r)
    (hoffered : protocolOffered (d.get (Obj.cxlOffer q)) (d.role q) p = true) (hpbr : d.role q = 3 → r.pbr = true) :
    effLinkUp q r d = d.train q p r := by
  subst hp
  have hpartner : ¬ (d.role q = 3 ∧ !r.pbr) := fun ⟨hfabric, hnone⟩ => by simp [hpbr hfabric] at hnone
  exact (if_neg (by simp [hlinks])).trans ((if_neg hpartner).trans (if_pos hoffered))

/-- The device with the lanes of a first training, before it settles on a width (R66, R67). -/
def Dev.firstLanes (q : Nat) (r : TrainResult) (d : Dev) : Dev :=
  (d.setQuay q fun k => { k with partnerMax := r.partnerMax }).trainedLanes q r.failed false

/-- A quay in training that was not UP comes up at the width that its lanes settle on, from all of CONFIG_WIDTH (R67, R78). -/
theorem Dev.train_of_training (q p w : Nat) (rev : Bool) (r : TrainResult) (d : Dev) (htraining : d.qstate q = 2)
    (hsettled : (d.firstLanes q r).settled q ((d.firstLanes q r).cfgWidth q) = some (w, rev)) :
    d.train q p r =
      let e := d.firstLanes q r
      let offer := e.get (Obj.cxlOffer q)
      let e := (e.takeWidth q w rev).setQuay q (Quay.trained r p (linkTop offer (e.role q) p r) (e.rateCap q)
        (e.get (Obj.eiExitBurst q)) (e.get (Obj.clocking q) == 1) (r.bi && bitAt offer 4 && decide (4 ≤ p)))
      (e.askPreset q r).firstUp q := by
  rw [Dev.firstLanes] at hsettled
  have hnotDown : d.qstate q ≠ 1 := by rw [htraining]; decide
  have hnotHeld : (d.qstate q == 4) = false := by rw [htraining]; rfl
  have hnoRetrain (retrain : Option Retrain) : (retrain.filter fun _ => false) = none := by cases retrain <;> rfl
  simp only [Dev.train, Dev.firstLanes, hnotHeld, if_neg hnotDown, hnoRetrain, Option.map_none, Option.getD_none, hsettled,
    Bool.false_eq_true, if_false]

/-- Settles O19, event by event: under its condition each event's effect takes the branch that the statement writes out. -/
theorem linkEventsComplete : Obligations.LinkEventsComplete := by
  unfold Obligations.LinkEventsComplete
  refine ⟨fun q f => ?flitTaken, fun q f => ?flitFails, fun q r w p rev => ?linkUp, fun q => ?dlUp, fun q id => ?identity,
    fun q => ?identityTimeout, fun q => ?perstAssert, fun q => ?perstDeassert, fun q => ?hotReset, fun q => ?enumeration⟩
  case flitTaken =>
    exact runs_of_liveLift (fun _ => rfl) fun d ⟨hon, hlive, hpasses⟩ =>
      effFlitReceived_of_not_integrityFailure q f d hon hlive hpasses
  case flitFails =>
    exact runs_of_liveLift (fun _ => rfl) fun d ⟨hon, hlive, hcrc, hide, hsecure⟩ =>
      effFlitReceived_of_integrityFailure q f d hon hlive hcrc hide hsecure
  case linkUp =>
    exact runs_of_liveLift (fun _ => rfl) fun d ⟨hlinks, hp, hoffered, hpbr, htraining, hsettled⟩ =>
      (effLinkUp_of_offered q p r d hlinks hp hoffered hpbr).trans (d.train_of_training q p w rev r htraining hsettled)
  case dlUp => exact runs_of_liveLift (fun _ => rfl) fun _ hreturns => if_pos hreturns
  case identity => exact runs_of_liveLift (fun _ => rfl) fun _ _ => rfl
  case identityTimeout => exact runs_of_liveLift (fun _ => rfl) fun _ _ => rfl
  case perstAssert => exact runs_of_liveLift (fun _ => rfl) fun _ hhost => if_pos hhost
  case perstDeassert => exact runs_of_liveLift (fun _ => rfl) fun _ _ => rfl
  case hotReset => exact runs_of_liveLift (fun _ => rfl) fun _ hhost => if_pos hhost
  case enumeration => exact runs_of_liveLift (fun _ => rfl) fun _ halive => if_pos halive

end Sys2Proof.Machine
end

section
/-!
PROOFS. What ends a request of the device's own, and what sends a PBR flit on (R91, R94, R98 to R100, R108).
-/

namespace Sys2Proof.Machine

open Sys2Proof

/-- An outstanding request whose time is over fails with a timeout, and its tag slot lets a waiting one be issued (R91). -/
theorem effOriginatedRequestExpiry_of_outstanding (q slot gen : Nat) (o : Orig) (d : Dev) (hout : d.origAt q slot gen = some o) :
    effOriginatedRequestExpiry q slot gen d = (((d.noteTimeout o).expireOrig o).failOrig o.ini 1).issueWaiting q := by
  simp only [effOriginatedRequestExpiry, hout, Dev.timeOut]

/-- A response to an outstanding request closes it and enters the core on its way to the initiator, in the response class of the
request's level (R94, R108). -/
theorem effOriginatedResponse_of_way (q slot gen : Nat) (r : MemRsp) (o : Orig) (p : Nat × Nat × Option Nat) (d : Dev)
    (hout : d.origAt q slot gen = some o)
    (hway : ((d.payloadIn q (rspLen r) {}).dropOrig o).wayTo q (4 + o.level) (rspMsg q slot r).chan o.ini = some p) :
    effOriginatedResponse q slot gen r d =
      (((d.payloadIn q (rspLen r) {}).dropOrig o).enqueue p.1 p.2.1 (4 + o.level) p.2.2
        { msg := rspMsg q slot r, rsp := some (o, r) }).issueWaiting q := by
  simp only [effOriginatedResponse, hout, hway]

/-- A response to no outstanding request is late or unexpected, and its space is free again (R80, R94). -/
theorem effOriginatedResponse_of_no_request (q slot gen : Nat) (r : MemRsp) (d : Dev) (hnone : d.origAt q slot gen = none) :
    effOriginatedResponse q slot gen r d = (d.freeResponse q slot r).lateOrUnexpected q slot gen := by
  simp only [effOriginatedResponse, hnone]

/-- Out of Lull, a PBR flit for another device that no IDE rule or meter stops goes on by the routes (R98 to R100). -/
theorem effPbrFlitRoute_of_transit (q id : Nat) (m : Msg) (d : Dev) (hup : d.isUp q = true) (hfabric : d.role q = 3)
    (hother : id ≠ d.get Obj.fabricId) (hlen : m.len ≤ 4096)
    (hclear : isResponse m.chan = true ∨ (d.ideStops q = false ∧ (d.metered && meteredMsg m) = false)) :
    effPbrFlitRoute q id m d =
      (d.notePassed id (d.transitLevel q id m) m).routePbr (arriving q q (d.transitLevel q id m) d.time
        { msg := { m with dest := id }, pbr := true }) { msg := { m with dest := id }, pbr := true } :=
  if_pos ⟨hup, hfabric, hother, hlen, hclear.imp_right fun ⟨hide, hmeter⟩ => by simp [hide, hmeter]⟩

/-- Settles O20, event by event: a response by the request that it answers and the way to what waits for it. -/
theorem originatedRequestsComplete : Obligations.OriginatedRequestsComplete := by
  unfold Obligations.OriginatedRequestsComplete
  refine ⟨fun q slot gen o => ?expiry, fun q slot gen data o p => ?answered, fun q slot gen r => ?unmatched, fun q id m => ?pbr⟩
  case expiry =>
    exact runs_of_liveLift (fun _ => rfl) fun d hout => effOriginatedRequestExpiry_of_outstanding q slot gen o d hout
  case answered =>
    exact runs_of_liveLift (fun _ => rfl) fun d ⟨hout, hway⟩ => effOriginatedResponse_of_way q slot gen (.data data) o p d hout hway
  case unmatched =>
    exact runs_of_liveLift (fun _ => rfl) fun d hnone => effOriginatedResponse_of_no_request q slot gen r d hnone
  case pbr =>
    exact runs_of_liveLift (fun _ => rfl) fun d ⟨hup, hawake, hfabric, hother, hlen, hclear⟩ =>
      (congrArg (effPbrFlitRoute q id m) (if_neg fun hlull => hawake hlull.1)).trans
        (effPbrFlitRoute_of_transit q id m d hup hfabric hother hlen hclear)

end Sys2Proof.Machine
end

section
/-!
PROOFS. What the events of the switch core do: delivery from an output, recharging and priorities on their way (R112 to R119).
-/

namespace Sys2Proof.Machine

open Sys2Proof

/-- An output that leads to no slice delivers nothing but responses: those that it grants end their requests. -/
theorem Dev.deliverAll_of_not_slicePort (o : Nat) (l : List Item) (d : Dev) (hport : sliceOfPort o = none) :
    d.deliverAll o l = (l.filterMap (·.rsp)).foldl (fun d p => d.endResponse p.1 p.2) d := by
  simp only [Dev.deliverAll, hport]

/-- An output toward a slice also delivers the accesses that it grants, after those that waited for strict order (R273). -/
theorem Dev.deliverAll_of_slicePort (o s : Nat) (l : List Item) (d : Dev) (hport : sliceOfPort o = some s) :
    d.deliverAll o l =
      (l.filterMap (·.acc)).foldl (fun d a => d.deliver s a)
        (((l.filterMap (·.rsp)).foldl (fun d p => d.endResponse p.1 p.2) d).retryStrict s) := by
  simp only [Dev.deliverAll, hport]

/-- Where the limits allow it, the first core flit of a VOQ with a reserved cell is charged to the shared part for one unit, and its
credit goes back (R112 to R114). -/
theorem effCellRecharge_of_allowed (inp out cls : Nat) (f : CoreFlit) (d : Dev)
    (hfirst : d.net.voq.find? (fun f => f.inp == inp && f.out == out && f.cls == cls && decide (1 ≤ f.reserved)) = some f)
    (hmay : d.mayRecharge inp out cls = true) :
    effCellRecharge inp out cls d =
      ((d.setNet fun n => { n with
        voq := rechargeFirst (fun f => f.inp == inp && f.out == out && f.cls == cls && decide (1 ≤ f.reserved)) n.voq }).creditUnit f
        (f.units - f.left + f.shared)).landWaiting inp := by
  simp only [effCellRecharge, hfirst]
  exact if_pos hmay

/-- The oldest write on its way to an arbiter reaches it (R118). -/
theorem effPriorityReachesArbiter_of_coming (o : Nat) (w : PrioWrite) (rest : List PrioWrite) (d : Dev)
    (hcoming : (d.arb o).coming = w :: rest) :
    effPriorityReachesArbiter o d = d.setArb o fun a => { a with coming := rest, waiting := a.waiting ++ [w] } := by
  simp only [effPriorityReachesArbiter, hcoming]

/-- Settles O21, event by event; an evaluation by where its output leads. -/
theorem switchEventsComplete : Obligations.SwitchEventsComplete := by
  unfold Obligations.SwitchEventsComplete
  refine ⟨fun o => ?otherOutput, fun o s => ?sliceOutput, fun inp out cls f => ?recharge, fun o w rest => ?priority, ?sample, ?refill⟩
  case otherOutput =>
    exact runs_of_liveLift (fun _ => rfl) fun d hport => (d.evaluate o).1.deliverAll_of_not_slicePort o (d.evaluate o).2 hport
  case sliceOutput =>
    exact runs_of_liveLift (fun _ => rfl) fun d hport => (d.evaluate o).1.deliverAll_of_slicePort o s (d.evaluate o).2 hport
  case recharge =>
    exact runs_of_liveLift (fun _ => rfl) fun d ⟨hfirst, hmay⟩ => effCellRecharge_of_allowed inp out cls f d hfirst hmay
  case priority =>
    exact runs_of_liveLift (fun _ => rfl) fun d hcoming => effPriorityReachesArbiter_of_coming o w rest d hcoming
  case sample => exact runs_of_liveLift (fun _ => rfl) fun _ _ => rfl
  case refill => exact runs_of_liveLift (fun _ => rfl) fun _ _ => rfl

end Sys2Proof.Machine
end

section
/-!
PROOFS. What lets the writes to gates and shapers through, and what a gate list's events do (R121 to R123, R126, R128).
-/

namespace Sys2Proof.Machine

open Sys2Proof

/-- GATE_COMMIT is let through for a sound shadow list while none is pending (R122, R123). -/
theorem actGateCommit_check_success (q : Nat) (c : Call) (v : Nat) (d : Dev) (hsound : (d.shadow q).ok = true)
    (hidle : d.get (Obj.gateStatus q) ≠ 2) : (actGateCommit q).check c v d = Status.success :=
  (if_neg (by simp [hsound])).trans (if_neg hidle)

/-- At its start instant the pending list becomes the running one and shows itself (R123). -/
theorem effGateListStart_of_due (q : Nat) (g : GateList) (t : Nat) (d : Dev) (hpending : (d.gate q).pending = some (g, t))
    (hdue : t ≤ d.time) :
    effGateListStart q d =
      ((d.setGate q fun _ => { running := some g, pending := none }).put (Obj.gateStatus q) 1).showList q g := by
  simp only [effGateListStart, hpending]
  exact if_pos hdue

/-- A running list shows the entry of its present position (R121). -/
theorem effGateEntryChange_of_running (q : Nat) (g : GateList) (d : Dev) (hrunning : (d.gate q).running = some g) :
    effGateEntryChange q d = d.put (Obj.gateCurrentEntry q) (entryAt g.entries 0 (g.pos d.time)).1 := by
  simp only [effGateEntryChange, hrunning]

/-- A shaper's object takes any value in range, but a response class no rate of 0 (R128). -/
theorem actShaper_check_success (q cls : Nat) (w : ShaperObj) (c : Call) (v : Nat) (d : Dev)
    (hrate : w = .rate → v = 0 → cls < 4) : (actShaper q cls w).check c v d = Status.success :=
  if_neg fun ⟨hw, hzero, hresponse⟩ => absurd (hrate hw hzero) (Nat.not_lt.2 hresponse)

/-- Settles O22, write by write and event by event. -/
theorem prioritiesAndGatesComplete : Obligations.PrioritiesAndGatesComplete := by
  unfold Obligations.PrioritiesAndGatesComplete
  refine ⟨fun c p v => ?inputWeight, fun c p v => ?classPriority, fun c q v => ?gateCommit, fun q g t => ?listStart,
    fun q g => ?entryChange, fun c q v => ?gateEnable, fun c q cls w v => ?shaper⟩
  case inputWeight =>
    exact writes_of_writeRow (fun _ => rfl) (fun _ _ => rfl) (by simp only [actPriority, if_true]) fun _ => rfl
  case classPriority =>
    exact writes_of_writeRow (fun _ => rfl) (fun _ _ => rfl) (by simp only [actPriority, Bool.false_eq_true, if_false]) fun _ => rfl
  case gateCommit =>
    exact writes_of_writeRow (fun _ => rfl) (fun d ⟨hsound, hidle⟩ => actGateCommit_check_success q c _ d hsound hidle)
      (by dsimp only [actGateCommit]) fun _ => rfl
  case listStart =>
    exact runs_of_liveLift (fun _ => rfl) fun d ⟨hpending, hdue⟩ => effGateListStart_of_due q g t d hpending hdue
  case entryChange => exact runs_of_liveLift (fun _ => rfl) fun d hrunning => effGateEntryChange_of_running q g d hrunning
  case gateEnable =>
    exact writes_of_writeRow (fun _ => rfl) (fun _ _ => rfl) (funext fun _ => funext fun _ => rfl) fun _ => rfl
  case shaper =>
    exact writes_of_writeRow (fun _ => rfl) (fun d hrate => actShaper_check_success q cls w c _ d hrate)
      (funext fun _ => funext fun _ => rfl) fun _ => rfl

end Sys2Proof.Machine
end

section
/-!
PROOFS. What becomes of a whole message at a quay's ingress (R36, R106, R265, R272, R279, R321, R353).
-/

namespace Sys2Proof.Machine

open Sys2Proof

/-- A request is taken at its ingress: its quay is UP and receives its channel, the device is not in Lull, no window or lack of IDE
stops the quay's requests, and the governor holds nothing back that it meters (R36, R106, R321, R353). -/
structure Dev.TakesRequest (d : Dev) (q : Nat) (m : Msg) : Prop where
  up : d.isUp q = true
  receives : d.receives q m.chan = true
  request : isResponse m.chan = false
  awake : d.power ≠ 1
  noWindow : d.quayWindow q = false
  ide : (d.ideStops q && !toDevice q m) = false
  unmetered : (d.metered && meteredMsg m) = false

/-- A request that is taken does not wait at its ingress. -/
theorem Dev.TakesRequest.not_waits {d : Dev} {q : Nat} {m : Msg} (h : d.TakesRequest q m) :
    ¬ (d.quayWindow q = true ∨ (d.ideStops q = true ∧ (!toDevice q m) = true) ∨ (d.metered = true ∧ meteredMsg m = true)) := by
  rw [← Bool.and_eq_true, ← Bool.and_eq_true, h.noWindow, h.ide, h.unmetered]
  simp

/-- A request on a quay that is UP ends Lull, and is admitted as any other (R36). -/
theorem effMessageAdmission_of_lull (q : Nat) (m : Msg) (d : Dev) (hlull : d.power = 1) (hup : d.isUp q = true)
    (hrequest : isResponse m.chan = false) : effMessageAdmission q m d = d.endLull.admitMessage q m :=
  congrArg (Dev.admitMessage q m) (if_pos ⟨hlull, hup, by simp [hrequest]⟩)

/-- An answer, which ends no Lull, is admitted unchecked, unless it crosses 4 KiB (R106, R272). -/
theorem effMessageAdmission_of_response (q : Nat) (m : Msg) (d : Dev) (hup : d.isUp q = true)
    (hreceives : d.receives q m.chan = true) (hresponse : isResponse m.chan = true) :
    effMessageAdmission q m d =
      let e := d.payloadIn q m.len (d.msgWho q (d.levelOf q m) m)
      if crosses4K m then e.malformed q m else e.admitUnchecked q (d.levelOf q m) m := by
  have hnoLull : effMessageAdmission q m d = d.admitMessage q m :=
    congrArg (Dev.admitMessage q m) (if_neg fun hends => by simp [hresponse] at hends)
  have hopen : ¬ ((!d.isUp q || !d.receives q m.chan) = true) := by simp [hup, hreceives]
  exact hnoLull.trans ((if_neg hopen).trans (if_pos hresponse))

/-- A request that is taken is dropped when it crosses 4 KiB (R272), goes on unchecked when it is no access, is held when its
master is impounded at its input (R279), and is else checked there (R265). -/
theorem effMessageAdmission_of_takesRequest (q : Nat) (m : Msg) (d : Dev) (h : d.TakesRequest q m) :
    effMessageAdmission q m d =
      let level := d.levelOf q m
      let e := d.payloadIn q m.len (d.msgWho q level m)
      let i := d.inputOf q level m
      if crosses4K m then e.malformed q m
      else if kindOfMsg m = 0 then e.admitUnchecked q level m
      else (d.heldBy q i m).elim (e.checkMsg (d.checker i (b2n (d.role q == 3))) q level m) fun ms =>
        e.setCustoms fun c => { c with held := c.held ++ [{ master := ms, input := i, quay := q, msg := m, level := level }] } := by
  have hnoLull : effMessageAdmission q m d = d.admitMessage q m :=
    congrArg (Dev.admitMessage q m) (if_neg fun hends => h.awake hends.1)
  have hopen : ¬ ((!d.isUp q || !d.receives q m.chan) = true) := by simp [h.up, h.receives]
  have hrequest : ¬ (isResponse m.chan = true) := by simp [h.request]
  refine hnoLull.trans ((if_neg hopen).trans ((if_neg hrequest).trans ((if_neg h.not_waits).trans ?_)))
  cases hheld : d.heldBy q (d.inputOf q (d.levelOf q m) m) m <;> simp only [hheld, Option.elim]

/-- Settles O23: an answer by whether it crosses 4 KiB; a request out of Lull by that, its kind and the hold on its master. -/
theorem admissionComplete : Obligations.AdmissionComplete := by
  unfold Obligations.AdmissionComplete
  refine ⟨fun q m => ?lull, fun q m => ?answer, fun q m => ?malformedRequest, fun q m => ?malformedAnswer, fun q m => ?noAccess,
    fun q m ms => ?held, fun q m => ?checked⟩
  case lull =>
    exact runs_of_liveLift (fun _ => rfl) fun d ⟨hlull, hup, _, hrequest⟩ => effMessageAdmission_of_lull q m d hlull hup hrequest
  case answer =>
    exact runs_of_liveLift (fun _ => rfl) fun d ⟨hup, hreceives, hresponse, hwhole⟩ =>
      (effMessageAdmission_of_response q m d hup hreceives hresponse).trans (if_neg (by simp [hwhole]))
  case malformedRequest =>
    exact runs_of_liveLift (fun _ => rfl) fun d ⟨hup, hreceives, hrequest, hawake, hwindow, hide, hmeter, hcrosses⟩ =>
      (effMessageAdmission_of_takesRequest q m d ⟨hup, hreceives, hrequest, hawake, hwindow, hide, hmeter⟩).trans
        (if_pos hcrosses)
  case malformedAnswer =>
    exact runs_of_liveLift (fun _ => rfl) fun d ⟨hup, hreceives, hresponse, hcrosses⟩ =>
      (effMessageAdmission_of_response q m d hup hreceives hresponse).trans (if_pos hcrosses)
  case noAccess =>
    exact runs_of_liveLift (fun _ => rfl) fun d ⟨hup, hreceives, hrequest, hawake, hwindow, hide, hmeter, hwhole, hkind⟩ =>
      (effMessageAdmission_of_takesRequest q m d ⟨hup, hreceives, hrequest, hawake, hwindow, hide, hmeter⟩).trans
        ((if_neg (by simp [hwhole])).trans (if_pos hkind))
  case held =>
    exact runs_of_liveLift (fun _ => rfl) fun d ⟨hup, hreceives, hrequest, hawake, hwindow, hide, hmeter, hwhole, hkind, hheld⟩ =>
      (effMessageAdmission_of_takesRequest q m d ⟨hup, hreceives, hrequest, hawake, hwindow, hide, hmeter⟩).trans
        ((if_neg (by simp [hwhole])).trans ((if_neg hkind).trans (by rw [hheld, Option.elim_some])))
  case checked =>
    exact runs_of_liveLift (fun _ => rfl) fun d ⟨hup, hreceives, hrequest, hawake, hwindow, hide, hmeter, hwhole, hkind, hheld⟩ =>
      (effMessageAdmission_of_takesRequest q m d ⟨hup, hreceives, hrequest, hawake, hwindow, hide, hmeter⟩).trans
        ((if_neg (by simp [hwhole])).trans ((if_neg hkind).trans (by rw [hheld, Option.elim_none])))

end Sys2Proof.Machine
end

section
/-!
PROOFS. The fields of home keys, and the home slice of a line by the kind of its key (R136, R137).
-/

namespace Sys2Proof.Machine

open Sys2Proof

/-- The fields of the key of a line outside the Basins (R136). -/
theorem bits_privateKey {berth line : Nat} (hberth : berth < 1024) (hline : line < 2 ^ 38) :
    bits (privateKey berth line) 63 1 = 0 ∧ bits (privateKey berth line) 48 15 = 0 ∧
    bits (privateKey berth line) 38 10 = berth ∧ bits (privateKey berth line) 0 38 = line := by
  simp only [bits, privateKey]
  omega

/-- The fields of the key of a Basin's line (R136). -/
theorem bits_basinKey {b line : Nat} (hbasin : b < 64) (hline : line < 2 ^ 42) :
    bits (basinKey b line) 63 1 = 1 ∧ bits (basinKey b line) 54 9 = 0 ∧ bits (basinKey b line) 48 6 = b ∧
    bits (basinKey b line) 42 6 = 0 ∧ bits (basinKey b line) 0 42 = line := by
  simp only [bits, basinKey]
  omega

/-- K[63] tells the key of a Basin's line. -/
theorem isBasinKey_iff (k : Nat) : isBasinKey k = true ↔ bits k 63 1 = 1 :=
  beq_iff_eq

/-- The model's fold of a key is the one that R137 takes. -/
theorem foldKey_eq_foldOf (k : Nat) : foldKey k = foldOf k :=
  (Nat.xor_assoc _ _ _).symm

/-- The home of a line outside the Basins is its byte of HOME_MAP (R137). -/
theorem Dev.homeOf_of_private (d : Dev) {k : Nat} (hprivate : bits k 63 1 = 0) :
    d.homeOf k = byteAt (d.get Obj.homeMap) (foldOf k % 256) := by
  have hkind : ¬ isBasinKey k = true := by simp [isBasinKey_iff, hprivate]
  rw [Dev.homeOf, if_neg hkind, foldKey_eq_foldOf]

/-- The home of a Basin's line is a slice of the Basin's home set (R137). -/
theorem Dev.homeOf_of_basin (d : Dev) {k b : Nat} (hkind : bits k 63 1 = 1) (hbasin : bits k 48 6 = b) :
    d.homeOf k = (d.basin b).setBase + foldOf k % (d.basin b).setSize := by
  have hnumber : basinOfKey k = b := hbasin
  rw [Dev.homeOf, if_pos ((isBasinKey_iff k).2 hkind), foldKey_eq_foldOf, hnumber]

/-- Settles O12, by the fields of the two kinds of key and the home of each. -/
theorem homeSlices : Obligations.HomeSlices := by
  unfold Obligations.HomeSlices
  refine ⟨fun d berth line hberth hline => ?privateLine, fun d b line hbasin hline => ?basinLine⟩
  case privateLine =>
    obtain ⟨hkind, hzero, hnumber, hindex⟩ := bits_privateKey hberth hline
    exact ⟨hkind, hzero, hnumber, hindex, d.homeOf_of_private hkind⟩
  case basinLine =>
    obtain ⟨hkind, hhigh, hnumber, hlow, hindex⟩ := bits_basinKey hbasin hline
    exact ⟨hkind, hhigh, hnumber, hlow, hindex, d.homeOf_of_basin hkind hnumber⟩

end Sys2Proof.Machine
end

section
/-!
PROOFS. What requests, snoops, their answers, evictions and the ends of write-backs do at a slice (R146 to R159, R201 to R205).
-/

namespace Sys2Proof.Machine

open Sys2Proof

/-- A ring snoop that has arrived at a slice in service is answered there (R154). -/
theorem effRingSnoopArrival_of_found (n k : Nat) (d : Dev) {r : RingSnoop}
    (hfound : d.coh.snoops.find? (fun r => r.target == n && r.key == k) = some r) (hopen : d.sliceFenced n = false) :
    effRingSnoopArrival n k d = (d.setCoh fun c => { c with snoops := c.snoops.erase r }).answerSnoop n r := by
  simp only [effRingSnoopArrival, hfound, hopen, Bool.false_eq_true, if_false]

/-- A slice's answer reaches a home in service, whose queues then go on (R152). -/
theorem effSnoopAnswer_of_ring (s k : Nat) (n : Fin 16) (d : Dev) {x : RingAnswer} (hopen : d.sliceFenced s = false)
    (hfound : d.coh.answers.find? (fun x => x.home == s && x.origin == n.val && x.key == k) = some x) :
    effSnoopAnswer s k (.ring n) d =
      ((d.setCoh fun c => { c with answers := c.answers.erase x }).ringAnswer s x).pump s := by
  simp only [effSnoopAnswer, hopen, Bool.false_eq_true, if_false, hfound]

/-- The transaction of the line awaits no near copy any more. -/
def Dev.nearAcked (s k : Nat) (d : Dev) : Dev := d.setTx s k fun t => { t with near := none }

/-- The device with the near copy of `t`'s line installed in slice `n`, if the home still tracks the line or is `n` itself, `n` is
in service and it has a way (R150). -/
def Dev.nearInstalled (s k n : Nat) (t : Tx) (d : Dev) : Option Dev :=
  if ((d.dirEnt s k).isSome || n == s) && !d.sliceFenced n then d.install n { key := k, st := .f, data := t.data.getD 0 } else none

/-- The acknowledgement of a near copy that could not be installed ends the wait alone (R150). -/
theorem effNearCopyAck_of_not_installed (s k : Nat) (d : Dev) {t : Tx} {n : Nat} (hopen : d.sliceFenced s = false)
    (htx : d.tx s k = some t) (hnear : t.near = some n) (hnone : (d.nearAcked s k).nearInstalled s k n t = none) :
    effNearCopyAck s k d = (d.nearAcked s k).pump s := by
  unfold Dev.nearInstalled Dev.nearAcked at hnone
  simp only [effNearCopyAck, hopen, Bool.false_eq_true, if_false, htx, hnear, hnone]
  rfl

/-- The acknowledgement of a near copy that was installed lets the home's directory note it, and the former holder shares the
line (R150). -/
theorem effNearCopyAck_of_installed (s k : Nat) (d : Dev) {t : Tx} {n : Nat} {e : Dev} (hopen : d.sliceFenced s = false)
    (htx : d.tx s k = some t) (hnear : t.near = some n) (hsome : (d.nearAcked s k).nearInstalled s k n t = some e) :
    effNearCopyAck s k d = ((if n = s then e else e.setDir s k fun x => { x with peer := true }).demote n k).pump s := by
  unfold Dev.nearInstalled Dev.nearAcked at hsome
  simp only [effNearCopyAck, hopen, Bool.false_eq_true, if_false, htx, hnear, hsome]

/-- A BIConflict for a read that has arrived is acknowledged (R159). -/
theorem effBiconflict_of_arrived_read (s k h : Nat) (d : Dev) (hopen : d.sliceFenced s = false)
    (harrived : (d.slice s).conflict.any (fun p => p.1 == k && p.2.acc.host == h) = true) :
    effBiconflict s k h .read d = d.send (.biConflictAck h k) :=
  (if_neg (by simp [hopen])).trans (if_pos harrived)

/-- A BIConflict for a write that has not completed is kept, and a write that waits behind the transaction overtakes it (R159). -/
theorem effBiconflict_of_open_write (s k h : Nat) (d : Dev) (hopen : d.sliceFenced s = false)
    (hcrossed : ((d.tx s k).map fun t : Tx => t.crossed.contains h).getD false = false) :
    effBiconflict s k h .write d =
      (d.setSlice s fun x => { x with conflicts := x.conflicts ++ [(k, h, true)] }).overtake s k h :=
  (if_neg (by simp [hopen])).trans ((if_neg (ne_true_of_eq_false hcrossed)).trans (if_pos rfl))

/-- A peer drops its clean copy of a Basin's line (R155). -/
theorem effPeerCopyDrop_of_clean (s k : Nat) (d : Dev) {l : SLine} (hline : d.line s k = some l) (hbasin : isBasinKey k = true)
    (hopen : d.sliceFenced s = false) (hpeer : d.homeOf k ≠ s) (hclean : l.st = .s ∨ l.st = .f) :
    effPeerCopyDrop s k d = d.dropLine s k := by
  simp only [effPeerCopyDrop, hline]
  exact if_pos ⟨hbasin, by simp [hopen], hpeer, hclean⟩

/-- A line in M that no transaction holds is evicted into a victim buffer with room (R156). -/
theorem effMLineEviction_of_room (s k : Nat) (d : Dev) {l : SLine} (hline : d.line s k = some l) (hmodified : l.st = .m)
    (hopen : d.sliceFenced s = false) (hroom : (d.slice s).victims.length < 64) (hfree : (d.tx s k).isNone = true) :
    effMLineEviction s k d = d.evictM s l := by
  simp only [effMLineEviction, hline]
  exact if_pos ⟨hmodified, by simp [hopen], hroom, hfree⟩

/-- The write-back of a line ends as it was performed or not (R156, R204). -/
theorem effWriteBackComplete_of_found (s k : Nat) (performed : Bool) (d : Dev) {a : MemAcc}
    (hfound : d.pool.accesses.find? (fun a => a.slice == s && a.key == k && kindOf a == 1 && a.write) = some a) :
    effWriteBackComplete s k performed d =
      if performed then (d.closeOrig a.id).memDone a 0 false else ((d.closeOrig a.id).memFailed a 3).abortFailed := by
  simp only [effWriteBackComplete, hfound]

/-- A mark of poison that was written is done (R205). -/
theorem effPoisonedWriteComplete_of_found (m line : Nat) (d : Dev) {a : MemAcc}
    (hfound : d.pool.accesses.find? (fun a => a.dev == m && a.line == line && a.goal == MemFor.poison) = some a) :
    effPoisonedWriteComplete m line d = (d.closeOrig a.id).memDone a 0 false := by
  simp only [effPoisonedWriteComplete, hfound]

/-- Settles O32, event by event: under its condition each event's effect takes the branch that the statement writes out. -/
theorem coherenceEventsComplete : Obligations.CoherenceEventsComplete := by
  unfold Obligations.CoherenceEventsComplete
  refine ⟨fun b line r => ?basinRequest, fun a => ?privateWrite, fun n k r => ?ringSnoop, fun s n k x => ?ringAnswer,
    fun s k h data => ?hostAnswer, fun s k t n => ?nearCopyNotInstalled, fun s k t n e => ?nearCopyInstalled,
    fun s k h => ?conflictRead, fun s k h => ?conflictWrite, fun s k l => ?peerDrop, fun s k l => ?eviction,
    fun s k a => ?writtenBack, fun s k a => ?notWrittenBack, fun m line a => ?poisonWritten⟩
  case basinRequest => exact runs_of_liveLift (fun _ => rfl) fun _ htaken => if_neg (ne_true_of_eq_false htaken)
  case privateWrite =>
    exact runs_of_liveLift (fun _ => rfl) fun _ ⟨hwrite, hprivate, htaken⟩ => if_pos (by simp [hwrite, hprivate, htaken])
  case ringSnoop =>
    exact runs_of_liveLift (fun _ => rfl) fun d ⟨hfound, hopen⟩ => effRingSnoopArrival_of_found n k d hfound hopen
  case ringAnswer =>
    exact runs_of_liveLift (fun _ => rfl) fun d ⟨hopen, hfound⟩ => effSnoopAnswer_of_ring s k n d hopen hfound
  case hostAnswer => exact runs_of_liveLift (fun _ => rfl) fun _ hopen => if_neg (ne_true_of_eq_false hopen)
  case nearCopyNotInstalled =>
    exact runs_of_liveLift (fun _ => rfl) fun d ⟨hopen, htx, hnear, hnone⟩ =>
      effNearCopyAck_of_not_installed s k d hopen htx hnear hnone
  case nearCopyInstalled =>
    exact runs_of_liveLift (fun _ => rfl) fun d ⟨hopen, htx, hnear, hsome⟩ =>
      effNearCopyAck_of_installed s k d hopen htx hnear hsome
  case conflictRead =>
    exact runs_of_liveLift (fun _ => rfl) fun d ⟨hopen, harrived⟩ => effBiconflict_of_arrived_read s k h d hopen harrived
  case conflictWrite =>
    exact runs_of_liveLift (fun _ => rfl) fun d ⟨hopen, hcrossed⟩ => effBiconflict_of_open_write s k h d hopen hcrossed
  case peerDrop =>
    exact runs_of_liveLift (fun _ => rfl) fun d ⟨hline, hbasin, hopen, hpeer, hclean⟩ =>
      effPeerCopyDrop_of_clean s k d hline hbasin hopen hpeer hclean
  case eviction =>
    exact runs_of_liveLift (fun _ => rfl) fun d ⟨hline, hmodified, hopen, hroom, hfree⟩ =>
      effMLineEviction_of_room s k d hline hmodified hopen hroom hfree
  case writtenBack =>
    exact runs_of_liveLift (fun _ => rfl) fun d hfound => effWriteBackComplete_of_found s k true d hfound
  case notWrittenBack =>
    exact runs_of_liveLift (fun _ => rfl) fun d hfound => effWriteBackComplete_of_found s k false d hfound
  case poisonWritten =>
    exact runs_of_liveLift (fun _ => rfl) fun d hfound => effPoisonedWriteComplete_of_found m line d hfound

end Sys2Proof.Machine
end

section
/-!
PROOFS. What lets the writes to a Basin through, and what its walk's end and a snoop timeout do (R163 to R173).
-/

namespace Sys2Proof.Machine

open Sys2Proof

/-- What the command's own conditions say of its operands alone holds for the whole of its write. -/
theorem writes_of_operands {i : Instr} {c : Call} {o w : Nat} {own : Dev → Prop} {f : Nat → Dev → Dev} {r : Dev → Reply}
    {after : Dev → Dev} {p : Prop} (hoperands : ∀ d : Dev, own d → p) (hwrites : p → Writes i c o w own f r after) :
    Writes i c o w own f r after :=
  fun s hadmits hown => hwrites (hoperands s.dev hown) s hadmits hown

/-- BASIN_ENABLE = 1 is let through unless the Basin is UNUSED with a FENCED slice in its set (R164). -/
theorem actBasinEnable_check_success (b : Nat) (c : Call) (v : Nat) (d : Dev)
    (hset : (d.nextSet b).any (fun s => d.get (Obj.sliceState s) == 4) = false ∨ d.basinState b ≠ 0) :
    (actBasinEnable b).check c v d = Status.success := by
  refine if_neg ?_
  rintro ⟨-, hunused, hfenced⟩
  obtain hwhole | hused := hset
  · simp [hwhole] at hfenced
  · exact hused hunused

/-- BASIN_ENABLE = 0 is let through at any time (R164). -/
theorem actBasinEnable_check_of_zero (b : Nat) (c : Call) {v : Nat} (d : Dev) (hzero : v = 0) :
    (actBasinEnable b).check c v d = Status.success := by
  refine if_neg ?_
  rintro ⟨hone, -⟩
  omega

/-- BASIN_ENABLE = 1 enables an UNUSED Basin in a service mode, and is only stored otherwise (R164). -/
theorem actBasinEnable_effect_one (b : Nat) (c : Call) (n : Nat) (d : Dev) :
    (actBasinEnable b).effect c 1 n d =
      let e := d.put (Obj.basinEnable b) 1
      if e.basinState b = 0 ∧ e.service = true then e.enableBasin b else e := by
  simp only [actBasinEnable, if_true]

/-- BASIN_ENABLE = 0 starts the reset walk of a Basin that is UP or DOWN in a service mode, an UP one's requests having ended, and
otherwise ends the wait to be enabled (R164, R168, R173). -/
theorem actBasinEnable_effect_zero (b : Nat) (c : Call) (n : Nat) (d : Dev) :
    (actBasinEnable b).effect c 0 n d =
      let e := d.put (Obj.basinEnable b) 0
      if e.service = true ∧ (e.basinState b = 1 ∨ e.basinState b = 2) then
        (if e.basinState b = 1 then e.endBasin b else e).startWalkOf b [] true
      else e.setBasin b fun x => { x with enabling := false } := by
  simp only [actBasinEnable, Nat.zero_ne_one, if_false]

/-- A Basin's configuration is let through: its home set where it is sound and the Basin is not live, and of a live Basin's members
none is taken away (R163, R165). -/
theorem actBasinConfig_check_success (b : Nat) (w : BasinObj) (c : Call) (v : Nat) (d : Dev)
    (hbase : w = .homeSetBase → setOk d.part v (d.get (Obj.homeSetSize b)) = true ∧ d.basinLive b = false)
    (hsize : w = .homeSetSize → setOk d.part (d.get (Obj.homeSetBase b)) v = true ∧ d.basinLive b = false)
    (hmembers : w = .members → (d.basinLive b && Nat.land (d.get (Obj.members b)) v != d.get (Obj.members b)) = false) :
    (actBasinConfig b w).check c v d = Status.success := by
  cases w with
  | homeSetBase =>
    obtain ⟨hsound, hrests⟩ := hbase rfl
    exact (if_neg (by simp [hsound])).trans (if_neg (by simp [hrests]))
  | homeSetSize =>
    obtain ⟨hsound, hrests⟩ := hsize rfl
    exact (if_neg (by simp [hsound])).trans (if_neg (by simp [hrests]))
  | members => exact if_neg (ne_true_of_eq_false (hmembers rfl))
  | snoopTimeout => rfl
  | nearCopy => rfl

/-- BASIN_RESET is let through for a DOWN Basin in a service mode with no slice of its set FENCED or PARKING (R170). -/
theorem actBasinReset_check_success (b : Nat) (c : Call) (v : Nat) (d : Dev) (hdown : d.basinState b = 2)
    (hservice : d.service = true) (hready : d.setBusy b = false) : (actBasinReset b).check c v d = Status.success :=
  (if_neg (by simp [hdown, hservice])).trans (if_neg (ne_true_of_eq_false hready))

/-- BASIN_OPEN is let through for a Basin in FLUSH_WINDOW in a service mode with no slice of its set FENCED (R172). -/
theorem actBasinOpen_check_success (b : Nat) (c : Call) (v : Nat) (d : Dev) (hwindow : d.basinState b = 4)
    (hservice : d.service = true) (hready : d.setFenced b = false) : (actBasinOpen b).check c v d = Status.success :=
  (if_neg (by simp [hwindow, hservice])).trans (if_neg (ne_true_of_eq_false hready))

/-- A snoop that times out in a Basin that is UP takes it DOWN, and Type 28 carries the state it is in then (R166, R167). -/
theorem effSnoopTimeoutExpiry_of_up (s k : Nat) (who : SnoopTarget) (d : Dev) (hout : d.outstanding s k who = true)
    (hservice : d.service = true) (hup : d.basinState (basinOfKey k) = 1) :
    effSnoopTimeoutExpiry s k who d =
      let d := d.basinFall (basinOfKey k) (timeoutCause who)
      d.err { typ := 28, inst := basinOfKey k, unit := basinOfKey k, report := d.basinPayload (basinOfKey k) } :=
  (if_pos ⟨hout, hservice⟩).trans (if_pos hup)

/-- Settles O33, command and event by event. -/
theorem basinsComplete : Obligations.BasinsComplete := by
  unfold Obligations.BasinsComplete
  refine ⟨fun c b v => ?enable, fun c b v => ?disable, fun c b w v => ?config, fun c b v => ?reset, fun b => ?walkEnd,
    fun c b v => ?opening, fun s k who => ?timeout⟩
  case enable =>
    refine writes_of_operands (fun _ ⟨hone, _⟩ => hone) fun hone => ?_
    exact writes_of_writeRow (fun _ => rfl) (fun d ⟨_, hset⟩ => actBasinEnable_check_success b c _ d hset)
      (by rw [hone]; exact funext fun n => funext fun d => actBasinEnable_effect_one b c n d) fun _ => rfl
  case disable =>
    refine writes_of_operands (fun _ hzero => hzero) fun hzero => ?_
    exact writes_of_writeRow (fun _ => rfl) (fun d _ => actBasinEnable_check_of_zero b c d hzero)
      (by rw [hzero]; exact funext fun n => funext fun d => actBasinEnable_effect_zero b c n d) fun _ => rfl
  case config =>
    exact writes_of_writeRow (fun _ => rfl) (fun d ⟨hbase, hsize, hmembers⟩ =>
      actBasinConfig_check_success b w c _ d hbase hsize hmembers) (by dsimp only [actBasinConfig]) fun _ => rfl
  case reset =>
    exact writes_of_writeRow (fun _ => rfl) (fun d ⟨hdown, hservice, hready⟩ =>
      actBasinReset_check_success b c _ d hdown hservice hready) (by dsimp only [actBasinReset]) fun _ => rfl
  case walkEnd =>
    exact runs_of_liveLift (fun _ => rfl) fun d ⟨hresetting, hservice, hwalked, hready⟩ =>
      if_pos (by simp [hresetting, hservice, hwalked, hready])
  case opening =>
    exact writes_of_writeRow (fun _ => rfl) (fun d ⟨hwindow, hservice, hready⟩ =>
      actBasinOpen_check_success b c _ d hwindow hservice hready) (by dsimp only [actBasinOpen]) fun _ => rfl
  case timeout =>
    exact runs_of_liveLift (fun _ => rfl) fun d ⟨hout, hservice, hup⟩ =>
      effSnoopTimeoutExpiry_of_up s k who d hout hservice hup

end Sys2Proof.Machine
end

section
/-!
PROOFS. A write whose effect or answer depends on the state that it finds.
-/

namespace Sys2Proof.Machine

open Sys2Proof

/-- A write's commit changes nothing of the pool. -/
@[simp] theorem Dev.commitWrite_pool (c : Call) (o : Nat) (r : Reply) (d : Dev) : (d.commitWrite c o r).pool = d.pool := rfl

/-- A write row completes where the object's check lets it through, with the effect and the answer that its own conditions leave. -/
theorem writes_of_writeRow_under {i : Instr} {c : Call} {o w : Nat} {own : Dev → Prop} {a : Act}
    (arm : ∀ s : State, exec i s = writeRow a c o w s)
    (hcheck : ∀ d : Dev, own d → a.check c (valueOf c w) d = Status.success) {f : Nat → Dev → Dev} {r : Dev → Reply}
    (hreply : ∀ d : Dev, own d → a.reply c (valueOf c w) d.nextSeq d = r d)
    (heffect : ∀ d : Dev, own d →
      a.effect c (valueOf c w) d.nextSeq (d.commitWrite c o (r d)) = f d.nextSeq (d.commitWrite c o (r d))) :
    Writes i c o w own f r := by
  intro s hadmits hown
  rw [arm, writeRow_accepted a c o w s hadmits (hcheck s.dev hown), hreply s.dev hown, heffect s.dev hown]

end Sys2Proof.Machine
end

section
/-!
PROOFS. What lets a capacity write through, and what the waits, answers, releases and zeroing of capacity do (R194 to R200).
-/

namespace Sys2Proof.Machine

open Sys2Proof

/-- The request that waits for zeroed pages of the target settles (R195). -/
theorem effZeroWaitExpiry_of_waiting (target : Nat) (d : Dev) {r : CapReq}
    (hwaiting : d.pool.caps.find? (fun r => r.target == target && r.zeroWait) = some r) :
    effZeroWaitExpiry target d = d.settleCap r := by
  simp only [effZeroWaitExpiry, hwaiting]

/-- An extent of VALID pages of a berth may be announced (R198). -/
theorem actExtentAnnounce_check_success (c : Call) (v : Nat) (d : Dev) (hberth : bits v 0 16 < 1024)
    (hin : d.inBerth (bits v 0 16) (bits v 32 32) (bits v 64 32) = true)
    (hvalid : ((List.range (bits v 64 32)).all fun i =>
      entryValid (d.ledgerAt (d.get (Obj.ledgerFirst (bits v 0 16)) + bits v 32 32 + i))) = true) :
    actExtentAnnounce.check c v d = Status.success :=
  if_pos ⟨hberth, hin, hvalid⟩

/-- A host's answer to an announced extent ends its wait; one that it does not accept is declined (R197). -/
theorem effHostExtentResponse_of_announced (n first : Nat) (accept : Bool) (d : Dev) {x : Extent}
    (hannounced : d.extentAt n first = some x) :
    effHostExtentResponse n first accept d =
      if accept then d.setPool fun p => { p with extents := p.extents.erase x } else d.declineExtent x := by
  simp only [effHostExtentResponse, hannounced]

/-- An announced extent that its host does not answer is declined (R197). -/
theorem effAddResponseExpiry_of_announced (n first : Nat) (d : Dev) {x : Extent} (hannounced : d.extentAt n first = some x) :
    effAddResponseExpiry n first d = d.declineExtent x := by
  simp only [effAddResponseExpiry, hannounced]

/-- A page all of whose lines were zeroed is FREE and clean, its failures are forgotten, and requests that wait for pages are tried
again (R195, R200, R205). -/
theorem effPageZeroDone_of_zeroed (m p : Nat) (d : Dev) {z : Nat × Nat × Nat × Nat}
    (hzeroing : d.crane.zeroing.find? (fun z => z.1 == m && z.2.1 == p && z.2.2.1 == 32) = some z) :
    effPageZeroDone m p true d =
      (let d := (d.endOwn (· == .zero m p)).setCrane fun c => { c with zeroing := c.zeroing.erase z }
       (((d.setPage m p 0).cleanLines m (d.dpaLine m p 0) 32768).setPool fun x => { x with
         zeroFails := Tab.set 0 x.zeroFails (pageKey m p) 0 }).retryCaps) := by
  simp only [effPageZeroDone, hzeroing, if_true]

/-- Settles O35, command and event by event: what each finds waiting decides its branch, and ALLOC_GRANT is answered from the state
before its commit. -/
theorem capacityCompletes : Obligations.CapacityCompletes := by
  unfold Obligations.CapacityCompletes
  refine ⟨fun c v => ?grant, fun target r => ?zeroWait, fun c v => ?announce, fun n first x => ?accept, fun n first x => ?decline,
    fun n first x => ?lapse, fun n first pages => ?release, fun m p z => ?zeroed⟩
  case grant =>
    exact writes_of_writeRow_under (fun _ => rfl) (fun _ _ => rfl) (fun _ _ => rfl) fun _ _ => rfl
  case zeroWait => exact runs_of_liveLift (fun _ => rfl) fun d hwaiting => effZeroWaitExpiry_of_waiting target d hwaiting
  case announce =>
    exact writes_of_writeRow (fun _ => rfl) (fun d ⟨hberth, hin, hvalid⟩ =>
      actExtentAnnounce_check_success c _ d hberth hin hvalid) (by dsimp only [actExtentAnnounce]) fun _ => rfl
  case accept =>
    exact runs_of_liveLift (fun _ => rfl) fun d hannounced => effHostExtentResponse_of_announced n first true d hannounced
  case decline =>
    exact runs_of_liveLift (fun _ => rfl) fun d hannounced => effHostExtentResponse_of_announced n first false d hannounced
  case lapse => exact runs_of_liveLift (fun _ => rfl) fun d hannounced => effAddResponseExpiry_of_announced n first d hannounced
  case release => exact runs_of_liveLift (fun _ => rfl) fun _ hin => if_pos hin
  case zeroed => exact runs_of_liveLift (fun _ => rfl) fun d hzeroing => effPageZeroDone_of_zeroed m p d hzeroing

end Sys2Proof.Machine
end

section
/-!
PROOFS. What lets a migration's writes through, and what the ends of its bales, the release of its source and tiering do (R211 to
R221).
-/

namespace Sys2Proof.Machine

open Sys2Proof

/-- A bale that is ready moves its migration on: toward the target, where a failed write may abort it, or back (R214, R217). -/
theorem effBaleDone_of_ready (slot p late : Nat) (d : Dev) {g : Mig}
    (hcopying : d.pool.migs.find? (fun g => g.slot == slot && g.copying) = some g) (hwhole : g.failed = false)
    (hready : d.baleReady g = true) :
    effBaleDone slot (.done p late) d =
      (let d := d.event (0xC300 + g.engine) 0x44 1 {}
       if g.reversing = true then d.baleBack g p late else (d.baleCopied g p).abortFailed) := by
  simp only [effBaleDone, hcopying, hwhole, hready, Bool.not_true, Bool.false_eq_true, if_false]

/-- A bale that could not be written turns its migration back, or is listed when it is copied back (R217). -/
theorem effBaleDone_of_failed (slot line cause : Nat) (d : Dev) {g : Mig}
    (hcopying : d.pool.migs.find? (fun g => g.slot == slot && g.copying) = some g) :
    effBaleDone slot (.failed line cause) d = d.baleFailed g line cause := by
  simp only [effBaleDone, hcopying]

/-- The device once the page that `x` lets go has no access left: the wait for it is over and it is in ZEROING (R199, R216). -/
def Dev.releasedPage (x : Releasing) (m p : Nat) (d : Dev) : Dev :=
  (d.setPool fun y => { y with releasing := y.releasing.erase x }).toZeroing m p

/-- The source page of a finishing migration, with no access left, goes to ZEROING, and the migration is done (R216). -/
theorem effSourcePageRelease_of_finishing (m p : Nat) (d : Dev) {x : Releasing} {g : Mig}
    (hreleasing : d.pool.releasing.find? (fun x => x.dev == m && x.page == p) = some x) (hclear : d.remains x = false)
    (hfinishing : (d.releasedPage x m p).pool.migs.find? (fun g => g.finishing && g.srcDev == m && g.srcPage == p) = some g) :
    effSourcePageRelease m p d = ((d.releasedPage x m p).freeMig g.slot).count Obj.migrationsDone 1 := by
  unfold Dev.releasedPage at *
  simp only [effSourcePageRelease, hreleasing, hclear, Bool.false_eq_true, if_false, hfinishing]

/-- MIGRATE_ABORT turns back the migration of the slot that it names (R217). -/
theorem actMigrateAbort_effect_of_active (c : Call) (v n : Nat) (d : Dev) {g : Mig}
    (hactive : d.pool.migs.find? (·.slot == v) = some g) : actMigrateAbort.effect c v n d = d.abortMig g := by
  simp only [actMigrateAbort, hactive]

/-- The sweep visits the entry `e` at index `i`, which does not migrate: it proposes the tier that the entry asks for and halves its
count (R220). -/
def Dev.sweepAt (i e : Nat) (d : Dev) : Dev :=
  let d := d.setPool fun p => { p with sweep := i + 1 }
  let d := match d.tierWanted e with
    | some t => d.tierPropose i t
    | none => d
  let e := d.ledgerAt i
  d.setPool fun p => { p with ledger := Tab.set 0 p.ledger i (setBits e 48 8 (entryAccess e / 2)) }

/-- While tiering runs, the sweep visits the next VALID entry (R220). -/
theorem effTierSweep_of_nextValid (i e : Nat) (d : Dev) (htiering : d.tiering = true)
    (hnext : d.nextValid d.pool.sweep = some (i, e)) (hrests : entryMigrating e = false) : effTierSweep d = d.sweepAt i e := by
  simp only [effTierSweep, htiering, if_true, hnext, hrests, Bool.false_eq_true, if_false]
  rfl

/-- Settles O37, command and event by event: what each finds under way decides its branch, and MIGRATE_ABORT finds after its commit
the migration that it found before. -/
theorem migrationCompletes : Obligations.MigrationCompletes := by
  unfold Obligations.MigrationCompletes
  refine ⟨fun c v => ?migrate, fun slot p late g => ?baleDone, fun slot line cause g => ?baleFailed, fun m p x g => ?release,
    fun c v g => ?abort, ?fold, fun i e => ?sweep⟩
  case migrate =>
    exact writes_of_writeRow (a := actMigrate) (fun _ => rfl) (fun _ hallowed => hallowed) (by dsimp only [actMigrate]) fun _ => rfl
  case baleDone =>
    exact runs_of_liveLift (fun _ => rfl) fun d ⟨hcopying, hwhole, hready⟩ =>
      effBaleDone_of_ready slot p late d hcopying hwhole hready
  case baleFailed => exact runs_of_liveLift (fun _ => rfl) fun d hcopying => effBaleDone_of_failed slot line cause d hcopying
  case release =>
    exact runs_of_liveLift (fun _ => rfl) fun d ⟨hreleasing, hclear, hfinishing⟩ =>
      effSourcePageRelease_of_finishing m p d hreleasing hclear hfinishing
  case abort =>
    exact writes_of_writeRow_under (fun _ => rfl) (fun _ ⟨hslot, _⟩ => if_pos hslot) (fun _ _ => rfl) fun d ⟨_, hactive⟩ =>
      actMigrateAbort_effect_of_active c _ _ _ (by rw [Dev.commitWrite_pool]; exact hactive)
  case fold => exact runs_of_liveLift (fun _ => rfl) fun _ htiering => if_pos htiering
  case sweep =>
    exact runs_of_liveLift (fun _ => rfl) fun d ⟨htiering, hnext, hrests⟩ =>
      effTierSweep_of_nextValid i e d htiering hnext hrests

end Sys2Proof.Machine
end

section
/-!
PROOFS. What the refill and the rounds of an engine do, and the end of a piece (R227, R228, R230, R236).
-/

namespace Sys2Proof.Machine

open Sys2Proof

/-- A piece whose reads and writes have all ended, the writes to its destination among them where its operation has one, settles its
queue (R230, R236). -/
theorem effPieceComplete_of_ended (i qid entry k e : Nat) (d : Dev) {q : Queue} {x : Desc} (hqueue : d.queue i qid = some q)
    (hflying : q.exec.find? (fun x => x.entry == entry && (x.flyingOn e).contains k) = some x)
    (hended : ((d.sendWrites q x k).accsOf i qid entry k).all (·.ended) = true)
    (hsent : (q.op x).writesDst = true →
      ((d.sendWrites q x k).accsOf i qid entry k).any (fun a => a.part == 2 || a.status != 0) = true) :
    effPieceComplete i qid entry k e d = ((d.sendWrites q x k).endPiece q x k).settleQueue i qid := by
  have hsent' : (!(q.op x).writesDst ||
      ((d.sendWrites q x k).accsOf i qid entry k).any fun a => a.part == 2 || a.status != 0) = true := by
    cases hdst : (q.op x).writesDst with
    | false => rfl
    | true => exact hsent hdst
  simp only [effPieceComplete, hqueue, hflying, hended, hsent', Bool.and_self, if_true]

/-- Settles O38, event by event. -/
theorem enginesComplete : Obligations.EnginesComplete := by
  unfold Obligations.EnginesComplete
  refine ⟨fun e => ?refill, fun e => ?round, fun i qid entry k e q x => ?piece⟩
  case refill => exact runs_of_liveLift (fun _ => rfl) fun _ _ => rfl
  case round => exact runs_of_liveLift (fun _ => rfl) fun _ hruns => if_pos hruns
  case piece =>
    exact runs_of_liveLift (fun _ => rfl) fun d ⟨hqueue, hflying, hended, hsent⟩ =>
      effPieceComplete_of_ended i qid entry k e d hqueue hflying hended hsent

end Sys2Proof.Machine
end

section
/-!
PROOFS. What a read at a queue's fetch position comes to, what a poll and the bits of a control block do, and the end of a
DESTROYING queue (R233 to R237, R241, R242, R247).
-/

namespace Sys2Proof.Machine

open Sys2Proof

/-- A verdict that passes an access delivers its region, its CACHE and its ORDER (R266). -/
theorem Verdict.exists_pass {v : Verdict} (hpasses : v.passes = true) :
    ∃ (region cache : Nat) (strict : Bool), v = .pass region cache strict := by
  cases v with
  | pass region cache strict => exact ⟨region, cache, strict, rfl⟩
  | fail cause region => exact absurd hpasses Bool.false_ne_true

/-- The queue may fetch its next entry: it holds fewer than 8 that have not started, and no read of its ring is under way (R235). -/
structure Dev.MayFetch (d : Dev) (i qid : Nat) (q : Queue) : Prop where
  queue : d.queue i qid = some q
  room : q.cache.length < 8
  idle : d.sideAccs i qid AccPart.ring = []

/-- A queue that may fetch is not one whose polling stops at once. -/
theorem Dev.MayFetch.not_stops {d : Dev} {i qid : Nat} {q : Queue} (h : d.MayFetch i qid q) :
    ¬ (8 ≤ q.cache.length ∨ d.sideAccs i qid AccPart.ring ≠ []) :=
  not_or.2 ⟨Nat.not_le.2 h.room, fun hbusy => hbusy h.idle⟩

/-- The device once a poll of a queue is counted at its engine (R235). -/
abbrev Dev.countPoll (i qid : Nat) (d : Dev) : Dev := d.event (0xC300 + d.engineOf i qid) 0x43 1 { master := instMaster i }

/-- A read at the fetch position that Customs bars is reported, and the queue stops there (R242). -/
theorem Dev.pollN_of_fail (i qid n : Nat) (l : Option (List (Option Nat))) (d : Dev) {q : Queue} {cause region : Nat}
    (h : d.MayFetch i qid q) (hfail : d.craneCheck (d.engineOf i qid) i 1 (q.ctx.ringBase + 64 * q.fetch) = .fail cause region) :
    d.pollN i qid (n + 1) l =
      (d.violate (d.craneChecker false (d.engineOf i qid)) (instMaster i) cause 1 region (q.ctx.ringBase + 64 * q.fetch)
        true).fetchFault i qid := by
  simp only [Dev.pollN, h.queue, if_neg h.not_stops, hfail]

/-- An entry that can be read at once is taken, and fetching goes on from the next one where it was posted (R235). -/
theorem Dev.pollN_of_entry (i qid n : Nat) (l : Option (List (Option Nat))) (d : Dev) {q : Queue} {v : Option Nat}
    (h : d.MayFetch i qid q) (hpasses : (d.craneCheck (d.engineOf i qid) i 1 (q.ctx.ringBase + 64 * q.fetch)).passes = true)
    (hread : (d.countPoll i qid).entryRead q l = .entry v) :
    d.pollN i qid (n + 1) l =
      let e := (d.countPoll i qid).takeEntry q v
      if e.2 then e.1.pollN i qid n (l.map List.tail) else e.1 := by
  obtain ⟨region, cache, strict, hcheck⟩ := Verdict.exists_pass hpasses
  simp only [Dev.pollN, h.queue, if_neg h.not_stops, hcheck, hread]

/-- A poll that finds nothing posted is only counted (R235). -/
theorem Dev.pollN_of_nothing (i qid n : Nat) (l : Option (List (Option Nat))) (d : Dev) {q : Queue}
    (h : d.MayFetch i qid q) (hpasses : (d.craneCheck (d.engineOf i qid) i 1 (q.ctx.ringBase + 64 * q.fetch)).passes = true)
    (hread : (d.countPoll i qid).entryRead q l = .nothing) :
    d.pollN i qid (n + 1) l = d.countPoll i qid := by
  obtain ⟨region, cache, strict, hcheck⟩ := Verdict.exists_pass hpasses
  simp only [Dev.pollN, h.queue, if_neg h.not_stops, hcheck, hread]

/-- Where the line of the fetch position is in use at its home, the entry is read there by accesses of its own (R142, R235). -/
theorem Dev.pollN_of_waits (i qid n : Nat) (l : Option (List (Option Nat))) (d : Dev) {q : Queue} {region cache : Nat} {strict : Bool}
    (h : d.MayFetch i qid q)
    (hpass : d.craneCheck (d.engineOf i qid) i 1 (q.ctx.ringBase + 64 * q.fetch) = .pass region cache strict)
    (hread : (d.countPoll i qid).entryRead q l = .waits) :
    d.pollN i qid (n + 1) l =
      let r := (d.countPoll i qid).openCheck (d.craneChecker false (d.engineOf i qid)) (instMaster i) region false
      r.1.openReads { id := 0, inst := i, qid := qid, entry := q.fetch, piece := 0, part := AccPart.ring, line := 0, chk := r.2 } cache
        (q.ctx.ringBase + 64 * q.fetch) := by
  simp only [Dev.pollN, h.queue, if_neg h.not_stops, hpass, hread]

/-- A poll of a queue that is served fetches up to 8 entries, and one that it leaves in the cache ends Lull (R36, R235). -/
theorem effQueuePoll_of_served (i qid : Nat) (l : List Nat) (ok : Bool) (d : Dev) {q : Queue} (hqueue : d.queue i qid = some q)
    (hserved : d.served q = true) :
    effQueuePoll i qid l ok d = (d.pollN i qid 8 (some (l.map some ++ if ok then [] else [none]))).wakeForQueues := by
  simp only [effQueuePoll, Dev.pollQueue, hqueue, hserved, if_true]

/-- INVALIDATE discards what a queue that runs or is paused has fetched and not started, and counts it (R237). -/
theorem effInvalidate_of_live (i qid : Nat) (d : Dev) {q : Queue} (hqueue : d.queue i qid = some q)
    (hstate : q.state = .running ∨ q.state = .paused) (hfree : d.queueHeld i qid = false) :
    effInvalidate i qid d = (d.setQueue i qid fun q => q.discard).count Obj.entryInvalidations q.cache.length := by
  simp only [effInvalidate, hqueue]
  exact if_pos ⟨hstate, by simp [hfree]⟩

/-- DISABLE of a queue of format 1 that is not disabled yet starts its drain (R247). -/
theorem effDisable_of_enabled (i qid : Nat) (d : Dev) {q : Queue} (hqueue : d.queue i qid = some q)
    (henabled : q.ctx.format = 1 ∧ q.state ≠ .disabling ∧ q.state ≠ .disabled) :
    effDisable i qid d =
      (d.setQueue i qid fun q => { q.discard with
        state := .disabling, invalHead := q.invalHead, exec := q.cutAll 3 }).settleQueue i qid := by
  simp only [effDisable, hqueue]
  exact if_pos henabled

/-- A DESTROYING queue with nothing left to fetch, run or write is ABSENT (R241). -/
theorem effQueueDestroyDone_of_empty (i qid : Nat) (d : Dev) {q : Queue} (hqueue : d.queue i qid = some q)
    (hstate : q.state = .destroying) (hexec : q.exec = []) (hcache : q.cache = []) (hring : d.sideAccs i qid AccPart.ring = [])
    (hwritten : (q.headDue || q.noticeDue || d.storing i qid) = false) :
    effQueueDestroyDone i qid d = d.dropQueue i qid := by
  simp only [effQueueDestroyDone, hqueue]
  exact if_pos ⟨hstate, hexec, hcache, hring, by simp only [hwritten, Bool.not_false]⟩

/-- Settles O39: a poll by what the read at the fetch position comes to, and the other events one by one. -/
theorem queuesComplete : Obligations.QueuesComplete := by
  unfold Obligations.QueuesComplete
  refine ⟨fun i qid l q v => ?entry, fun i qid l ok q => ?nothing, fun i qid l ok q region cache strict => ?waits,
    fun i qid l ok q cause region => ?barred, fun i qid q => ?invalidate, fun i qid q => ?disable, fun i qid => ?disableClear,
    fun i qid q => ?destroyed⟩
  case entry =>
    refine runs_of_liveLift (fun _ => rfl) fun d ⟨hqueue, hserved, hroom, hidle, hpasses, hread⟩ => ?_
    have hmem : (l.map some ++ if true = true then [] else [none]) = l.map some := List.append_nil _
    rw [effQueuePoll_of_served i qid l true d hqueue hserved, hmem, d.pollN_of_entry i qid 7 _ ⟨hqueue, hroom, hidle⟩ hpasses hread]
    rfl
  case nothing =>
    refine runs_of_liveLift (fun _ => rfl) fun d ⟨hqueue, hserved, hroom, hidle, hpasses, hread⟩ => ?_
    rw [effQueuePoll_of_served i qid l ok d hqueue hserved, d.pollN_of_nothing i qid 7 _ ⟨hqueue, hroom, hidle⟩ hpasses hread]
  case waits =>
    refine runs_of_liveLift (fun _ => rfl) fun d ⟨hqueue, hserved, hroom, hidle, hpass, hread⟩ => ?_
    rw [effQueuePoll_of_served i qid l ok d hqueue hserved, d.pollN_of_waits i qid 7 _ ⟨hqueue, hroom, hidle⟩ hpass hread]
  case barred =>
    refine runs_of_liveLift (fun _ => rfl) fun d ⟨hqueue, hserved, hroom, hidle, hfail⟩ => ?_
    rw [effQueuePoll_of_served i qid l ok d hqueue hserved, d.pollN_of_fail i qid 7 _ ⟨hqueue, hroom, hidle⟩ hfail]
  case invalidate =>
    exact runs_of_liveLift (fun _ => rfl) fun d ⟨hqueue, hstate, hfree⟩ => effInvalidate_of_live i qid d hqueue hstate hfree
  case disable =>
    exact runs_of_liveLift (fun _ => rfl) fun d ⟨hqueue, henabled⟩ => effDisable_of_enabled i qid d hqueue henabled
  case disableClear => exact runs_of_liveLift (fun _ => rfl) fun _ _ => rfl
  case destroyed =>
    exact runs_of_liveLift (fun _ => rfl) fun d ⟨hqueue, hstate, hexec, hcache, hring, hwritten⟩ =>
      effQueueDestroyDone_of_empty i qid d hqueue hstate hexec hcache hring hwritten

end Sys2Proof.Machine
end

section
/-!
PROOFS. What the commands of an administration queue do (R240, R241).
-/

namespace Sys2Proof.Machine

open Sys2Proof

/-- CREATE_QUEUE adds the queue of a context that passes every test, and reports success (R238, R240). -/
theorem Dev.endCreate_of_good (i : Nat) (x : Desc) (ctx : QContext) (d : Dev) (hgood : d.createStatus i (some ctx) = 0) :
    d.endCreate i x (some ctx) =
      (d.setCrane fun k => { k with queues := k.queues ++ [newQueue i ctx.queueId ctx] }).endAdmin i x 0 := by
  simp only [Dev.endCreate, hgood]

/-- CREATE_QUEUE whose read passes Customs ends with the context that the memory holds, where the home reads it at once. -/
theorem effCreateQueue_of_memory (i : Nat) (mem : Option QContext) (d : Dev) {x : Desc} (hcmd : d.adminCmd i 0x80 = some x)
    (hidle : d.sideAccs i 0 AccPart.context = []) (hmemory : d.homeRead i (bytesAt x.raw 8 8) = .memory)
    (hpasses : (d.craneCheck (d.engineOf i 0) i 1 (bytesAt x.raw 8 8)).passes = true) :
    effCreateQueue i mem d = d.endCreate i x mem := by
  obtain ⟨region, cache, strict, hcheck⟩ := Verdict.exists_pass hpasses
  simp only [effCreateQueue, hcmd, hidle, ne_eq, not_true_eq_false, if_false, hcheck, hmemory]

/-- A queue number of an administrative command names no queue: it is the administration queue's own, or none has it (R241). -/
theorem Dev.target_of_absent (d : Dev) (i qid : Nat) (habsent : qid = 0 ∨ d.queue i qid = none) :
    (if qid = 0 then none else d.queue i qid) = none := by
  obtain hzero | hnone := habsent
  · exact if_pos hzero
  · rw [hnone, ite_self]

/-- DESTROY_QUEUE drops a queue in ERROR, and drains another (R241). -/
theorem effDestroyQueue_of_present (i qid : Nat) (d : Dev) {x : Desc} {q : Queue} (hcmd : d.adminCmd i 0x81 = some x)
    (hnames : bytesAt x.raw 4 2 = qid) (hother : qid ≠ 0) (hqueue : d.queue i qid = some q) :
    effDestroyQueue i qid d =
      (if q.state = .error then d.dropQueue i qid
       else d.setQueue i qid fun k => { k with state := .destroying }).endAdmin i x 0 := by
  simp only [effDestroyQueue, hcmd, hnames, ne_eq, not_true_eq_false, if_false, if_neg hother, hqueue]

/-- DESTROY_QUEUE of a queue that does not exist reports NO_SUCH_QUEUE (Table 8.10). -/
theorem effDestroyQueue_of_absent (i qid : Nat) (d : Dev) {x : Desc} (hcmd : d.adminCmd i 0x81 = some x)
    (hnames : bytesAt x.raw 4 2 = qid) (habsent : qid = 0 ∨ d.queue i qid = none) :
    effDestroyQueue i qid d = d.endAdmin i x 18 := by
  simp only [effDestroyQueue, hcmd, hnames, ne_eq, not_true_eq_false, if_false, d.target_of_absent i qid habsent]

/-- A QUERY_QUEUE of another queue of the instance is in execution, and its result is not on its way yet (R241). -/
structure Dev.Queries (d : Dev) (i qid : Nat) (x : Desc) (q : Queue) : Prop where
  cmd : d.adminCmd i 0x82 = some x
  names : bytesAt x.raw 4 2 = qid
  other : qid ≠ 0
  queue : d.queue i qid = some q
  idle : d.sideAccs i 0 AccPart.result = []

/-- QUERY_QUEUE whose buffer Customs lets it write sends the control block and the context there, or reports CONTEXT_FAULT (R241). -/
theorem effQueryQueue_of_passes (i qid : Nat) (ok : Bool) (d : Dev) {x : Desc} {q : Queue} (h : d.Queries i qid x q)
    (hpasses : (d.craneCheck (d.engineOf i 0) i 2 (bytesAt x.raw 8 8)).passes = true) :
    effQueryQueue i qid ok d =
      if ok then
        (d.storeFor false (d.engineOf i 0)
          { id := 0, inst := i, qid := 0, entry := x.entry, piece := 0, part := AccPart.result, line := 0 } (bytesAt x.raw 8 8) 64
          (d.controlBlock q + ctxRaw q.ctx % 2 ^ 384 * 2 ^ 128)).adminGoesOn i
      else d.endAdmin i x 20 := by
  obtain ⟨region, cache, strict, hcheck⟩ := Verdict.exists_pass hpasses
  simp only [effQueryQueue, h.cmd, h.names, ne_eq, not_true_eq_false, if_false, if_neg h.other, h.queue, h.idle, hcheck]
  cases ok <;> rfl

/-- QUERY_QUEUE whose buffer Customs bars reports the violation, and CONTEXT_FAULT (R241). -/
theorem effQueryQueue_of_fail (i qid : Nat) (ok : Bool) (d : Dev) {x : Desc} {q : Queue} {cause region : Nat}
    (h : d.Queries i qid x q) (hfail : d.craneCheck (d.engineOf i 0) i 2 (bytesAt x.raw 8 8) = .fail cause region) :
    effQueryQueue i qid ok d =
      (d.violate (d.craneChecker false (d.engineOf i 0)) (instMaster i) cause 2 region (bytesAt x.raw 8 8) true).endAdmin i x 20 := by
  simp only [effQueryQueue, h.cmd, h.names, ne_eq, not_true_eq_false, if_false, if_neg h.other, h.queue, h.idle, hfail]

/-- Settles O40, command by command: each by the queue that it names and by what Customs says of its buffer. -/
theorem adminCommandsComplete : Obligations.AdminCommandsComplete := by
  unfold Obligations.AdminCommandsComplete
  refine ⟨fun i ctx x => ?create, fun i qid x q => ?destroy, fun i qid x => ?destroyAbsent, fun i qid x q => ?query,
    fun i qid x q => ?queryFault, fun i qid cause region ok x q => ?queryBarred⟩
  case create =>
    exact runs_of_liveLift (fun _ => rfl) fun d ⟨hcmd, hidle, hmemory, hpasses, hgood⟩ =>
      (effCreateQueue_of_memory i (some ctx) d hcmd hidle hmemory hpasses).trans (d.endCreate_of_good i x ctx hgood)
  case destroy =>
    exact runs_of_liveLift (fun _ => rfl) fun d ⟨hcmd, hnames, hother, hqueue⟩ =>
      effDestroyQueue_of_present i qid d hcmd hnames hother hqueue
  case destroyAbsent =>
    exact runs_of_liveLift (fun _ => rfl) fun d ⟨hcmd, hnames, habsent⟩ => effDestroyQueue_of_absent i qid d hcmd hnames habsent
  case query =>
    exact runs_of_liveLift (fun _ => rfl) fun d ⟨hcmd, hnames, hother, hqueue, hidle, hpasses⟩ =>
      effQueryQueue_of_passes i qid true d ⟨hcmd, hnames, hother, hqueue, hidle⟩ hpasses
  case queryFault =>
    exact runs_of_liveLift (fun _ => rfl) fun d ⟨hcmd, hnames, hother, hqueue, hidle, hpasses⟩ =>
      effQueryQueue_of_passes i qid false d ⟨hcmd, hnames, hother, hqueue, hidle⟩ hpasses
  case queryBarred =>
    exact runs_of_liveLift (fun _ => rfl) fun d ⟨hcmd, hnames, hother, hqueue, hidle, hfail⟩ =>
      effQueryQueue_of_fail i qid ok d ⟨hcmd, hnames, hother, hqueue, hidle⟩ hfail

end Sys2Proof.Machine
end

section
/-!
PROOFS. What a host's writes to the registers of a Harbour function do (R239, R249 to R254).
-/

namespace Sys2Proof.Machine

open Sys2Proof

/-- CRANE_ENABLE of a bound instance takes its registers and its contexts, and its first queues exist (R239). -/
theorem effCraneEnable_of_bound (i : Nat) (r : FuncRegs) (d : Dev) (hinst : i < 4096) (hbound : (d.inst i).bound = true)
    (hreset : (d.inst i).resetting = false) (hoff : (((d.setInst i (Inst.writeRegs r)).sendPending i).inst i).enable = false) :
    effCraneEnable i r d =
      let d := ((d.setInst i (Inst.writeRegs r)).sendPending i).setInst i fun x => { x.writeContexts r with enable := true }
      d.setCrane fun c => { c with queues := c.queues ++ (d.inst i).firstQueues i } := by
  have hruns : ¬ ((!(d.inst i).bound) = true ∨ (d.inst i).resetting = true) := by simp [hbound, hreset]
  exact (if_neg (Nat.not_le.2 hinst)).trans ((if_neg hruns).trans (if_neg (ne_true_of_eq_false hoff)))

/-- The registers of a function with no instance take what lies outside the Crane registers (R249). -/
theorem effCraneEnable_of_unbound (i : Nat) (r : FuncRegs) (d : Dev) (hfunc : 4096 ≤ i) (hreached : d.isFunc i = true) :
    effCraneEnable i r d = (d.setInst i (Inst.writeUnbound r)).sendPending i :=
  (if_pos hfunc).trans (if_pos hreached)

/-- A message to a function with no instance is only held (R249). -/
theorem effH2mPost_of_unbound (i m : Nat) (d : Dev) (hfunc : 4096 ≤ i) (hreached : d.isFunc i = true) :
    effH2mPost i m d = d.setInst i fun x => { x with h2m := mailbox m } :=
  (if_pos hfunc).trans (if_pos hreached)

/-- A message of a bound instance whose mailbox is empty is held, and its event raised to the managers and the instance (R251). -/
theorem effH2mPost_of_bound (i m : Nat) (d : Dev) (hinst : i < 4096) (hbound : (d.inst i).bound = true)
    (hempty : (d.inst i).h2mPost = false) :
    effH2mPost i m d =
      (d.setInst i fun x => { x with h2m := mailbox m, h2mPost := true }).raiseTo [i]
        (info (sourceId 13 0) 0x8005 0 (0x1000 + i) (i + bits m 16 16 * 2 ^ 16)) :=
  (if_neg (Nat.not_le.2 hinst)).trans (if_pos (by simp [hbound, hempty]))

/-- A function that the host reaches and whose capacity registers are free takes a request or a release (R253, R254). -/
theorem Dev.not_capIgnored {d : Dev} {i : Nat} (hreached : d.isFunc i = true) (hfree : (d.inst i).capGo = false) :
    ¬ ((!d.isFunc i) = true ∨ (d.inst i).capGo = true) := by
  simp [hreached, hfree]

/-- Settles O41, register by register. -/
theorem functionsComplete : Obligations.FunctionsComplete := by
  unfold Obligations.FunctionsComplete
  refine ⟨fun i r => ?enable, fun i r => ?unboundRegs, fun i m => ?unboundPost, fun i m => ?post, fun i req => ?request,
    fun i req => ?release⟩
  case enable =>
    exact runs_of_liveLift (fun _ => rfl) fun d ⟨hinst, hbound, hreset, hoff⟩ =>
      effCraneEnable_of_bound i r d hinst hbound hreset hoff
  case unboundRegs =>
    exact runs_of_liveLift (fun _ => rfl) fun d ⟨hfunc, hreached⟩ => effCraneEnable_of_unbound i r d hfunc hreached
  case unboundPost =>
    exact runs_of_liveLift (fun _ => rfl) fun d ⟨hfunc, hreached⟩ => effH2mPost_of_unbound i m d hfunc hreached
  case post =>
    exact runs_of_liveLift (fun _ => rfl) fun d ⟨hinst, hbound, hempty⟩ => effH2mPost_of_bound i m d hinst hbound hempty
  case request =>
    exact runs_of_liveLift (fun _ => rfl) fun _ ⟨hreached, hfree⟩ => if_neg (Dev.not_capIgnored hreached hfree)
  case release =>
    exact runs_of_liveLift (fun _ => rfl) fun _ ⟨hreached, hfree⟩ => if_neg (Dev.not_capIgnored hreached hfree)

end Sys2Proof.Machine
end

section
/-!
PROOFS. What lets the managers' message through, and what the resets of a function do (R251, R252, R256).
-/

namespace Sys2Proof.Machine

open Sys2Proof

/-- MBOX_M2H is let through for an instance whose mailbox from the managers is empty (R251). -/
theorem actMboxM2h_check_success (c : Call) (v : Nat) (d : Dev) (hinst : bits v 0 16 < 4096)
    (hempty : (d.inst (bits v 0 16)).m2hValid = false) : actMboxM2h.check c v d = Status.success :=
  (if_neg (Nat.not_le.2 hinst)).trans (if_neg (ne_true_of_eq_false hempty))

/-- A number from 4096 on, or that of a bound instance, names a function that a function-level reset reaches. -/
theorem Dev.not_resetIgnored {d : Dev} {i : Nat} (hfunc : 4096 ≤ i ∨ (d.inst i).bound = true) :
    ¬ ((decide (i < 4096) && !(d.inst i).bound) = true) := by
  obtain hover | hbound := hfunc
  · simp [Nat.not_lt.2 hover]
  · simp [hbound]

/-- A function-level reset of function 0 resets every function of its quay (R256). -/
theorem effFunctionLevelReset_of_pf (i : Fin 36992) (d : Dev) (hfunc : 4096 ≤ i.val ∨ (d.inst i).bound = true)
    (hpf : (d.inst i).function = 0) : effFunctionLevelReset (.function i) d = d.resetQuayFuncs (d.inst i).quay :=
  (if_neg (Dev.not_resetIgnored hfunc)).trans (if_pos hpf)

/-- A function-level reset of another function resets the instance bound to it (R256). -/
theorem effFunctionLevelReset_of_bound (i : Fin 36992) (d : Dev) (hbound : (d.inst i).bound = true)
    (hvf : (d.inst i).function ≠ 0) : effFunctionLevelReset (.function i) d = d.resetInst i :=
  (if_neg (Dev.not_resetIgnored (Or.inr hbound))).trans ((if_neg hvf).trans (if_pos hbound))

/-- A function-level reset of another function with no instance clears its registers (R249, R256). -/
theorem effFunctionLevelReset_of_unbound (i : Fin 36992) (d : Dev) (hfunc : 4096 ≤ i.val) (hunbound : (d.inst i).bound = false)
    (hvf : (d.inst i).function ≠ 0) :
    effFunctionLevelReset (.function i) d = d.clearFuncs fun q g => q == (d.inst i).quay && g == (d.inst i).function :=
  (if_neg (Dev.not_resetIgnored (Or.inl hfunc))).trans ((if_neg hvf).trans (if_neg (ne_true_of_eq_false hunbound)))

/-- Settles O42, command and event by event; a function-level reset by the function and whether an instance is bound to it. -/
theorem instancesComplete : Obligations.InstancesComplete := by
  unfold Obligations.InstancesComplete
  refine ⟨fun c v => ?acknowledge, fun c v => ?message, fun c v => ?config, fun c v => ?reset, fun i => ?boundReset,
    fun i => ?pfReset, fun i => ?unboundReset, fun q => ?vfsReset, fun i => ?drain⟩
  case acknowledge =>
    exact writes_of_writeRow (a := actMboxAck) (fun _ => rfl) (fun _ hinst => if_pos hinst) (by dsimp only [actMboxAck]) fun _ => rfl
  case message =>
    exact writes_of_writeRow (a := actMboxM2h) (fun _ => rfl) (fun d ⟨hinst, hempty⟩ => actMboxM2h_check_success c _ d hinst hempty)
      (by dsimp only [actMboxM2h]) fun _ => rfl
  case config =>
    exact writes_of_writeRow (a := actInstConfig) (fun _ => rfl) (fun _ hallowed => hallowed) (by dsimp only [actInstConfig]) fun _ => rfl
  case reset =>
    exact writes_of_writeRow (a := actInstReset) (fun _ => rfl) (fun _ hinst => if_pos hinst) (by dsimp only [actInstReset]) fun _ => rfl
  case boundReset =>
    exact runs_of_liveLift (fun _ => rfl) fun d ⟨hbound, hvf⟩ => effFunctionLevelReset_of_bound i d hbound hvf
  case pfReset =>
    exact runs_of_liveLift (fun _ => rfl) fun d ⟨hfunc, hpf⟩ => effFunctionLevelReset_of_pf i d hfunc hpf
  case unboundReset =>
    exact runs_of_liveLift (fun _ => rfl) fun d ⟨hfunc, hunbound, hvf⟩ =>
      effFunctionLevelReset_of_unbound i d hfunc hunbound hvf
  case vfsReset => exact runs_of_liveLift (fun _ => rfl) fun _ _ => rfl
  case drain => exact runs_of_liveLift (fun _ => rfl) fun _ hresetting => if_pos hresetting

end Sys2Proof.Machine
end

section
/-!
PROOFS. What lets the writes to the tables of Customs, the barrier and a release through (R268, R269, R274, R275, R281).
-/

namespace Sys2Proof.Machine

open Sys2Proof

/-- REGION_SET is let through for a present writable master and a well-formed entry, when the entry, if VALID, has its addresses in
order and takes no entry beyond the pool (R268, R269). -/
theorem checkRegionSet_success (v : Nat) (d : Dev) (hmaster : writableMaster (bits v 0 16) = true)
    (hpresent : absentMaster d.part (bits v 0 16) = false) (hcache : regionCache (bits v 64 128) ≠ 3)
    (hpad : bits v 24 40 = 0) (hlow : bits (bits v 64 128) 8 4 = 0) (hhigh : bits (bits v 64 128) 64 12 = 0)
    (hvalid : regionValid (bits v 64 128) = true → regionFirst (bits v 64 128) ≤ regionLast (bits v 64 128) ∧
      (regionValid (d.newestTable.region (bits v 0 16) (bits v 16 8)) = true ∨ d.newestTable.used < 32768)) :
    checkRegionSet v d = Status.success := by
  have hordered : ¬ (regionValid (bits v 64 128) = true ∧ regionLast (bits v 64 128) < regionFirst (bits v 64 128)) :=
    fun ⟨htaken, hcrossed⟩ => Nat.not_lt.2 (hvalid htaken).1 hcrossed
  refine (if_neg (by simp [hmaster, hpresent, hcache, hpad, hlow, hhigh, hordered])).trans (if_neg ?_)
  rintro ⟨htaken, hnew, hfull⟩
  obtain hreplaced | hroom := (hvalid htaken).2
  · simp [hreplaced] at hnew
  · exact Nat.not_lt.2 hfull hroom

/-- REGION_CLEAR_MASTER is let through for a present writable master (R269). -/
theorem actRegionClear_check_success (c : Call) (v : Nat) (d : Dev) (hmaster : writableMaster v = true)
    (hpresent : absentMaster d.part v = false) : actRegionClear.check c v d = Status.success :=
  if_pos ⟨hmaster, by simp [hpresent]⟩

/-- PRIVILEGE_SET is let through for a present writable master and a privilege of 0 or 1 (R274). -/
theorem actPrivilegeSet_check_success (c : Call) (v : Nat) (d : Dev) (hmaster : writableMaster (bits v 0 16) = true)
    (hpresent : absentMaster d.part (bits v 0 16) = false) (hprivilege : bits v 16 8 ≤ 1) :
    actPrivilegeSet.check c v d = Status.success :=
  if_pos ⟨hmaster, by simp [hpresent], hprivilege⟩

/-- A pending barrier is DONE once every checker and every open access is past its epoch (R275). -/
theorem effCustomsBarrierDone_of_past (d : Dev) (hpending : d.get Obj.customsBarrierStatus = 1)
    (hcheckers : d.checkerBehind (d.get Obj.customsBarrierEpoch) = false)
    (haccesses : d.openChecks (d.get Obj.customsBarrierEpoch) = 0) :
    effCustomsBarrierDone d = (d.put Obj.customsBarrierStatus 2).stateChange (sourceId 14 0) Obj.customsBarrierStatus :=
  if_pos ⟨hpending, by simp [hcheckers], haccesses⟩

/-- RELEASE is let through for an IMPOUNDED master and a mode of 0 or 1 (R281). -/
theorem checkRelease_success (v : Nat) (d : Dev) (hmode : bits v 16 8 ≤ 1) (himpounded : d.impounded (bits v 0 16) = true) :
    checkRelease v d = Status.success :=
  (if_neg (Nat.not_lt.2 hmode)).trans (if_pos himpounded)

/-- A row that is a write of RELEASE frees the IMPOUNDED master as the mode byte says, whichever of the two modes the row is
named after (R281). -/
theorem writes_of_releaseRow {i : Instr} {c : Call} {v : Nat} (arm : ∀ s : State, exec i s = writeRow actRelease c Obj.release v s) :
    Writes i c Obj.release v (fun d => bits (valueOf c v) 16 8 ≤ 1 ∧ d.impounded (bits (valueOf c v) 0 16) = true)
      fun _ d => d.afterRelease (bits (valueOf c v) 0 16) (bits (valueOf c v) 16 8 == 1) :=
  writes_of_writeRow arm (fun d ⟨hmode, himpounded⟩ => checkRelease_success _ d hmode himpounded)
    (by dsimp only [actRelease]) fun _ => rfl

/-- Settles O24, command and event by event; RELEASE is one write, whose mode byte says whether the held requests are checked again
or discarded. -/
theorem customsCommandsComplete : Obligations.CustomsCommandsComplete := by
  unfold Obligations.CustomsCommandsComplete
  refine ⟨fun c v => ?regionSet, fun c v => ?regionClear, fun c v => ?privilege, fun c v => ?barrier, ?barrierDone, ?barrierExpiry,
    fun k => ?epochReaches, fun m => ?impoundReaches, fun c v => ?releaseRecheck, fun c v => ?releaseDiscard⟩
  case regionSet =>
    exact writes_of_writeRow (a := actRegionSet) (fun _ => rfl)
      (fun d ⟨hmaster, hpresent, hcache, hpad, hlow, hhigh, hvalid⟩ =>
        checkRegionSet_success _ d hmaster hpresent hcache hpad hlow hhigh hvalid) (by dsimp only [actRegionSet]) fun _ => rfl
  case regionClear =>
    exact writes_of_writeRow (fun _ => rfl) (fun d ⟨hmaster, hpresent⟩ => actRegionClear_check_success c _ d hmaster hpresent)
      (by dsimp only [actRegionClear]) fun _ => rfl
  case privilege =>
    exact writes_of_writeRow (fun _ => rfl) (fun d ⟨hmaster, hpresent, hprivilege⟩ =>
      actPrivilegeSet_check_success c _ d hmaster hpresent hprivilege) (by dsimp only [actPrivilegeSet]) fun _ => rfl
  case barrier =>
    exact writes_of_writeRow (a := actCustomsBarrier) (fun _ => rfl) (fun _ hidle => if_neg hidle)
      (by dsimp only [actCustomsBarrier]) fun _ => rfl
  case barrierDone =>
    exact runs_of_liveLift (fun _ => rfl) fun d ⟨hpending, hcheckers, haccesses⟩ =>
      effCustomsBarrierDone_of_past d hpending hcheckers haccesses
  case barrierExpiry => exact runs_of_liveLift (fun _ => rfl) fun _ hpending => if_pos hpending
  case epochReaches => exact runs_of_liveLift (fun _ => rfl) fun _ _ => rfl
  case impoundReaches => exact runs_of_liveLift (fun _ => rfl) fun _ _ => rfl
  case releaseRecheck => exact writes_of_releaseRow fun _ => rfl
  case releaseDiscard => exact writes_of_releaseRow fun _ => rfl

end Sys2Proof.Machine
end

section
/-!
PROOFS. Objects and their LAST_SEQ as they were last written (R286, R305).
-/

namespace Sys2Proof.Machine

open Sys2Proof

/-- An object reads as it was last put. -/
@[simp] theorem Dev.get_put_same (d : Dev) (o v : Nat) : (d.put o v).get o = v :=
  Tab.get_set_same _ _ _ _

/-- An object's LAST_SEQ reads as it was last marked. -/
@[simp] theorem Dev.lastSeqOf_mark_same (d : Dev) (o n : Nat) : (d.mark o n).lastSeqOf o = n :=
  Tab.get_set_same _ _ _ _

/-- An object keeps its LAST_SEQ when another is marked. -/
theorem Dev.lastSeqOf_mark_of_ne (d : Dev) {o p : Nat} (n : Nat) (hne : p ≠ o) : (d.mark o n).lastSeqOf p = d.lastSeqOf p :=
  Tab.get_set_other _ _ _ _ _ _ hne

/-- A put keeps the canonical form of the tables. -/
theorem Dev.tablesWf_put {d : Dev} (hwf : d.tablesWf) (o v : Nat) : (d.put o v).tablesWf := by
  obtain ⟨hman, hseq, hstored⟩ := hwf
  exact ⟨Tab.wf_set (objDefault d.part) d.man o v hman, hseq, hstored⟩

/-- A mark keeps the canonical form of the tables. -/
theorem Dev.tablesWf_mark {d : Dev} (hwf : d.tablesWf) (o n : Nat) : (d.mark o n).tablesWf := by
  obtain ⟨hman, hseq, hstored⟩ := hwf
  exact ⟨hman, Tab.wf_set (fun _ => 0) d.lastSeq o n hseq, hstored⟩

/-- Settles O6: what a put and a mark do to their own object, to another, and to the tables. -/
theorem objectsReadBack : Obligations.ObjectsReadBack := by
  unfold Obligations.ObjectsReadBack
  exact ⟨Dev.get_put_same, fun d _ _ v hne => d.get_put_of_ne v hne, fun _ o v hwf => Dev.tablesWf_put hwf o v,
    fun d o n hwf => ⟨Dev.tablesWf_mark hwf o n, d.lastSeqOf_mark_same o n, fun _ hne => d.lastSeqOf_mark_of_ne n hne⟩⟩

end Sys2Proof.Machine
end

section
/-!
PROOFS. The serialiser: the numbers it gives, and the status of its judgement (R300, R302, R304, R305).
-/

namespace Sys2Proof.Machine

open Sys2Proof

/-- Numbers rise by one (R304). -/
@[simp] theorem Dev.nextSeq_takeSeq (d : Dev) : d.takeSeq.nextSeq = d.nextSeq + 1 :=
  d.get_put_same Obj.commitSeq (d.nextSeq + 1)

/-- A number that is issued leaves every LAST_SEQ. -/
@[simp] theorem Dev.lastSeqOf_takeSeq (d : Dev) (o : Nat) : d.takeSeq.lastSeqOf o = d.lastSeqOf o := rfl

/-- A number that uses up its block reserves the next one (R304). -/
@[simp] theorem Dev.seqBlock_takeSeq (d : Dev) :
    d.takeSeq.mgmt.seqBlock = if d.nextSeq + 1 = d.mgmt.seqBlock then d.mgmt.seqBlock + 65536 else d.mgmt.seqBlock := rfl

/-- A number below its block is followed by one below its block. -/
theorem Dev.nextSeq_takeSeq_lt {d : Dev} (hbelow : d.nextSeq < d.mgmt.seqBlock) :
    d.takeSeq.nextSeq < d.takeSeq.mgmt.seqBlock := by
  rw [d.nextSeq_takeSeq, d.seqBlock_takeSeq]
  split <;> omega

/-- After a start the numbers resume at the block that the journal had reserved (R304). -/
@[simp] theorem Dev.nextSeq_nextBlock (d : Dev) : d.nextBlock.nextSeq = d.mgmt.seqBlock :=
  d.get_put_same Obj.commitSeq d.mgmt.seqBlock

/-- A start reserves one block more. -/
@[simp] theorem Dev.seqBlock_nextBlock (d : Dev) : d.nextBlock.mgmt.seqBlock = d.mgmt.seqBlock + 65536 := rfl

/-- A refused write takes a number, and changes nothing else (R302). -/
theorem Dev.manifestOp_refused (a : Act) (c : Call) (o w : Nat) (d : Dev) (hjudge : d.judge a c o (valueOf c w) ≠ Status.success) :
    d.manifestOp a c o w =
      (d.takeSeq, answerOf (d.judge a c o (valueOf c w)) o d.nextSeq (d.lastSeqOf o) .none) :=
  if_neg hjudge

/-- An accepted write is committed, and then has its effect (R302). -/
theorem Dev.manifestOp_accepted (a : Act) (c : Call) (o w : Nat) (d : Dev) (hjudge : d.judge a c o (valueOf c w) = Status.success) :
    d.manifestOp a c o w =
      (a.effect c (valueOf c w) d.nextSeq (d.commitWrite c o (a.reply c (valueOf c w) d.nextSeq d)),
        answerOf Status.success o d.nextSeq (d.lastSeqOf o) (a.reply c (valueOf c w) d.nextSeq d)) :=
  (if_pos hjudge).trans (by rw [← valueOf, hjudge, Dev.accept])

/-- A commit takes the next number. -/
@[simp] theorem Dev.nextSeq_commitWrite (c : Call) (o : Nat) (r : Reply) (d : Dev) :
    (d.commitWrite c o r).nextSeq = d.nextSeq + 1 :=
  d.nextSeq_takeSeq

/-- A commit is the LAST_SEQ of its object (R305). -/
@[simp] theorem Dev.lastSeqOf_commitWrite_same (c : Call) (o : Nat) (r : Reply) (d : Dev) :
    (d.commitWrite c o r).lastSeqOf o = d.nextSeq :=
  d.takeSeq.lastSeqOf_mark_same o d.nextSeq

/-- A commit leaves the LAST_SEQ of every other object. -/
theorem Dev.lastSeqOf_commitWrite_of_ne (c : Call) {o p : Nat} (r : Reply) (d : Dev) (hne : p ≠ o) :
    (d.commitWrite c o r).lastSeqOf p = d.lastSeqOf p :=
  d.takeSeq.lastSeqOf_mark_of_ne d.nextSeq hne

/-- A commit changes no value but COMMIT_SEQ. -/
theorem Dev.get_commitWrite_of_ne (c : Call) (o : Nat) {p : Nat} (r : Reply) (d : Dev) (hne : p ≠ Obj.commitSeq) :
    (d.commitWrite c o r).get p = d.get p :=
  d.get_takeSeq_of_ne hne

/-- Of two statuses the first one that applies is not above either that is not SUCCESS. -/
theorem firstStatus_of_ne_success {a : Nat} (b : Nat) (hcode : a ≠ Status.success) :
    firstStatus a b ≠ Status.success ∧ firstStatus a b ≤ a := by
  have hzero : a ≠ 0 := hcode
  by_cases hother : b = 0
  · have hfirst : firstStatus a b = a := (if_neg hzero).trans (if_pos hother)
    rw [hfirst]
    exact ⟨hcode, Nat.le_refl a⟩
  · have hfirst : firstStatus a b = min a b := (if_neg hzero).trans (if_neg hother)
    rw [hfirst]
    exact ⟨Nat.ne_of_gt (Nat.lt_min.2 ⟨Nat.pos_of_ne_zero hzero, Nat.pos_of_ne_zero hother⟩), Nat.min_le_left a b⟩

/-- What the general rules have against a write is judged, or a lower code of the owning chapter (R300). -/
theorem Dev.judge_of_generalStatus (a : Act) (c : Call) (o v : Nat) (d : Dev) (hcode : d.generalStatus c o v ≠ Status.success) :
    d.judge a c o v ≠ Status.success ∧ d.judge a c o v ≤ d.generalStatus c o v := by
  by_cases halone : d.generalStatus c o v = Status.noSuchObject ∨ d.generalStatus c o v = Status.accessMode
  · have hjudge : d.judge a c o v = d.generalStatus c o v := if_pos halone
    exact ⟨hjudge ▸ hcode, Nat.le_of_eq hjudge⟩
  · have hjudge : d.judge a c o v = firstStatus (d.generalStatus c o v) (firstStatus (a.check c v d) (journalStatus c o)) :=
      if_neg halone
    rw [hjudge]
    exact firstStatus_of_ne_success _ hcode

/-- Settles O7: a refused write, an accepted one, the status of the judgement, and the numbers. -/
theorem serialiserJudges : Obligations.SerialiserJudges := by
  unfold Obligations.SerialiserJudges
  refine ⟨fun a c o w d hjudge => ?refused, fun a c o w d hjudge => ?accepted, fun a c o v d => d.judge_of_generalStatus a c o v,
    fun d => ⟨d.nextSeq_takeSeq, d.lastSeqOf_takeSeq, fun _ => d.get_takeSeq_of_ne⟩, fun d hbelow => ?blocks⟩
  case refused =>
    rw [d.manifestOp_refused a c o w hjudge]
    exact ⟨rfl, rfl, rfl⟩
  case accepted =>
    rw [d.manifestOp_accepted a c o w hjudge]
    exact ⟨rfl, rfl, d.commitWrite c o (a.reply c (valueOf c w) d.nextSeq d), rfl, d.nextSeq_commitWrite c o _,
      d.lastSeqOf_commitWrite_same c o _, fun _ => d.lastSeqOf_commitWrite_of_ne c _, fun _ => d.get_commitWrite_of_ne c o _⟩
  case blocks =>
    rw [d.nextSeq_nextBlock, d.seqBlock_nextBlock]
    exact ⟨Dev.nextSeq_takeSeq_lt hbelow, rfl, hbelow, by omega⟩

end Sys2Proof.Machine
end

section
/-!
PROOFS. What the loss of VAUX keeps of the objects (Table 10.4, R290).
-/

namespace Sys2Proof.Machine

open Sys2Proof

/-- Entries chosen so that those of a key stay read the same there. -/
theorem Tab.get_filter_of_kept {α : Type} (x : α) (t : Tab α) (f : Nat × α → Bool) (k : Nat) (hkept : ∀ v : α, f (k, v) = true) :
    Tab.get x (t.filter f) k = Tab.get x t k := by
  induction t with
  | nil => rfl
  | cons p t ih =>
    obtain ⟨a, v⟩ := p
    by_cases hk : a = k
    · subst hk
      rw [List.filter_cons_of_pos (hkept v)]
      simp only [Tab.get, if_true]
    · rw [Tab.get_cons_ne x (a, v) t k hk, ← ih, List.filter_cons]
      split
      · exact Tab.get_cons_ne x (a, v) _ k hk
      · rfl

/-- Entries chosen so that those of a key go read there as an unlisted key. -/
theorem Tab.get_filter_of_dropped {α : Type} (x : α) (t : Tab α) (f : Nat × α → Bool) (k : Nat)
    (hdropped : ∀ v : α, f (k, v) = false) : Tab.get x (t.filter f) k = x := by
  induction t with
  | nil => rfl
  | cons p t ih =>
    obtain ⟨a, v⟩ := p
    by_cases hk : a = k
    · subst hk
      rw [List.filter_cons_of_neg (ne_true_of_eq_false (hdropped v)), ih]
    · rw [List.filter_cons]
      split
      · rw [Tab.get_cons_ne x (a, v) _ k hk, ih]
      · exact ih

/-- The writes of a table's entries into another table, one after the other. -/
def Tab.setEach {α : Type} [DecidableEq α] (dflt : Nat → α) (entries t : Tab α) : Tab α :=
  entries.foldl (fun t p => Tab.set (dflt p.1) t p.1 p.2) t

/-- A key that is not listed among the entries keeps what it was. -/
theorem Tab.get_setEach_of_unlisted {α : Type} [DecidableEq α] (dflt : Nat → α) (x : α) (entries t : Tab α) (k : Nat)
    (hunlisted : ∀ p ∈ entries, p.1 ≠ k) : Tab.get x (Tab.setEach dflt entries t) k = Tab.get x t k := by
  induction entries generalizing t with
  | nil => rfl
  | cons p entries ih =>
    obtain ⟨hp, hrest⟩ := List.forall_mem_cons.1 hunlisted
    exact (ih _ hrest).trans (Tab.get_set_other _ _ _ _ _ _ hp.symm)

/-- Entries in canonical form, written where nothing is listed, read as they did. -/
theorem Tab.get_setEach_of_wf {α : Type} [DecidableEq α] (dflt : Nat → α) (entries t : Tab α) (k : Nat)
    (hwf : Tab.wf dflt entries = true) (hfree : Tab.get (dflt k) t k = dflt k) :
    Tab.get (dflt k) (Tab.setEach dflt entries t) k = Tab.get (dflt k) entries k := by
  induction entries generalizing t with
  | nil => exact hfree
  | cons p entries ih =>
    obtain ⟨-, hlt, hrest⟩ := (Tab.wf_cons dflt p entries).1 hwf
    by_cases hk : p.1 = k
    · subst hk
      have hset := Tab.get_setEach_of_unlisted dflt (dflt p.1) entries (Tab.set (dflt p.1) t p.1 p.2) p.1 fun q hq =>
        Nat.ne_of_gt (hlt q hq)
      rw [Tab.get_set_same] at hset
      exact hset.trans (if_pos rfl).symm
    · rw [Tab.get_cons_ne _ p entries k hk]
      exact ih _ hrest ((Tab.get_set_other _ _ _ _ _ _ (Ne.symm hk)).trans hfree)

/-- Puts one after the other change the table of the objects alone. -/
theorem Dev.foldl_put (entries : Tab Nat) (d : Dev) :
    entries.foldl (fun d p => d.put p.1 p.2) d = { d with man := Tab.setEach (objDefault d.part) entries d.man } := by
  induction entries generalizing d with
  | nil => rfl
  | cons p entries ih => exact ih (d.put p.1 p.2)

/-- Where nothing is stored of an object, a restore leaves it if it is persistent, and gives it its default if it is volatile and
not kept (R290). -/
theorem Dev.get_restoreMan_of_unlisted (keep : Nat → Bool) (d : Dev) (o : Nat) (hunlisted : ∀ p ∈ d.stored, p.1 ≠ o) :
    (persOf o = .per → (d.restoreMan keep).get o = d.get o) ∧
    (persOf o = .vol → keep o = false → (d.restoreMan keep).get o = objDefault d.part o) := by
  rw [Dev.restoreMan, Dev.foldl_put]
  have hread := Tab.get_setEach_of_unlisted (objDefault d.part) (objDefault d.part o) d.stored
  exact ⟨fun hper => (hread _ o hunlisted).trans (Tab.get_filter_of_kept _ _ _ _ fun v => by simp only [hper]),
    fun hvol hgoes => (hread _ o hunlisted).trans (Tab.get_filter_of_dropped _ _ _ _ fun v => by simp only [hvol, hgoes])⟩

/-- A persistent-on-commit object takes its stored value in a restore, or its default (R290). -/
theorem Dev.get_restoreMan_of_poc (keep : Nat → Bool) (d : Dev) (o : Nat) (hwf : Tab.wf (objDefault d.part) d.stored = true)
    (hpoc : persOf o = .poc) : (d.restoreMan keep).get o = Tab.get (objDefault d.part o) d.stored o := by
  rw [Dev.restoreMan, Dev.foldl_put]
  exact Tab.get_setEach_of_wf (objDefault d.part) d.stored _ o hwf
    (Tab.get_filter_of_dropped _ _ _ _ fun v => by simp only [hpoc])

/-- The LAST_SEQ of each object after a restore: those of the persistent objects, and over them the stored ones (R305). -/
theorem Dev.lastSeq_restoreMan (keep : Nat → Bool) (d : Dev) :
    (d.restoreMan keep).lastSeq =
      Tab.setEach (fun _ => 0) d.storedSeq (d.lastSeq.filter fun p => persOf p.1 == .per) := by
  rw [Dev.restoreMan, Dev.foldl_put]
  rfl

/-- Where nothing is stored of an object, its LAST_SEQ stays through a restore if it is persistent, and is gone otherwise. -/
theorem Dev.lastSeqOf_restoreMan_of_unlisted (keep : Nat → Bool) (d : Dev) (o : Nat) (hunlisted : ∀ p ∈ d.storedSeq, p.1 ≠ o) :
    (persOf o = .per → (d.restoreMan keep).lastSeqOf o = d.lastSeqOf o) ∧
    (persOf o ≠ .per → (d.restoreMan keep).lastSeqOf o = 0) := by
  rw [Dev.lastSeqOf, Dev.lastSeq_restoreMan, Tab.get_setEach_of_unlisted _ _ _ _ o hunlisted]
  exact ⟨fun hper => Tab.get_filter_of_kept _ _ _ _ fun _ => beq_iff_eq.2 hper,
    fun hother => Tab.get_filter_of_dropped _ _ _ _ fun _ => beq_eq_false_iff_ne.2 hother⟩

/-- A persistent-on-commit object takes its stored LAST_SEQ in a restore (R305). -/
theorem Dev.lastSeqOf_restoreMan_of_poc (keep : Nat → Bool) (d : Dev) (o : Nat) (hwf : Tab.wf (fun _ => 0) d.storedSeq = true)
    (hpoc : persOf o = .poc) : (d.restoreMan keep).lastSeqOf o = Tab.get 0 d.storedSeq o := by
  rw [Dev.lastSeqOf, Dev.lastSeq_restoreMan]
  exact Tab.get_setEach_of_wf (fun _ => 0) d.storedSeq _ o hwf
    (Tab.get_filter_of_dropped _ _ _ _ fun _ => beq_eq_false_iff_ne.2 (by simp [hpoc]))

/-- Off keeps of the objects what a restore that keeps no volatile object does. -/
theorem Dev.offState_objects (d : Dev) (o : Nat) :
    d.offState.get o = (d.restoreMan fun _ => false).get o ∧ d.offState.lastSeqOf o = (d.restoreMan fun _ => false).lastSeqOf o :=
  ⟨rfl, rfl⟩

/-- What the loss of VAUX sends on the pins changes no object's restore. -/
theorem effVauxLoss_objects (d : Dev) (o : Nat) :
    (effVauxLoss d).get o = (d.restoreMan fun _ => false).get o ∧
    (effVauxLoss d).lastSeqOf o = (d.restoreMan fun _ => false).lastSeqOf o := by
  obtain ⟨pins, hpins⟩ := d.loseVaux_frame
  obtain ⟨hget, hlast⟩ := d.loseVaux.offState_objects o
  rw [effVauxLoss, hget, hlast, hpins]
  simp only [Dev.restoreMan, Dev.foldl_put]
  exact ⟨rfl, rfl⟩

/-- Settles O8, by the object's persistence class: nothing is stored of an object that is not persistent-on-commit. -/
theorem powerLossKeepsPersistent : Obligations.PowerLossKeepsPersistent := by
  unfold Obligations.PowerLossKeepsPersistent
  intro s o ⟨_, _, hseqs⟩ hstored hpoc hpocSeq
  obtain ⟨hget, hlast⟩ := effVauxLoss_objects s.dev o
  have hunlisted {t : Tab Nat} (hkeys : ∀ p ∈ t, persOf p.1 = .poc) (hclass : persOf o ≠ .poc) : ∀ p ∈ t, p.1 ≠ o :=
    fun p hp heq => hclass (heq ▸ hkeys p hp)
  refine ⟨effVauxLoss s.dev, rfl, fun hper => ?persistent, fun hcommit => ?onCommit, fun hvol => ?volatile⟩
  case persistent =>
    have hclass : persOf o ≠ .poc := by simp [hper]
    obtain ⟨hvalue, -⟩ := s.dev.get_restoreMan_of_unlisted (fun _ => false) o (hunlisted hpoc hclass)
    obtain ⟨hseq, -⟩ := s.dev.lastSeqOf_restoreMan_of_unlisted (fun _ => false) o (hunlisted hpocSeq hclass)
    exact ⟨hget.trans (hvalue hper), hlast.trans (hseq hper)⟩
  case onCommit =>
    exact ⟨hget.trans (s.dev.get_restoreMan_of_poc _ o hstored hcommit),
      hlast.trans (s.dev.lastSeqOf_restoreMan_of_poc _ o hseqs hcommit)⟩
  case volatile =>
    have hclass : persOf o ≠ .poc := by simp [hvol]
    obtain ⟨-, hvalue⟩ := s.dev.get_restoreMan_of_unlisted (fun _ => false) o (hunlisted hpoc hclass)
    obtain ⟨-, hseq⟩ := s.dev.lastSeqOf_restoreMan_of_unlisted (fun _ => false) o (hunlisted hpocSeq hclass)
    exact ⟨hget.trans (hvalue hvol rfl), hlast.trans (hseq (by simp [hvol]))⟩

end Sys2Proof.Machine
end

section
/-!
PROOFS. A ZMP write, by the shape of its row, and ZMP operations, frames and IDENTIFY (R294, R300 to R302).
-/

namespace Sys2Proof.Machine

open Sys2Proof

/-- A ZMP write completes where the object's check lets it through. -/
theorem writes_of_zmpRow {i : Instr} {c : Call} {o w : Nat} {own : Dev → Prop} {a : Act}
    (arm : ∀ s : State, exec i s = zmpRow a c o w s)
    (hcheck : ∀ d : Dev, own d → a.check c (valueOf c w) d = Status.success) {f : Nat → Dev → Dev} {r : Dev → Reply}
    (heffect : a.effect c (valueOf c w) = f) (hreply : ∀ d : Dev, a.reply c (valueOf c w) d.nextSeq d = r d) :
    Writes i c o w own f r Dev.messageEnd := by
  subst heffect
  intro s hadmits hown
  rw [arm, zmpRow_accepted a c o w s hadmits (hcheck s.dev hown), hreply]

/-- A reading operation answers a caller that is heard. -/
theorem Dev.answering_of_open (f : Dev → Dev × OpAnswer) (c : Call) (d : Dev) (hopen : d.callerOpen c.caller = true) :
    d.answering f c = (f d).1.send (.answer c.caller (f d).2) :=
  if_pos hopen

/-- A secured frame from the binding of its session reaches it (R296). -/
theorem Dev.securedFrame_of_bound {b : Binding} {slot : Nat} (m : ZmpMsg) {d : Dev} {x : Session} (hsession : d.session slot = some x)
    (hbinding : x.binding = b.address) : d.securedFrame b slot m = d.zmpMessage x m := by
  simp only [Dev.securedFrame, hsession, hbinding, if_true]

/-- A frame with a sound header and a sound length is taken by its body (R294). -/
theorem effZmpFrame_of_sound (f : Frame) (d : Dev) {slot : Nat} {m : ZmpMsg} (hheard : d.hearsFrame f.binding = true)
    (hmagic : f.magic = 0x5A4D) (hversion : f.version = 1) (hlen : f.lenOk = true) (hbody : f.bodyLen ≤ 4224)
    (hsecured : f.body = .secured slot m) : effZmpFrame f d = d.securedFrame f.binding slot m := by
  simp [effZmpFrame, hheard, hmagic, hversion, hlen, Nat.not_lt.2 hbody, hsecured]

/-- Settles O43, operation by operation, and then a frame and IDENTIFY. -/
theorem zmpOperationsComplete : Obligations.ZmpOperationsComplete := by
  unfold Obligations.ZmpOperationsComplete
  refine ⟨fun c o => ?read, fun c o => ?describe, fun c o => ?next, fun c o v => ?write, fun c o seq v => ?writeCas,
    fun f slot m x => ?frame, fun b => ?identify⟩
  case read => exact runs_of_liveLift (fun _ => rfl) fun d hopen => d.answering_of_open _ c hopen
  case describe => exact runs_of_liveLift (fun _ => rfl) fun d hopen => d.answering_of_open _ c hopen
  case next => exact runs_of_liveLift (fun _ => rfl) fun d hopen => d.answering_of_open _ c hopen
  case write => exact writes_of_zmpRow (fun _ => rfl) (fun _ hcheck => hcheck) rfl fun _ => rfl
  case writeCas => exact writes_of_zmpRow (fun _ => rfl) (fun _ hcheck => hcheck) rfl fun _ => rfl
  case frame =>
    exact runs_of_liveLift (fun _ => rfl) fun d ⟨hheard, hmagic, hversion, hlen, hbody, hsecured, hsession, hbinding⟩ =>
      (effZmpFrame_of_sound f d hheard hmagic hversion hlen hbody hsecured).trans (d.securedFrame_of_bound m hsession hbinding)
  case identify => exact runs_of_liveLift (fun _ => rfl) fun _ hheard => if_pos hheard

end Sys2Proof.Machine
end

section
/-!
PROOFS. Events, deferred answers and sessions (R298, R306, R309, R310).
-/

namespace Sys2Proof.Machine

open Sys2Proof

/-- Settles O44: two events of every session, a deferred answer that is ready, and the two ends of a session. -/
theorem sessionsComplete : Obligations.SessionsComplete := by
  unfold Obligations.SessionsComplete
  refine ⟨fun slot seq => ?acknowledge, ?retry, fun slot seq status value => ?answer, fun c v => ?close, fun slot => ?heartbeat⟩
  case acknowledge => exact runs_of_liveLift (fun _ => rfl) fun _ _ => rfl
  case retry => exact runs_of_liveLift (fun _ => rfl) fun _ _ => rfl
  case answer => exact runs_of_liveLift (fun _ => rfl) fun _ hready => if_pos hready
  case close => exact writes_of_zmpRow (fun _ => rfl) (fun _ _ => rfl) (by dsimp only [actSessionClose]) fun _ => rfl
  case heartbeat => exact runs_of_liveLift (fun _ => rfl) fun _ hopen => if_pos hopen

end Sys2Proof.Machine
end

section
/-!
PROOFS. Configuration and groups (R290, R291, R307, R308).
-/

namespace Sys2Proof.Machine

open Sys2Proof

/-- Settles O45, command by command; the two commands on a group share its check. -/
theorem configurationCompletes : Obligations.ConfigurationCompletes := by
  unfold Obligations.ConfigurationCompletes
  refine ⟨fun c v => ?store, fun c v => ?restore, fun c g => ?claim, fun c g => ?release⟩
  case store => exact writes_of_zmpRow (fun _ => rfl) (fun _ _ => rfl) (by dsimp only [actStore]) fun _ => rfl
  case restore =>
    exact writes_of_zmpRow (fun _ => rfl) (fun _ hslipway => if_pos hslipway) (by dsimp only [actRestoreDefaults]) fun _ => rfl
  case claim =>
    exact writes_of_zmpRow (a := actGroupClaim) (fun _ => rfl) (fun _ hgroup => hgroup) (by dsimp only [actGroupClaim]) fun _ => rfl
  case release =>
    exact writes_of_zmpRow (a := actGroupRelease) (fun _ => rfl) (fun _ hgroup => hgroup) (by dsimp only [actGroupRelease]) fun _ => rfl

end Sys2Proof.Machine
end

section
/-!
PROOFS. Fabric time (R311, R312).
-/

namespace Sys2Proof.Machine

open Sys2Proof

/-- Settles O46: a measurement of the selected source, the loss of a source, and a change of it. -/
theorem fabricTimeCompletes : Obligations.FabricTimeCompletes := by
  unfold Obligations.FabricTimeCompletes
  refine ⟨fun src offset => ?measurement, ?holdover, fun c v => ?source⟩
  case measurement => exact runs_of_liveLift (fun _ => rfl) fun _ hselected => if_pos hselected
  case holdover => exact runs_of_liveLift (fun _ => rfl) fun _ hlocked => if_pos hlocked
  case source => exact writes_of_zmpRow (fun _ => rfl) (fun _ _ => rfl) (by dsimp only [actTimeSource]) fun _ => rfl

end Sys2Proof.Machine
end

section
/-!
PROOFS. The FM API (R314, Table 10.16).
-/

namespace Sys2Proof.Machine

open Sys2Proof

/-- A command of the FM API, on a transport that may carry it, is carried out, and what follows a message follows. -/
theorem runs_of_fmRow {i : Instr} {b : Binding} {f : Dev → Dev} (arm : ∀ s : State, exec i s = fmRow b f s) :
    Runs i (fun d => d.fmOpen b = true) fun d => (f d).messageEnd :=
  runs_of_liveLift arm fun _ hopen => if_pos hopen

/-- A command of the FM API whose meaning is the effect `eff` completes with `f`, where `eff` is `f` under the command's own
condition. -/
theorem runs_of_fmRow_under {i : Instr} {b : Binding} {own : Dev → Prop} {eff f : Dev → Dev}
    (arm : ∀ s : State, exec i s = fmRow b eff s) (heff : ∀ d : Dev, own d → eff d = f d) :
    Runs i (fun d => d.fmOpen b = true ∧ own d) fun d => (f d).messageEnd :=
  runs_of_liveLift arm fun d ⟨hopen, hown⟩ => (if_pos hopen).trans (congrArg Dev.messageEnd (heff d hown))

/-- A release of pages that lie in the berth is reported as good (R199, R314). -/
theorem effInitiateDynamicCapacityRelease_of_inBerth (n first pages : Nat) (d : Dev) (hpages : d.inBerth n first pages = true) :
    effInitiateDynamicCapacityRelease n first pages d = (effCapacityRelease n first pages d).fm FmCmd.capacityRelease 0 0 := by
  simp only [effInitiateDynamicCapacityRelease, hpages, Bool.not_true, b2n, Bool.false_eq_true, if_false, Nat.mul_zero]

/-- Settles O47, command by command: on an open transport each takes the branch of its own condition. -/
theorem fmApiCompletes : Obligations.FmApiCompletes := by
  unfold Obligations.FmApiCompletes
  refine ⟨fun b => ?identify, fun b l => ?portState, fun b q => ?resetPort, fun b code => ?unlisted, fun b q => ?switchInfo,
    fun b q v t => ?bind, fun b q v => ?unbind, fun b q body => ?tunnel, fun b req => ?capacityFree, fun b l a => ?capacityPrescribed,
    fun b n first pages => ?capacityRelease, fun b count => ?getEvents, fun b upTo => ?clearEvents, fun b m => ?zmp⟩
  case identify => exact runs_of_fmRow fun _ => rfl
  case portState => exact runs_of_fmRow fun _ => rfl
  case resetPort => exact runs_of_fmRow fun _ => rfl
  case unlisted => exact runs_of_fmRow fun _ => rfl
  case switchInfo => exact runs_of_fmRow_under (fun _ => rfl) fun _ hhost => if_pos hhost
  case bind => exact runs_of_fmRow_under (fun _ => rfl) fun _ hfree => if_pos hfree
  case unbind => exact runs_of_fmRow_under (fun _ => rfl) fun _ hbound => if_pos hbound
  case tunnel => exact runs_of_fmRow_under (fun _ => rfl) fun _ hdevice => if_pos hdevice
  case capacityFree => exact runs_of_fmRow fun _ => rfl
  case capacityPrescribed => exact runs_of_fmRow fun _ => rfl
  case capacityRelease =>
    exact runs_of_fmRow_under (fun _ => rfl) fun d hpages => effInitiateDynamicCapacityRelease_of_inBerth n first pages d hpages
  case getEvents => exact runs_of_fmRow fun _ => rfl
  case clearEvents => exact runs_of_fmRow fun _ => rfl
  case zmp => exact runs_of_fmRow fun _ => rfl

end Sys2Proof.Machine
end

section
/-!
PROOFS. PLDM and MCTP control (R295, R313, R344, R471).
-/

namespace Sys2Proof.Machine

open Sys2Proof

/-- A command whose meaning is the effect `eff` in every state, applied where the effect is known. -/
theorem exec_of_lift {i : Instr} {eff : Dev → Dev} {s : State} {d : Dev} (arm : exec i s = lift eff s) (heff : eff s.dev = d) :
    exec i s = .next { s with dev := d } := by
  rw [arm, lift, heff]

/-- Get PLDM Types lists types 0, 2 and 5 (Table 10.15). -/
theorem effPldmBaseCommand_of_getTypes (b : Binding) (d : Dev) (hheard : d.hearsMctp b = true) :
    effPldmBaseCommand b 4 d = d.pldm 4 0 0x25 := by
  simp only [effPldmBaseCommand, hheard, Bool.not_true, Bool.false_eq_true, if_false, if_true]

/-- A reading of a sensor whose object exists is what the FM API reads of the object (R313). -/
theorem effPldmPlatformCommand_of_sensor (b : Binding) (n : Nat) (d : Dev) {o : Nat} (hheard : d.hearsMctp b = true)
    (hsensor : sensorKey n = some o) (hexists : d.exists' o = true) :
    effPldmPlatformCommand b (.sensorReading n) d = d.pldm PldmCode.getReading 0 (d.view .fmApi o) := by
  simp only [effPldmPlatformCommand, hheard, Bool.not_true, Bool.false_eq_true, if_false, hsensor, hexists, if_true]

/-- A running device takes an update from a manager's transport while PLDM_UPDATE_ENABLE is set (R344). -/
theorem Dev.liveUpdate_of_enabled (b : Binding) (i : Image) (d : Dev) (hheard : d.hearsMctp b = true)
    (henabled : d.get Obj.pldmUpdateEnable = 1) (hmanager : d.capsManager b = true) :
    d.liveUpdate b i = (d.update d.updateSlot i).pldm 0 0 (b2n (d.imageValid i)) := by
  simp only [Dev.liveUpdate, hheard, Bool.not_true, Bool.false_eq_true, if_false, if_pos (And.intro henabled hmanager)]

/-- The recovery loader takes an update while it runs (R471). -/
theorem effPldmFirmwareUpdate_of_loader (b : Binding) (u : ImageUpdate) (d : Dev) (hloader : d.boot = .loader) :
    effPldmFirmwareUpdate b u d = d.loaderUpdate b u :=
  if_pos hloader

/-- A device that runs takes an update itself (R344). -/
theorem effPldmFirmwareUpdate_of_running (b : Binding) (u : ImageUpdate) (d : Dev) (hpowered : d.powered = true)
    (hrunning : d.boot = .running) : effPldmFirmwareUpdate b u d = d.liveUpdate b u.image := by
  simp only [effPldmFirmwareUpdate, hrunning, reduceCtorEq, if_false, hpowered, if_true]

/-- Get Message Type Support lists the types of R295. -/
theorem effMctpControl_of_getTypes (b : Binding) (d : Dev) (hopen : d.mctpOpen b = true) :
    effMctpControl b 5 d = d.send (.proto 2 5 0 mctpTypes) := by
  simp only [effMctpControl, hopen, Bool.not_true, Bool.false_eq_true, if_false, if_true]

/-- Settles O48, command by command; an update by who takes it, the running device or the recovery loader. -/
theorem pldmAndMctpComplete : Obligations.PldmAndMctpComplete := by
  unfold Obligations.PldmAndMctpComplete
  refine ⟨fun b a => ?types, fun b n o => ?sensor, fun b i s hpowered => ?update, fun b i s hloader _ => ?loader,
    fun b a s hopen => ?mctpTypes⟩
  case types => exact runs_of_liveLift (fun _ => rfl) fun d hheard => effPldmBaseCommand_of_getTypes b d hheard
  case sensor =>
    exact runs_of_liveLift (fun _ => rfl) fun d ⟨hheard, hsensor, hexists⟩ =>
      effPldmPlatformCommand_of_sensor b n d hheard hsensor hexists
  case update =>
    rintro ⟨hrunning, hheard, henabled, hmanager⟩
    exact exec_of_lift rfl ((effPldmFirmwareUpdate_of_running b i s.dev hpowered hrunning).trans
      (s.dev.liveUpdate_of_enabled b i.image hheard henabled hmanager))
  case loader => exact exec_of_lift rfl (effPldmFirmwareUpdate_of_loader b i s.dev hloader)
  case mctpTypes => exact exec_of_lift rfl (effMctpControl_of_getTypes b s.dev hopen)

end Sys2Proof.Machine
end

section
/-!
PROOFS. Secure sessions, credentials and the keys of IDE streams (R296, R346, R349, R351 to R355).
-/

namespace Sys2Proof.Machine

open Sys2Proof

/-- A request of the responder that is heard completes with `f`, where its effect is `f` under the request's own condition. -/
theorem runs_of_spdmRow {i : Instr} {b : Binding} {own : Dev → Prop} {eff f : Dev → Dev}
    (arm : ∀ s : State, exec i s = spdmRow b eff s) (heff : ∀ d : Dev, own d → eff d = f d) :
    Runs i (fun d => d.hearsSpdm b = true ∧ own d) f :=
  runs_of_liveLift arm fun d ⟨hheard, hown⟩ => (if_pos hheard).trans (heff d hown)

/-- A key exchange in a ZMP frame, with a proof and a known certificate, opens a session for its credential (R296, R349). -/
theorem effKeyExchange_of_known (b : Binding) (k : KeyExchange) (d : Dev) {n : Nat} (hserved : d.spdmOff = false)
    (hframed : directSpdm b = false) (hsigns : d.signs = true ∨ d.get Obj.debugLevel = 3) (hproof : k.proofOk = true)
    (hcred : d.credOfLeaf k.leaf = some n) : effKeyExchange b k d = d.openSession b 0xE4 n := by
  have hable : ¬ ((!d.signs) = true ∧ d.get Obj.debugLevel ≠ 3) := by
    rintro ⟨hmute, hlevel⟩
    exact hsigns.elim (fun hsigns => by simp [hsigns] at hmute) hlevel
  simp only [effKeyExchange, hserved, hframed, hproof, hcred, Bool.not_true, Bool.false_eq_true, if_false, if_neg hable]

/-- An exchange in a ZMP frame with a pre-shared key that is known and can be unwrapped opens a session (R349). -/
theorem effPskExchange_of_known (b : Binding) (hint : Nat) (d : Dev) {n : Nat} (hserved : d.spdmOff = false)
    (hframed : directSpdm b = false) (hcred : d.findCred (fun v => credKind v == 2 && credHint v == hint) = some n)
    (hkey : (d.preShared n).isSome = true) : effPskExchange b hint true d = d.openSession b 0xE6 n := by
  simp only [effPskExchange, hserved, hframed, hcred, hkey, Bool.false_eq_true, if_false, and_self, if_true]

/-- A session that is open is some session. -/
theorem Dev.session_not_none {d : Dev} {slot : Nat} (hopen : (d.session slot).isSome = true) : ¬ (d.session slot).isNone = true := by
  rw [Option.isNone_iff_eq_none, ← Option.not_isSome_iff_eq_none, hopen]
  exact fun hnot => hnot rfl

/-- A Security Officer's chain that ends in the device's key is stored in slot 1 (R346). -/
theorem effSetCertificate_of_officer (n : Nat) (chain : CertChain) (d : Dev) {x : Session} (hsession : d.session n = some x)
    (hofficer : 3 ≤ d.sessionRole x) (huds : d.bw.udsBlown = false) (hleaf : chain.leafKey = Config.deviceIdPublic) :
    effSetCertificate n 1 chain d =
      ((d.setBw fun b => { b with chain1 := some chain.bytes }).put Obj.certSlots (setBit (d.get Obj.certSlots) 1 true)).spdm 0xEE 0 1 := by
  simp only [effSetCertificate, hsession]
  exact if_pos ⟨trivial, hofficer, by simp [huds], hleaf⟩

/-- A credential of a known kind and role is let through (R349). -/
theorem actCredential_check_success (o : Nat) (c : Call) (v : Nat) (d : Dev) (hkind : credKind v ≤ 2) (hrole : credRole v ≤ 3) :
    (actCredential o).check c v d = Status.success :=
  if_neg (not_or.2 ⟨Nat.not_lt.2 hkind, Nat.not_lt.2 hrole⟩)

/-- The entry that a credential's object names. -/
theorem credential_sub_credential_one (k : Nat) : Obj.credential (k + 1) - Obj.credential 1 = k :=
  (Nat.add_sub_add_left _ _ _).trans (Nat.add_sub_cancel _ _)

/-- As requester the device draws the key of a partner whose root is known (R355). -/
theorem effKeyProg_of_requester (q : Nat) (k : KeyProg) (d : Dev) (hserves : d.ideServes q k.stream = true)
    (hrequester : d.ideRequester q = true) (hroot : d.rootOk q k.root = true) :
    effKeyProg q k d = (d.openKm q).keySub q k.stream k.set k.sub := by
  simp only [effKeyProg, hserves, hrequester, hroot, Bool.not_true, Bool.false_eq_true, if_false, if_true]

/-- As responder the device takes the key that the partner sends (R355). -/
theorem effKeyProg_of_responder (q : Nat) (k : KeyProg) (d : Dev) (hserves : d.ideServes q k.stream = true)
    (hresponder : d.ideRequester q = false) :
    effKeyProg q k d = (d.openKm q).setIde q k.stream (IdeStream.program k.set k.sub (k.key % 2 ^ 256)) := by
  simp only [effKeyProg, hserves, hresponder, Bool.not_true, Bool.false_eq_true, if_false]

/-- K_SET_GO or K_SET_STOP reaches a stream that the quay serves, over key management that is open (R353). -/
theorem Dev.not_kSetIgnored {d : Dev} {q stream : Nat} (hstream : stream ≤ 4) (hserves : d.ideServes q stream = true)
    (hopen : d.bw.km.contains q = true) :
    ¬ (4 < stream ∨ (!d.ideServes q stream) = true ∨ (!d.bw.km.contains q) = true) := by
  simp only [hserves, hopen, Bool.not_true, Bool.false_eq_true, or_false]
  exact Nat.not_lt.2 hstream

/-- K_SET_GO of a keyed set puts it into use, and a new active set of a SECURE stream counts as an update (R353, R355). -/
theorem effKSetGo_of_keyed (q stream set : Nat) (d : Dev) (hstream : stream ≤ 4) (hserves : d.ideServes q stream = true)
    (hopen : d.bw.km.contains q = true) (hkeyed : (d.stream q stream).keyed set = true) :
    effKSetGo q stream set true d =
      let x := d.stream q stream
      let d := if d.ideRequester q = true then d.send (.ideKm q stream set none) else d
      (if x.st = 2 ∧ x.active ≠ set then d.count (Obj.ideKeyUpdates q) 1 else d).setIde q stream (IdeStream.go set) :=
  (if_neg (Dev.not_kSetIgnored hstream hserves hopen)).trans (if_pos hkeyed)

/-- A stop leaves the stream without keys (R353). -/
theorem effKSetGo_of_stop (q stream set : Nat) (d : Dev) (hstream : stream ≤ 4) (hserves : d.ideServes q stream = true)
    (hopen : d.bw.km.contains q = true) : effKSetGo q stream set false d = d.setIde q stream IdeStream.drop :=
  if_neg (Dev.not_kSetIgnored hstream hserves hopen)

/-- The requester of a SECURE stream draws the keys of its other set, and moves the stream to it (R355). -/
theorem effIdeRekey_of_secure (q stream : Nat) (d : Dev) (hstream : stream ≤ 4) (hsecure : (d.stream q stream).st = 2)
    (hrequester : d.ideRequester q = true) (hserves : d.ideServes q stream = true) :
    effIdeRekey q stream d =
      let set := 1 - (d.stream q stream).active
      let d := ((d.keySub q stream set 0).keySub q stream set 1).keySub q stream set 2
      ((d.send (.ideKm q stream set none)).count (Obj.ideKeyUpdates q) 1).setIde q stream (IdeStream.go set) := by
  refine if_neg ?_
  simp only [hsecure, hrequester, hserves, ne_eq, not_true_eq_false, Bool.not_true, Bool.false_eq_true, or_false]
  exact Nat.not_lt.2 hstream

/-- Settles O54, command and event by event: sessions, certificates and credentials, then the keys of IDE streams. -/
theorem secureSessionsComplete : Obligations.SecureSessionsComplete := by
  unfold Obligations.SecureSessionsComplete
  refine ⟨fun b k n => ?keyExchange, fun b hint n => ?pskExchange, fun slot => ?endSession, fun slot => ?keyUpdate,
    fun n chain x => ?certificate, fun c k v => ?credential, fun q k => ?requesterKeys, fun q k => ?responderKeys,
    fun q stream => ?retire, fun c q v => ?required, fun q stream set => ?keySetGo, fun q stream set => ?keySetStop,
    fun q stream => ?rekey⟩
  case keyExchange =>
    exact runs_of_spdmRow (fun _ => rfl) fun d ⟨hserved, hframed, hsigns, hproof, hcred⟩ =>
      effKeyExchange_of_known b k d hserved hframed hsigns hproof hcred
  case pskExchange =>
    exact runs_of_spdmRow (fun _ => rfl) fun d ⟨hserved, hframed, hcred, hkey⟩ =>
      effPskExchange_of_known b hint d hserved hframed hcred hkey
  case endSession => exact runs_of_liveLift (fun _ => rfl) fun _ hopen => if_neg (Dev.session_not_none hopen)
  case keyUpdate => exact runs_of_liveLift (fun _ => rfl) fun _ hopen => if_neg (Dev.session_not_none hopen)
  case certificate =>
    exact runs_of_liveLift (fun _ => rfl) fun d ⟨hsession, hofficer, huds, hleaf⟩ =>
      effSetCertificate_of_officer n chain d hsession hofficer huds hleaf
  case credential =>
    refine writes_of_messageRow (fun _ => rfl) (fun d ⟨hkind, hrole⟩ => actCredential_check_success _ c _ d hkind hrole) ?_
      fun _ => rfl
    simp only [actCredential, credential_sub_credential_one]
  case requesterKeys =>
    exact runs_of_liveLift (fun _ => rfl) fun d ⟨hserves, hrequester, hroot⟩ => effKeyProg_of_requester q k d hserves hrequester hroot
  case responderKeys =>
    exact runs_of_liveLift (fun _ => rfl) fun d ⟨hserves, hresponder⟩ => effKeyProg_of_responder q k d hserves hresponder
  case retire => exact runs_of_liveLift (fun _ => rfl) fun _ hstream => if_neg (Nat.not_lt.2 hstream)
  case required =>
    exact writes_of_writeRow (fun _ => rfl) (fun _ _ => rfl) (by dsimp only [actIdeRequired, storeAct]) fun _ => rfl
  case keySetGo =>
    exact runs_of_liveLift (fun _ => rfl) fun d ⟨hstream, hserves, hopen, hkeyed⟩ =>
      effKSetGo_of_keyed q stream set d hstream hserves hopen hkeyed
  case keySetStop =>
    exact runs_of_liveLift (fun _ => rfl) fun d ⟨hstream, hserves, hopen⟩ => effKSetGo_of_stop q stream set d hstream hserves hopen
  case rekey =>
    exact runs_of_liveLift (fun _ => rfl) fun d ⟨hstream, hsecure, hrequester, hserves⟩ =>
      effIdeRekey_of_secure q stream d hstream hsecure hrequester hserves

end Sys2Proof.Machine
end

section
/-!
PROOFS. Traffic generators, the pattern checker and the management ports (R315, R443, R444).
-/

namespace Sys2Proof.Machine

open Sys2Proof

/-- TG_START is let through for a generator that is not running and whose configuration meets Table 16.8 (R443). -/
theorem actTgStart_check_success (g : Nat) (c : Call) (v : Nat) (d : Dev) (hsound : d.tgOk (d.get (Obj.tgConfig g)) = true)
    (hstopped : d.get (Obj.tgState g) ≠ 1) : (actTgStart g).check c v d = Status.success :=
  (if_neg (by simp [hsound])).trans (if_neg hstopped)

/-- A result without an error lets a running generator issue its next request (R443). -/
theorem effTgRequestResult_of_good (g : Nat) (r : TgResult) (d : Dev) (hbusy : (d.gen g).busy = true)
    (hgood : tgError (d.get (Obj.tgConfig g)) (d.gen g) r = 0)
    (hruns : (d.setGen g fun x => { x with busy := false }).get (Obj.tgState g) = 1) :
    effTgRequestResult g r d = (d.setGen g fun x => { x with busy := false }).tgNext g := by
  simp only [effTgRequestResult, hbusy, hgood, hruns, Bool.not_true, Bool.false_eq_true, if_false, if_true, ne_eq,
    not_true_eq_false, false_and]

/-- Settles O60, command and event by event. -/
theorem generatorsComplete : Obligations.GeneratorsComplete := by
  unfold Obligations.GeneratorsComplete
  refine ⟨fun c g v => ?start, fun c g v => ?stop, fun g r => ?result, fun c v => ?pattern, fun p up => ?link⟩
  case start =>
    exact writes_of_writeRow (fun _ => rfl) (fun d ⟨hsound, hstopped⟩ => actTgStart_check_success g c _ d hsound hstopped)
      (by dsimp only [actTgStart]) fun _ => rfl
  case stop => exact writes_of_writeRow (fun _ => rfl) (fun _ _ => rfl) (by dsimp only [actTgStop]) fun _ => rfl
  case result =>
    exact runs_of_liveLift (fun _ => rfl) fun d ⟨hbusy, hgood, hruns⟩ => effTgRequestResult_of_good g r d hbusy hgood hruns
  case pattern => exact writes_of_writeRow (fun _ => rfl) (fun _ _ => rfl) (by dsimp only [actPrbsPattern]) fun _ => rfl
  case link => exact runs_of_liveLift (fun _ => rfl) fun _ _ => rfl

end Sys2Proof.Machine
end

section
/-!
PROOFS. The arrival and the loss of VAUX, and the samples of the temperature (R330, R369 to R373, R392, R450).
-/

namespace Sys2Proof.Machine

open Sys2Proof

/-- An event that has a meaning of its own on a device that does not run completes on one that does. -/
theorem runs_of_ifPowered {i : Instr} {c : Dev → Prop} {eff idle f : Dev → Dev}
    (arm : ∀ s : State, exec i s = lift (fun d => if d.powered then eff d else idle d) s)
    (heff : ∀ d : Dev, c d → eff d = f d) : Runs i c f := by
  intro s hpowered hc
  rw [arm, lift, if_pos hpowered, heff s.dev hc]

/-- VAUX that comes good in Off starts the device, or holds it in its ROM with TEST_MODE (R370, R450). -/
theorem exec_vauxGood_of_off (f : StartFacts) (s : State) (hoff : s.dev.boot = .off) :
    exec (.vauxGood f) s = .next { s with
      dev :=
        if f.testMode then { s.dev.vauxRises f.ethMode with boot := .held } else (s.dev.vauxRises f.ethMode).powerUp f.env } := by
  have heff : effVauxGood f s.dev = _ := if_neg fun hon => hon hoff
  rw [← heff]
  rfl

/-- A restore changes the objects and their LAST_SEQ alone. -/
theorem Dev.restoreMan_frame (keep : Nat → Bool) (d : Dev) :
    ∃ (man seqs : Tab Nat), d.restoreMan keep = { d with man := man, lastSeq := seqs } := by
  rw [Dev.restoreMan, Dev.foldl_put]
  exact ⟨_, _, rfl⟩

/-- Off keeps the part, the Ledger and the pages of the memory, and what has been sent. -/
theorem Dev.offState_keeps (d : Dev) :
    d.offState.part = d.part ∧ d.offState.pool.ledger = d.pool.ledger ∧ d.offState.pool.pages = d.pool.pages ∧
      d.offState.sent = d.sent := by
  obtain ⟨man, seqs, hrestore⟩ := d.restoreMan_frame fun _ => false
  rw [Dev.offState, hrestore]
  exact ⟨rfl, rfl, rfl, rfl⟩

/-- A sample of the temperature on a device that runs, and on one that its ROM or the recovery loader holds (R330, R373). -/
theorem exec_thermalSample (tj : Nat) (s : State) :
    exec (.thermalSample tj) s =
      lift (fun d => if d.powered then effThermalSample tj d else if d.boot = .off then d else d.thermalQuiet tj) s := rfl

/-- A sample of the temperature throttles a device whose core rails are up, before it is judged against Types 44 and 45 (R330). -/
theorem effThermalSample_of_coreOn (tj : Nat) (d : Dev) (hcore : (d.put Obj.tjMax tj).coreOn = true) :
    effThermalSample tj d = (((d.put Obj.tjMax tj).throttle tj).thermalError tj).thermalTrip tj := by
  rw [effThermalSample, if_pos hcore]

/-- With the core rails down nothing is throttled (R330). -/
theorem effThermalSample_of_coreOff (tj : Nat) (d : Dev) (hcore : (d.put Obj.tjMax tj).coreOn = false) :
    effThermalSample tj d = ((d.put Obj.tjMax tj).thermalError tj).thermalTrip tj := by
  rw [effThermalSample, if_neg (ne_true_of_eq_false hcore)]

/-- Settles O28: VAUX by what a start and Off do, and a sample by whether the core rails are up. -/
theorem vauxAndThermalComplete : Obligations.VauxAndThermalComplete := by
  unfold Obligations.VauxAndThermalComplete
  refine ⟨fun f s hoff htest => ?start, fun f s hoff htest => ?hold, fun s => ?loss, fun tj => ?coreDown, fun tj => ?coreUp⟩
  case start => rw [exec_vauxGood_of_off f s hoff, if_neg (ne_true_of_eq_false htest)]
  case hold => rw [exec_vauxGood_of_off f s hoff, if_pos htest]
  case loss =>
    obtain ⟨pins, hpins⟩ := s.dev.loseVaux_frame
    obtain ⟨hpart, hledger, hpages, hsent⟩ := s.dev.loseVaux.offState_keeps
    refine ⟨effVauxLoss s.dev, rfl, rfl, rfl, hpart.trans ?_, rfl, rfl, rfl, rfl, rfl, rfl, rfl, hledger.trans ?_,
      hpages.trans ?_, hsent⟩
    all_goals rw [hpins]
  case coreDown => exact runs_of_ifPowered (exec_thermalSample tj) fun d hcore => effThermalSample_of_coreOff tj d hcore
  case coreUp => exact runs_of_ifPowered (exec_thermalSample tj) fun d hcore => effThermalSample_of_coreOn tj d hcore

end Sys2Proof.Machine
end

section
/-!
PROOFS. AVS, the droop monitor and the governor (R319 to R323).
-/

namespace Sys2Proof.Machine

open Sys2Proof

/-- A droop that starts is counted, and is reported once (R320). -/
theorem effDroop_of_start (d : Dev) (hcore : d.coreOn = true) (hnew : d.tide.droop = false) :
    effDroop true d = ((d.count Obj.droopEvents 1).event 0xC400 0x62 1 {}).setTide fun t => { t with droop := true } := by
  simp only [effDroop, hcore, hnew, Bool.not_true, Bool.not_false, Bool.and_true, Bool.false_eq_true, if_false, if_true]

/-- A droop that has recovered is over, and counts nothing (R320). -/
theorem effDroop_of_end (d : Dev) (hcore : d.coreOn = true) :
    effDroop false d = d.setTide fun t => { t with droop := false } := by
  simp only [effDroop, hcore, Bool.not_true, Bool.false_and, Bool.false_eq_true, if_false]

/-- With a forewarning in force and no chain a governor window announces nothing, and moves the ceiling and the estimate towards
the demand (R321, R322). -/
theorem effGovernorWindow_of_warned (demand : Nat) (d : Dev) (hcore : d.coreOn = true) (halone : d.chained = false)
    (hwarned : d.tide.fore.isSome = true) :
    effGovernorWindow demand d =
      (let target := min demand d.tide.cap
       let ceil := min (d.get Obj.currentCeiling) d.tide.cap
       let up := if d.tide.droop = true then ceil else max ceil (min (d.riseTo target) (ceil + d.windowRise))
       let next := d.estimate (min demand up)
       let ceil' := if target < ceil then max target next else up
       ((if up < demand then d.event 0xC400 0x60 100 {} else d).putAll
          [(Obj.coreCurrentEst, next), (Obj.currentCeiling, ceil')]).setTide
         fun t => { t with demand := demand, raised := t.raised || decide (d.get Obj.currentCeiling < ceil') }) := by
  have hfore : d.tide.fore.isNone = false := Option.isNone_eq_false_iff.2 hwarned
  simp only [effGovernorWindow, hcore, halone, hfore, Bool.not_true, Bool.false_eq_true, if_false, false_and]

/-- A forewarning ends with its ramp, which releases TIDE_FORE_N (R323). -/
theorem effForeRampEnd_of_ramping (d : Dev) (f : Fore) (hfore : d.tide.fore = some f) (hramping : f.ramping = true) :
    effForeRampEnd d = (d.setTide fun t => { t with fore := none }).send (.pin Pin.fore 1) := by
  simp only [effForeRampEnd, hfore, hramping, if_true]

/-- Settles O49, event by event: under its condition each event's effect takes the branch that the statement writes out. -/
theorem governorCompletes : Obligations.GovernorCompletes := by
  unfold Obligations.GovernorCompletes
  refine ⟨fun rate => ?avs, ?droopStart, ?droopEnd, fun volts => ?droopFatal, fun demand => ?window, ?leadExpiry,
    fun f => ?rampEnd⟩
  case avs => exact runs_of_liveLift (fun _ => rfl) fun _ hcore => if_neg (by simp [hcore])
  case droopStart => exact runs_of_liveLift (fun _ => rfl) fun d ⟨hcore, hnew⟩ => effDroop_of_start d hcore hnew
  case droopEnd => exact runs_of_liveLift (fun _ => rfl) effDroop_of_end
  case droopFatal => exact runs_of_liveLift (fun _ => rfl) fun _ hfatal => if_pos hfatal
  case window =>
    exact runs_of_liveLift (fun _ => rfl) fun d ⟨hcore, halone, hwarned⟩ =>
      effGovernorWindow_of_warned demand d hcore halone hwarned
  case leadExpiry => exact runs_of_liveLift (fun _ => rfl) fun _ _ => rfl
  case rampEnd =>
    exact runs_of_liveLift (fun _ => rfl) fun d ⟨hfore, hramping⟩ => effForeRampEnd_of_ramping d f hfore hramping

end Sys2Proof.Machine
end

section
/-!
PROOFS. The chain, and the reading of a rail's regulator (R318, R325 to R328).
-/

namespace Sys2Proof.Machine

open Sys2Proof

/-- A sound frame of another device goes on, and a step that it announces is noted (R325, R326). -/
theorem effSyncFrame_of_foreign (f : Nat) (d : Dev) (henabled : d.get Obj.syncEnable ≠ 0) (hsound : frameOk f = true)
    (hforeign : bits f 27 5 ≠ (d.put Obj.syncState 1).get Obj.syncPosition) :
    effSyncFrame f d =
      (let d := (d.put Obj.syncState 1).forwardFrame f
       if bits f 25 2 = 0 then d.noteStep f else d) :=
  (if_neg (by simp [henabled, hsound])).trans (if_neg hforeign)

/-- A linear reading of a regulator whose bus works is taken, and the rail is silent no more (R318). -/
theorem effRailPmbusRead_of_answer (r volts current vout : Nat) (d : Dev) (hfree : d.busFree 48 = true)
    (hlinear : voutLinear vout = true) (hworks : (d.railSends r).get (Obj.busState 48) ≠ 2) :
    effRailPmbusRead r (some (volts, current, vout)) d =
      ((d.railSends r).putAll
        [(Obj.railVoltage r, pmbusValue 1 vout volts 65536), (Obj.railCurrent r, pmbusValue 0 0 current 65536)]).setTide
        fun t => { t with silent := setBit t.silent r false } := by
  have htaken : (voutLinear vout && (d.railSends r).get (Obj.busState 48) != 2) = true := by simp [hlinear, hworks]
  simp only [effRailPmbusRead, hfree, Option.filter_some, htaken, Bool.not_true, Bool.false_eq_true, if_false, if_true]

/-- Settles O50, event by event: under its condition each event's effect takes the branch that the statement writes out. -/
theorem chainAndRailsComplete : Obligations.ChainAndRailsComplete := by
  unfold Obligations.ChainAndRailsComplete
  refine ⟨fun f => ?frame, fun f => ?frameOff, ?heartbeat, ?broken, fun r v i m => ?reading⟩
  case frame =>
    exact runs_of_liveLift (fun _ => rfl) fun d ⟨henabled, hsound, hforeign⟩ =>
      effSyncFrame_of_foreign f d henabled hsound hforeign
  case frameOff => exact runs_of_liveLift (fun _ => rfl) fun _ hoff => if_pos (.inl hoff)
  case heartbeat => exact runs_of_liveLift (fun _ => rfl) fun _ hfirst => if_pos hfirst
  case broken => exact runs_of_liveLift (fun _ => rfl) fun _ hunreported => if_pos hunreported
  case reading =>
    exact runs_of_liveLift (fun _ => rfl) fun d ⟨hfree, hlinear, hworks⟩ =>
      effRailPmbusRead_of_answer r v i m d hfree hlinear hworks

end Sys2Proof.Machine
end

section
/-!
PROOFS. The power of slots and of backplane channels (R331 to R339).
-/

namespace Sys2Proof.Machine

open Sys2Proof

/-- An event of a slot or of a backplane channel completes with `f`, where its effect is `f` under the event's condition. -/
theorem runs_of_slotLift {i : Instr} {c : Dev → Prop} {eff f : Dev → Dev} (arm : ∀ s : State, exec i s = slotLift eff s)
    (heff : ∀ d : Dev, c d → eff d = f d) : Runs i c f :=
  runs_of_ifPowered (idle := fun d => if d.boot = .off then d else d.quietly eff) arm heff

/-- A byte at least holds 1. -/
theorem valueOf_one (c : Call) (hlen : 1 ≤ c.len) : valueOf c 1 = 1 :=
  Nat.one_mod_two_pow (by omega)

/-- Any length holds 0. -/
@[simp] theorem valueOf_zero (c : Call) : valueOf c 0 = 0 := Nat.zero_mod _

/-- SLOT_POWER 1 powers a slot that is SEATED (R331, Table 11.5). -/
theorem writes_slotPowerOn (c : Call) (n : Fin 48) :
    Writes (.slotPowerOn c n) c (Obj.slotPower n) 1 (fun _ => 1 ≤ c.len) fun _ d =>
      if d.slotState n = 2 then d.put (Obj.slotState n) 4 else d := by
  intro s hadmits hlen
  have hvalue := valueOf_one c hlen
  have hwrites : Writes (.slotPowerOn c n) c (Obj.slotPower n) 1 anyTime fun _ d =>
      if d.slotState n = 2 then d.put (Obj.slotState n) 4 else d :=
    writes_of_writeRow (a := actSlotPower n) (fun _ => rfl) (fun _ _ => if_pos (Nat.le_of_eq hvalue))
      (by simp only [actSlotPower, hvalue, if_true]) fun _ => rfl
  exact hwrites s hadmits trivial

/-- SLOT_POWER 0 turns a slot off (R331, Table 11.5). -/
theorem writes_slotPowerOff (c : Call) (n : Fin 48) :
    Writes (.slotPowerOff c n) c (Obj.slotPower n) 0 anyTime fun _ d => d.slotOff n 2 :=
  writes_of_writeRow (a := actSlotPower n) (fun _ => rfl) (fun _ _ => if_pos (by simp))
    (by simp only [actSlotPower, valueOf_zero, Nat.zero_ne_one, if_false]) fun _ => rfl

/-- The seat that goes from a slot whose gate is on takes the gate away, with a warning (R331, R337). -/
theorem effSlotSeatEdge_of_unseated (n : Nat) (d : Dev)
    (hgate : ((d.setFlag n Flag.seated false).setSlot n fun c => { c with steady := false }).gateOn n = true) :
    effSlotSeatEdge n false d =
      (((d.setFlag n Flag.seated false).setSlot n fun c => { c with steady := false }).slotWarn n true).gateOff n 1 :=
  if_pos ⟨hgate, rfl⟩

/-- Power-good without a fault timer ends a ramp in POWERED (R335). -/
theorem effSlotPowerGood_of_ramping (n : Nat) (d : Dev) (htimer : d.flag n Flag.timer = false) (hramping : d.slotState n = 5) :
    effSlotPowerGood n d =
      ((d.put (Obj.slotState n) 6).setFlag n Flag.good true).setSlot n fun c => { c with perstDue := d.coreOn } :=
  (if_neg (ne_true_of_eq_false htimer)).trans (if_pos hramping)

/-- Settles O51, command and event by event: under its condition each takes the branch that the statement writes out. -/
theorem slotPowerCompletes : Obligations.SlotPowerCompletes := by
  unfold Obligations.SlotPowerCompletes
  refine ⟨fun n => ?presence, fun n => ?seated, fun n => ?debounce, writes_slotPowerOn, fun n => ?ramp, fun n => ?powerGood,
    fun n => ?perst, writes_slotPowerOff, fun n => ?unseated, fun n => ?presenceLost, fun n => ?limit, fun n => ?recover,
    fun n => ?timer, fun n => ?hardTrip, fun n => ?cooldown, fun n => ?retry, fun c n v => ?resetFault, fun n => ?inputLow⟩
  case presence => exact runs_of_slotLift (fun _ => rfl) fun _ hempty => if_pos hempty
  case seated => exact runs_of_slotLift (fun _ => rfl) fun _ _ => if_neg (by simp)
  case debounce =>
    exact runs_of_slotLift (fun _ => rfl) fun _ ⟨hpresent, hsteady, hcool⟩ => if_pos ⟨hpresent, hsteady, by simp [hcool]⟩
  case ramp => exact runs_of_slotLift (fun _ => rfl) fun _ hsupplied => if_pos hsupplied
  case powerGood =>
    exact runs_of_slotLift (fun _ => rfl) fun d ⟨htimer, hramping⟩ => effSlotPowerGood_of_ramping n d htimer hramping
  case perst => exact runs_of_slotLift (fun _ => rfl) fun _ hdue => if_pos hdue
  case unseated => exact runs_of_slotLift (fun _ => rfl) fun d hgate => effSlotSeatEdge_of_unseated n d hgate
  case presenceLost =>
    refine runs_of_slotLift (fun _ => rfl) fun d hpresent => ?_
    simp only [effSlotPresenceLost, hpresent, if_false]
    -- The closing of the decisions and the quay that goes down are the same for whatever device the gate leaves.
    generalize Dev.setSlot n.val _ _ = e
    rfl
  case limit => exact runs_of_slotLift (fun _ => rfl) fun _ hgate => if_pos hgate
  case recover => exact runs_of_slotLift (fun _ => rfl) fun _ _ => rfl
  case timer => exact runs_of_slotLift (fun _ => rfl) fun _ htimer => if_pos htimer
  case hardTrip => exact runs_of_slotLift (fun _ => rfl) fun _ hgate => if_pos hgate
  case cooldown => exact runs_of_slotLift (fun _ => rfl) fun _ hcooling => if_pos hcooling
  case retry => exact runs_of_slotLift (fun _ => rfl) fun _ hwaits => if_pos hwaits
  case resetFault =>
    exact writes_of_writeRow (fun _ => rfl) (fun _ _ => rfl) (by dsimp only [actSlotResetFault]) fun _ => rfl
  case inputLow => exact runs_of_slotLift (fun _ => rfl) fun _ _ => rfl

/-- Settles O52, command and event by event: under its condition each takes the branch that the statement writes out. -/
theorem backplanesComplete : Obligations.BackplanesComplete := by
  unfold Obligations.BackplanesComplete
  refine ⟨fun c b v => ?enable, fun b => ?prechargeDone, fun b => ?prechargeExpiry, fun b => ?cooldownEnd,
    fun b => ?overcurrent, fun c b v => ?resetFault⟩
  case enable => exact writes_of_writeRow (fun _ => rfl) (fun _ _ => rfl) (by dsimp only [actBpEnable]) fun _ => rfl
  case prechargeDone => exact runs_of_slotLift (fun _ => rfl) fun _ hprecharge => if_pos hprecharge
  case prechargeExpiry => exact runs_of_slotLift (fun _ => rfl) fun _ hprecharge => if_pos hprecharge
  case cooldownEnd => exact runs_of_slotLift (fun _ => rfl) fun _ hcooldown => if_pos hcooldown
  case overcurrent => exact runs_of_slotLift (fun _ => rfl) fun _ hon => if_pos hon
  case resetFault => exact writes_of_writeRow (fun _ => rfl) (fun _ _ => rfl) (by dsimp only [actBpResetFault]) fun _ => rfl

end Sys2Proof.Machine
end

section
/-!
PROOFS. Every command as a change of the device alone, and what it leaves of a device that is Off (R370).
-/

namespace Sys2Proof.Machine

open Sys2Proof

/-- The command's meaning changes the device and leaves the queue; unless it is the arrival or the loss of VAUX, it leaves a
device that is Off as it is. -/
def ActsOnDevice (i : Instr) : Prop :=
  ∃ eff : Dev → Dev, (∀ s : State, exec i s = lift eff s) ∧ (notVaux i = true → ∀ d : Dev, d.isOff → eff d = d)

/-- A command whose effect leaves a device that is Off as it is. -/
theorem actsOnDevice_of_lift {i : Instr} {eff : Dev → Dev} (arm : ∀ s : State, exec i s = lift eff s)
    (hoff : ∀ d : Dev, d.isOff → eff d = d) : ActsOnDevice i :=
  ⟨eff, arm, fun _ => hoff⟩

/-- The arrival and the loss of VAUX are changes of the device too. -/
theorem actsOnDevice_of_vaux {i : Instr} {eff : Dev → Dev} (arm : ∀ s : State, exec i s = lift eff s) (hvaux : notVaux i = false) :
    ActsOnDevice i :=
  ⟨eff, arm, fun hnot => absurd hnot (by simp [hvaux])⟩

/-- What runs on a device that is powered does nothing on one that is Off. -/
theorem actsOnDevice_of_liveLift {i : Instr} {eff : Dev → Dev} (arm : ∀ s : State, exec i s = liveLift eff s) : ActsOnDevice i :=
  actsOnDevice_of_lift arm fun _ ⟨hpowered, _⟩ => if_neg (by simp [hpowered])

/-- What has a meaning of its own on a device that its ROM or the recovery loader holds does nothing on one that is Off. -/
theorem actsOnDevice_of_ifPowered {i : Instr} {eff idle : Dev → Dev}
    (arm : ∀ s : State, exec i s = lift (fun d => if d.powered then eff d else if d.boot = .off then d else idle d) s) :
    ActsOnDevice i :=
  actsOnDevice_of_lift arm fun _ ⟨hpowered, hboot⟩ => (if_neg (by simp [hpowered])).trans (if_pos hboot)

/-- The slot and backplane channels do nothing while the device is Off (R337). -/
theorem actsOnDevice_of_slotLift {i : Instr} {eff : Dev → Dev} (arm : ∀ s : State, exec i s = slotLift eff s) : ActsOnDevice i :=
  actsOnDevice_of_ifPowered arm

/-- The test access port works only while VAUX is good (R441). -/
theorem actsOnDevice_of_tapLive {i : Instr} {eff : Dev → Dev} (arm : ∀ s : State, exec i s = lift (Dev.tapLive eff) s) :
    ActsOnDevice i :=
  actsOnDevice_of_lift arm fun _ ⟨_, hboot⟩ => if_pos hboot

/-- No tamper is detected while the device is Off. -/
theorem effTamper_of_isOff (kinds : Nat) (d : Dev) (hoff : d.isOff) : effTamper kinds d = d :=
  if_pos (.inr hoff.2)

/-- Breakwater resets no device that is Off. -/
theorem effHardErrorReset_of_isOff (env : Env) (d : Dev) (hoff : d.isOff) : effHardErrorReset env d = d := by
  obtain ⟨hpowered, hboot⟩ := hoff
  exact if_neg (by simp [hpowered, hboot])

/-- Neither the recovery loader nor a running device is there to take an update. -/
theorem effPldmFirmwareUpdate_of_isOff (b : Binding) (u : ImageUpdate) (d : Dev) (hoff : d.isOff) :
    effPldmFirmwareUpdate b u d = d := by
  obtain ⟨hpowered, hboot⟩ := hoff
  exact (if_neg (by simp [hboot])).trans (if_neg (by simp [hpowered]))

/-- No MCTP control message is answered while the device is Off. -/
theorem effMctpControl_of_isOff (b : Binding) (command : Nat) (d : Dev) (hoff : d.isOff) : effMctpControl b command d = d := by
  obtain ⟨hpowered, hboot⟩ := hoff
  exact if_pos (by simp [Dev.mctpOpen, hpowered, hboot])

/-- Every command is a change of the device, command by command: those that do not run on a powered device alone are named. -/
theorem actsOnDevice (i : Instr) : ActsOnDevice i := by
  cases i
  case vauxGood | vauxLoss => exact actsOnDevice_of_vaux (fun _ => rfl) rfl
  case tamper => exact actsOnDevice_of_lift (fun _ => rfl) (effTamper_of_isOff _)
  case hardErrorReset => exact actsOnDevice_of_lift (fun _ => rfl) (effHardErrorReset_of_isOff _)
  case pldmFirmwareUpdate => exact actsOnDevice_of_lift (fun _ => rfl) (effPldmFirmwareUpdate_of_isOff _ _)
  case mctpControl => exact actsOnDevice_of_lift (fun _ => rfl) (effMctpControl_of_isOff _ _)
  case thermalSample => exact actsOnDevice_of_ifPowered (exec_thermalSample _)
  case extest | clamp | highz | extestPulse | extestTrain | bypass | tapReset | samplePreload | idcode | debugAccess =>
    exact actsOnDevice_of_tapLive fun _ => rfl
  case slotPresence | slotPresenceLost | slotSeatEdge | seatDebounceEnd | slotRampStart | slotPowerGood | perstDelayExpiry |
      slotCurrentLimit | slotCurrentRecover | faultTimerExpiry | slotHardTrip | slotCooldownEnd | retryDelayExpiry | slotInputLow |
      bpPrechargeDone | bpPrechargeExpiry | bpCooldownEnd | bpOvercurrent =>
    exact actsOnDevice_of_slotLift fun _ => rfl
  all_goals exact actsOnDevice_of_liveLift fun _ => rfl

/-- Settles O3: a change of the device leaves the queue. -/
theorem everyCommandIsAnswered : Obligations.EveryCommandIsAnswered := by
  unfold Obligations.EveryCommandIsAnswered
  intro c s
  obtain ⟨eff, harm, -⟩ := actsOnDevice c
  exact ⟨{ s with dev := eff s.dev }, harm s, rfl⟩

/-- A command other than the arrival and the loss of VAUX leaves the whole state of a device that is Off. -/
theorem exec_of_isOff {i : Instr} {s : State} (hoff : s.dev.isOff) (hother : notVaux i = true) : exec i s = .next s := by
  obtain ⟨eff, harm, hidle⟩ := actsOnDevice i
  rw [harm, lift, hidle hother s.dev hoff]

/-- The loss of VAUX leaves the device Off. -/
theorem effVauxLoss_isOff (d : Dev) : (effVauxLoss d).isOff := ⟨rfl, rfl⟩

/-- Of the two commands of VAUX the one that is not its arrival is its loss. -/
theorem eq_vauxLoss_of_vaux {i : Instr} (hvaux : notVaux i ≠ true) (hnot : isVauxGood i = false) : i = .vauxLoss := by
  cases i
  case vauxLoss => rfl
  case vauxGood => exact absurd hnot (by simp [isVauxGood])
  all_goals exact absurd rfl hvaux

/-- A command other than the arrival of VAUX keeps an Off device Off, and leaves the queue. -/
theorem exec_keeps_isOff {i : Instr} {s t : State} (hoff : s.dev.isOff) (hnot : isVauxGood i = false) (hexec : exec i s = .next t) :
    t.dev.isOff ∧ t.pending = s.pending := by
  by_cases hother : notVaux i = true
  · obtain rfl : s = t := Host.Outcome.next.inj ((exec_of_isOff hoff hother).symm.trans hexec)
    exact ⟨hoff, rfl⟩
  · obtain rfl := eq_vauxLoss_of_vaux hother hnot
    obtain rfl : { s with dev := effVauxLoss s.dev } = t := Host.Outcome.next.inj hexec
    exact ⟨effVauxLoss_isOff s.dev, rfl⟩

/-- A step with commands waiting runs the first of them. -/
theorem step_of_cons {s : State} {i : Instr} {rest : List Instr} (hqueue : s.pending = i :: rest) :
    step s = exec i { s with pending := rest } := by
  rw [step, hqueue]

/-- A step with nothing waiting lets the time base tick. -/
theorem step_of_nil {s : State} (hqueue : s.pending = []) : step s = .next { s with dev := s.dev.tick } := by
  rw [step, hqueue]

/-- The time base of a device that does not run stands still. -/
theorem Dev.tick_of_not_powered {d : Dev} (hpowered : d.powered = false) : d.tick = d :=
  if_neg (by simp [hpowered])

/-- A tick of a device that runs moves fabric time on by its length (R311, R312). -/
theorem Dev.time_tick_of_powered {d : Dev} (hpowered : d.powered = true) : d.tick.time = d.time + d.mgmt.tickLength := by
  rw [Dev.tick, if_pos hpowered]

/-- A tick lasts a nanosecond while no offset is slewed (R312). -/
theorem Mgmt.tickLength_of_no_slew {m : Mgmt} (hslew : m.slew = 0) : m.tickLength = 1 :=
  if_pos (.inl hslew)

/-- An empty queue leaves a device that does not run as it is. -/
theorem step_of_nil_of_not_powered {s : State} (hqueue : s.pending = []) (hpowered : s.dev.powered = false) : step s = .next s := by
  rw [step_of_nil hqueue, Dev.tick_of_not_powered hpowered]

/-- Settles O4: a command by whether it is the loss of VAUX, and a step by whether a command waits. -/
theorem offDeviceStaysOff : Obligations.OffDeviceStaysOff := by
  unfold Obligations.OffDeviceStaysOff
  refine ⟨fun c s hoff hother => exec_of_isOff hoff hother, fun s t hoff hnone hstep => ?_⟩
  match hqueue : s.pending with
  | [] =>
    obtain rfl : s = t := Host.Outcome.next.inj ((step_of_nil_of_not_powered hqueue hoff.1).symm.trans hstep)
    exact ⟨hoff, hnone⟩
  | c :: rest =>
    rw [hqueue] at hnone
    obtain ⟨hfirst, hrest⟩ := List.forall_mem_cons.1 hnone
    obtain ⟨hstays, hleft⟩ := exec_keeps_isOff (s := { s with pending := rest }) hoff hfirst ((step_of_cons hqueue).symm.trans hstep)
    exact ⟨hstays, hleft ▸ hrest⟩

/-- Settles O1: a step with a command waiting. -/
theorem stepRunsFrontCommand : Obligations.StepRunsFrontCommand := by
  unfold Obligations.StepRunsFrontCommand
  exact fun _ _ _ hqueue => step_of_cons hqueue

/-- Settles O2, by whether the device runs. -/
theorem emptyQueueIdles : Obligations.EmptyQueueIdles := by
  unfold Obligations.EmptyQueueIdles
  refine ⟨fun s hqueue => step_of_nil hqueue, fun s hqueue hpowered => step_of_nil_of_not_powered hqueue hpowered,
    fun s hqueue hpowered hslew => ⟨_, step_of_nil hqueue, hqueue, ?_⟩⟩
  exact (Dev.time_tick_of_powered hpowered).trans (by rw [Mgmt.tickLength_of_no_slew hslew])

end Sys2Proof.Machine
end

section
/-!
PROOFS. The state after reset (R311, R371 to R373).
-/

namespace Sys2Proof.Machine

open Sys2Proof

/-- The objects after reset are in canonical form, and no LAST_SEQ is kept yet. -/
theorem tablesWf_reset : State.reset.dev.tablesWf :=
  ⟨by decide +kernel, rfl, rfl⟩

/-- After reset every quay is DOWN or has no lanes of its own (R373). -/
theorem isUp_reset (q : Fin 128) : State.reset.dev.isUp q = false := by
  revert q
  decide +kernel

/-- Settles O5: the objects by their tables, and the rest as the state at reset names it. -/
theorem resetState : Obligations.ResetState := by
  unfold Obligations.ResetState
  have hmode : State.reset.dev.mode = 0 := by decide +kernel
  have hstandby : State.reset.dev.power = 2 := by decide +kernel
  exact ⟨rfl, rfl, hmode, hstandby, rfl, rfl, rfl, rfl, tablesWf_reset, isUp_reset⟩

end Sys2Proof.Machine
end

section
/-!
PROOFS. Credentials: what a read of one returns, and the sessions that a write of one leaves (R298, R349).
-/

namespace Sys2Proof.Machine

open Sys2Proof

/-- A field below bit `n` is kept by a reduction to `n` bits. -/
theorem bits_mod_two_pow (v : Nat) {n lo w : Nat} (hfield : lo + w ≤ n) : bits (v % 2 ^ n) lo w = bits v lo w := by
  refine Nat.eq_of_testBit_eq fun i => ?_
  simp only [bits, Nat.testBit_mod_two_pow, Nat.testBit_div_two_pow]
  by_cases hi : i < w
  · simp [hi, show i + lo < n by omega]
  · simp [hi]

/-- A field that is taken away reads 0. -/
theorem bits_sub_field (v lo w : Nat) : bits (v - bits v lo w * 2 ^ lo) lo w = 0 := by
  simp only [bits]
  rw [Nat.mul_comm, Nat.sub_mul_div]
  exact Nat.sub_mod_eq_zero_of_mod_eq (Nat.mod_mod _ _).symm

/-- The PSK bytes of a KIND 2 entry are shown as 0 (R349). -/
theorem bytesAt_credShown_of_psk {v : Nat} (hkind : credKind v = 2) : bytesAt (credShown v) 16 48 = 0 := by
  rw [credShown, if_pos hkind]
  exact bits_sub_field v 128 384

/-- The entries 0 to 62 are objects of 112 bytes that are read and written (R349). -/
theorem findRow_credential (k : Fin 63) :
    ∃ x, findRow (Obj.credential (k + 1)) = some x ∧ x.1.acc = .rw ∧ x.1.size = 112 := by
  have hrows : ∀ k : Fin 63, (findRow (Obj.credential (k + 1))).map (fun x => (x.1.acc, x.1.size)) = some (.rw, 112) := by
    decide +kernel
  obtain ⟨x, hrow, hfields⟩ := Option.map_eq_some_iff.1 (hrows k)
  obtain ⟨hacc, hsize⟩ := Prod.mk.inj hfields
  exact ⟨x, hrow, hacc, hsize⟩

/-- An entry's object lies at its index, and is not the vendor's. -/
theorem credential_place (k : Fin 63) :
    Obj.credential (k + 1) / 256 = 0x9020 ∧ Obj.credential (k + 1) ≠ Obj.vendorCredential ∧ Obj.credential (k + 1) < 0xF00000 := by
  have hk := k.isLt
  refine ⟨?_, ?_, ?_⟩ <;> simp only [Obj.credential, Obj.vendorCredential] <;> omega

/-- An entry exists in every mode (R6, R7). -/
theorem Dev.rowOf_credential (d : Dev) (k : Fin 63) : d.rowOf (Obj.credential (k + 1)) = findRow (Obj.credential (k + 1)) := by
  obtain ⟨x, hrow, -, -⟩ := findRow_credential k
  obtain ⟨-, -, hbelow⟩ := credential_place k
  exact if_pos (by simp [Dev.exists', hrow, hbelow])

/-- An entry is read by a Security Officer and above (R349). -/
theorem Dev.readStatus_credential (d : Dev) (c : Caller) (k : Fin 63) :
    d.readStatus c (Obj.credential (k + 1)) = if (d.callerRole c).getD 0 < 3 then Status.role else Status.success := by
  obtain ⟨x, hrow, hacc, -⟩ := findRow_credential k
  obtain ⟨hindex, hvendor, -⟩ := credential_place k
  simp [Dev.readStatus, d.rowOf_credential, hrow, Row.readable, hacc, hindex, hvendor]

/-- A read of an entry returns 112 bytes. -/
theorem Dev.readLen_credential (d : Dev) (k : Fin 63) : d.readLen (Obj.credential (k + 1)) = 112 := by
  obtain ⟨x, hrow, hacc, hsize⟩ := findRow_credential k
  simp [Dev.readLen, d.rowOf_credential, hrow, Row.readable, hacc, hsize]

/-- An entry shows its value without the PSK bytes (R349). -/
theorem Dev.view_credential (d : Dev) (c : Caller) (k : Fin 63) :
    d.view c (Obj.credential (k + 1)) = credShown (d.get (Obj.credential (k + 1))) := by
  obtain ⟨hindex, hvendor, -⟩ := credential_place k
  have hunit : d.objFenced (Obj.credential (k + 1)) = false := by simp only [Dev.objFenced, hindex]
  simp only [Dev.view, hunit, hindex, Bool.false_eq_true, if_false, Dev.viewSecurity]
  exact if_pos ⟨trivial, hvendor⟩

/-- A read of an entry by a caller below Security Officer is refused (R349). -/
theorem Dev.readOp_credential_of_lower (d : Dev) (c : Caller) (k : Fin 63) (hrole : (d.callerRole c).getD 0 < 3) :
    (d.readOp c (Obj.credential (k + 1))).2.status = Status.role := by
  have hstatus := (d.readStatus_credential c k).trans (if_pos hrole)
  simp [Dev.readOp, hstatus, statusAnswer]

/-- A read of an entry by a Security Officer is answered with what the entry shows (R349). -/
theorem Dev.readOp_credential_of_officer (d : Dev) (c : Caller) (k : Fin 63) (hrole : ¬ (d.callerRole c).getD 0 < 3) :
    (d.readOp c (Obj.credential (k + 1))).2.status = Status.success ∧
    (d.readOp c (Obj.credential (k + 1))).2.value = credShown (d.get (Obj.credential (k + 1))) % 2 ^ (8 * 112) := by
  have hstatus := (d.readStatus_credential c k).trans (if_neg hrole)
  rw [Dev.readOp, if_pos hstatus, d.readLen_credential, d.view_credential]
  exact ⟨rfl, rfl⟩

/-- Objects that are put change no session. -/
@[simp] theorem Dev.mgmt_putAll (d : Dev) (l : List (Nat × Nat)) : (d.putAll l).mgmt = d.mgmt := by
  unfold Dev.putAll
  induction l generalizing d with
  | nil => rfl
  | cons p l ih => rw [List.foldl_cons, ih, Dev.put_mgmt]

/-- An object that is not listed keeps its value. -/
theorem Dev.get_putAll_of_unlisted (d : Dev) (l : List (Nat × Nat)) (o : Nat) (hunlisted : ∀ p ∈ l, o ≠ p.1) :
    (d.putAll l).get o = d.get o := by
  unfold Dev.putAll
  induction l generalizing d with
  | nil => rfl
  | cons p l ih =>
    obtain ⟨hfirst, hrest⟩ := List.forall_mem_cons.1 hunlisted
    rw [List.foldl_cons, ih _ hrest, d.get_put_of_ne p.2 hfirst]

/-- A change of what the management plane keeps leaves the mode. -/
@[simp] theorem Dev.mode_setMgmt (d : Dev) (f : Mgmt → Mgmt) : (d.setMgmt f).mode = d.mode := rfl

/-- A change of what Breakwater keeps leaves the mode. -/
@[simp] theorem Dev.mode_setBw (d : Dev) (f : Bw → Bw) : (d.setBw f).mode = d.mode := rfl

/-- What is sent leaves the mode. -/
@[simp] theorem Dev.mode_send (d : Dev) (x : Out) : (d.send x).mode = d.mode := rfl

/-- Debug levels are shown without a change of a session or of the mode. -/
theorem Dev.showLevel_frame (d : Dev) : d.showLevel.mgmt = d.mgmt ∧ d.showLevel.mode = d.mode := by
  have hhistory (b : Bool) (v : Nat) (e : Dev) :
      (e.putIf b Obj.debugHistory v).mgmt = e.mgmt ∧ (e.putIf b Obj.debugHistory v).mode = e.mode := by
    cases b
    · exact ⟨rfl, rfl⟩
    · exact ⟨rfl, e.get_put_of_ne v (by decide)⟩
  have htrace (st : Nat) (e : Dev) : (e.traceTo st).mgmt = e.mgmt ∧ (e.traceTo st).mode = e.mode :=
    ⟨e.mgmt_putAll _, e.get_putAll_of_unlisted _ _ (by simp)⟩
  have hlevels (a n : Nat) : (d.putAll [(Obj.debugAuthorised, a), (Obj.debugLevel, n)]).mode = d.mode :=
    d.get_putAll_of_unlisted _ _ (by simp)
  unfold Dev.showLevel
  dsimp only
  split_ifs <;> simp only [htrace, hhistory, hlevels, Dev.mgmt_putAll, and_self]

/-- The sessions that `p` selects are gone, and the mode stays. -/
theorem Dev.cutSessions_frame (p : Session → Bool) (d : Dev) :
    (d.cutSessions p).mgmt.sessions = d.mgmt.sessions.filter (!p ·) ∧ (d.cutSessions p).mode = d.mode := by
  obtain ⟨hmgmt, hmode⟩ := Dev.showLevel_frame _
  exact ⟨congrArg Mgmt.sessions hmgmt, hmode⟩

/-- Outside Drydock the end of sessions starts no recovery reset (R364). -/
theorem Dev.dropSessions_of_not_drydock (p : Session → Bool) (d : Dev) (hmode : d.mode ≠ 4) :
    d.dropSessions p = d.cutSessions p := by
  obtain ⟨-, hkept⟩ := d.cutSessions_frame p
  exact if_neg fun hdock => hmode (hkept ▸ hdock.1)

/-- Nothing was due after the message. -/
theorem Dev.endMessage_of_nil {d : Dev} (hafter : d.mgmt.after = []) : d.endMessage = d.setMgmt fun m => { m with after := [] } := by
  rw [Dev.endMessage, hafter, List.foldl_nil]

/-- One thing was due after the message. -/
theorem Dev.endMessage_of_singleton {d : Dev} {a : After} (hafter : d.mgmt.after = [a]) :
    d.endMessage = (d.setMgmt fun m => { m with after := [] }).doAfter a := by
  rw [Dev.endMessage, hafter, List.foldl_cons, List.foldl_nil]

/-- A write of an entry puts what is open of it, and the rest is Breakwater's (R341, R349). -/
theorem Dev.writeCred_eq (k v : Nat) (d : Dev) :
    ∃ f : Bw → Bw, d.writeCred k v = (d.put (Obj.credential (k + 1)) (credOpen (credStored v))).setBw f := by
  unfold Dev.writeCred
  exact ⟨_, rfl⟩

/-- An entry is written without a change of a session, of what is due, or of the mode. -/
theorem Dev.writeCred_frame (k : Fin 64) (v : Nat) (d : Dev) :
    (d.writeCred k v).mgmt = d.mgmt ∧ (d.writeCred k v).mode = d.mode := by
  have hk := k.isLt
  have hother : Obj.currentMode ≠ Obj.credential (k + 1) := by simp only [Obj.currentMode, Obj.credential]; omega
  obtain ⟨f, hwrite⟩ := d.writeCred_eq k v
  rw [hwrite, Dev.setBw_mgmt, Dev.put_mgmt, Dev.mode_setBw]
  exact ⟨rfl, d.get_put_of_ne _ hother⟩

/-- A write of an entry makes the end of the sessions that are bound to it due (R349). -/
theorem actCredential_effect (k : Fin 64) (c : Call) (v n : Nat) (d : Dev) :
    (actCredential (Obj.credential (k + 1))).effect c v n d =
      if d.mgmt.sessions.any (fun x => x.cred == k.val) then (d.writeCred k v).later (.credential k) else d.writeCred k v := by
  obtain ⟨hmgmt, -⟩ := d.writeCred_frame k v
  have hbound (x : Session) : (Obj.credential (x.cred + 1) == Obj.credential (k + 1)) = (x.cred == k.val) := by
    rw [Bool.eq_iff_iff, beq_iff_eq, beq_iff_eq]
    simp only [Obj.credential]
    omega
  simp only [actCredential, credential_sub_credential_one, hmgmt, hbound]

/-- Once the message of a write of an entry has ended outside Drydock, no session is bound to the entry (R349). -/
theorem not_bound_of_credentialWrite (k : Fin 64) (c : Call) (v n : Nat) (answer : Out) (d : Dev) (hafter : d.mgmt.after = [])
    (hmode : d.mode ≠ 4) :
    ∀ x ∈ (((actCredential (Obj.credential (k + 1))).effect c v n d).send answer).endMessage.mgmt.sessions, x.cred ≠ k.val := by
  obtain ⟨hmgmt, hkept⟩ := d.writeCred_frame k v
  rw [actCredential_effect]
  by_cases hbound : d.mgmt.sessions.any (fun x => x.cred == k.val) = true
  · have hdue : (((d.writeCred k v).later (.credential k)).send answer).mgmt.after = [.credential k] := by
      simp only [Dev.send_mgmt, Dev.later, Dev.setMgmt_mgmt, hmgmt, hafter, List.nil_append]
    have hstays : ((((d.writeCred k v).later (.credential k)).send answer).setMgmt fun m => { m with after := [] }).mode ≠ 4 := by
      rwa [Dev.mode_setMgmt, Dev.mode_send, Dev.later, Dev.mode_setMgmt, hkept]
    rw [if_pos hbound, Dev.endMessage_of_singleton hdue, Dev.doAfter,
      Dev.dropSessions_of_not_drydock _ _ hstays,
      (Dev.cutSessions_frame _ _).1]
    intro x hx
    simpa using (List.mem_filter.1 hx).2
  · have hdue : ((d.writeCred k v).send answer).mgmt.after = [] := by rw [Dev.send_mgmt, hmgmt, hafter]
    rw [if_neg hbound, Dev.endMessage_of_nil hdue]
    intro x hx heq
    rw [Dev.setMgmt_mgmt, Dev.send_mgmt, hmgmt] at hx
    exact hbound (List.any_eq_true.2 ⟨x, hx, beq_iff_eq.2 heq⟩)

/-- Settles O13: a read by the rank of its session, and the sessions that a write leaves. -/
theorem credentialsAreGuarded : Obligations.CredentialsAreGuarded := by
  unfold Obligations.CredentialsAreGuarded
  refine ⟨fun d slot r k hrole hlower => ?lower, fun d slot r k hrole hofficer => ?officer,
    fun s c k v hafter hmode hadmits hkind hrole => ?write⟩
  case lower => exact d.readOp_credential_of_lower _ k (by simpa [hrole] using hlower)
  case officer =>
    obtain ⟨hstatus, hvalue⟩ := d.readOp_credential_of_officer (.session slot) k (by simpa [hrole] using hofficer)
    refine ⟨hstatus, fun hkind => ?_⟩
    rw [hvalue]
    exact (bits_mod_two_pow _ (by decide)).trans (bytesAt_credShown_of_psk hkind)
  case write =>
    have hcheck := actCredential_check_success (Obj.credential (k + 1)) c _ s.dev hkind hrole
    refine ⟨_, messageRow_accepted (actCredential (Obj.credential (k + 1))) c _ v s hadmits hcheck, ?_⟩
    refine not_bound_of_credentialWrite k c _ _ _ _ hafter ?_
    exact fun hdock => hmode ((s.dev.get_commitWrite_of_ne c _ _ (by decide)).symm.trans hdock)

end Sys2Proof.Machine
end

section
/-!
PROOFS. Firmware fuses and the SPDM responder (R345, R346, R348, R351).
-/

namespace Sys2Proof.Machine

open Sys2Proof

/-- SVN_COMMIT is let through while the running version is not below the fused one (R345). -/
theorem actSvnCommit_check_success (c : Call) (v : Nat) (d : Dev) (hsvn : d.get Obj.svnFused ≤ d.runningSvn) :
    actSvnCommit.check c v d = Status.success :=
  if_neg (Nat.not_lt.2 hsvn)

/-- KEY_SLOT_REVOKE is let through for a slot other than the running image's that is not the last (R345). -/
theorem actKeySlotRevoke_check_success (c : Call) (v : Nat) (d : Dev) (hother : d.bw.running.map (·.keySlot) ≠ some v)
    (hlast : setBit (d.get Obj.keySlotsRevoked) v true ≠ 15) : actKeySlotRevoke.check c v d = Status.success :=
  if_neg (not_or.2 ⟨hother, hlast⟩)

/-- A request that is served and has an answer receives it (R351). -/
theorem Dev.spdmAnswer_of_served (request v : Nat) (d : Dev) (hserved : d.spdmOff = false) :
    d.spdmAnswer request (some v) = d.spdm request 0 v :=
  if_neg (by simp [hserved])

/-- A request that is served while the Alias key is held receives a signed answer, with the random bits of its nonce (R351, R356). -/
theorem Dev.spdmSigned_of_served (request v : Nat) (d : Dev) (hserved : d.spdmOff = false) (hsigns : d.signs = true) :
    d.spdmSigned request (some v) = d.randomBits.spdm request 0 v :=
  if_neg (by simp [hserved, hsigns])

/-- The certificate of slot 0 is given while its chain is held (R346). -/
theorem effGetCertificate_of_present (d : Dev) (hserved : d.spdmOff = false) (hpresent : d.bw.certPresent = true) :
    effGetCertificate 0 d = d.spdm 0x82 0 (Config.spdmAnswer 0x82 d.bw.bootLayer) := by
  rw [effGetCertificate, if_pos ⟨rfl, hpresent⟩, d.spdmAnswer_of_served _ _ hserved]

/-- A challenge of a slot that holds a chain is signed (R346, R351). -/
theorem effChallenge_of_chain (slot nonce : Nat) (d : Dev) (hserved : d.spdmOff = false) (hsigns : d.signs = true)
    (hchain : d.hasChain slot = true) : effChallenge slot nonce d = d.randomBits.spdm 0x83 0 (Config.spdmAnswer 0x83 nonce) := by
  rw [effChallenge, if_pos hchain, d.spdmSigned_of_served _ _ hserved hsigns]

/-- Settles O53: the two fuses, then the requests of the connection, by the answer that each has. -/
theorem firmwareAndSpdmComplete : Obligations.FirmwareAndSpdmComplete := by
  unfold Obligations.FirmwareAndSpdmComplete
  refine ⟨fun c v => ?svnCommit, fun c v => ?keySlotRevoke, fun b => ?version, fun b => ?capabilities, fun b offered => ?algorithms,
    fun b => ?digests, fun b => ?certificate, fun b slot nonce => ?challenge, fun b nonce => ?measurements⟩
  case svnCommit =>
    exact writes_of_writeRow (fun _ => rfl) (fun d hsvn => actSvnCommit_check_success c _ d hsvn) (by dsimp only [actSvnCommit])
      fun _ => rfl
  case keySlotRevoke =>
    exact writes_of_writeRow (fun _ => rfl) (fun d ⟨hother, hlast⟩ => actKeySlotRevoke_check_success c _ d hother hlast)
      (by dsimp only [actKeySlotRevoke]) fun _ => rfl
  case version => exact runs_of_spdmRow (fun _ => rfl) fun d hserved => d.spdmAnswer_of_served _ _ hserved
  case capabilities => exact runs_of_spdmRow (fun _ => rfl) fun d hserved => d.spdmAnswer_of_served _ _ hserved
  case algorithms =>
    exact runs_of_spdmRow (fun _ => rfl) fun d ⟨hserved, hoffered⟩ => by
      rw [if_pos hoffered, d.spdmAnswer_of_served _ _ hserved]
  case digests => exact runs_of_spdmRow (fun _ => rfl) fun d hserved => d.spdmAnswer_of_served _ _ hserved
  case certificate =>
    exact runs_of_spdmRow (fun _ => rfl) fun d ⟨hserved, hpresent⟩ => effGetCertificate_of_present d hserved hpresent
  case challenge =>
    exact runs_of_spdmRow (fun _ => rfl) fun d ⟨hserved, hsigns, hchain⟩ =>
      effChallenge_of_chain slot nonce d hserved hsigns hchain
  case measurements =>
    exact runs_of_spdmRow (fun _ => rfl) fun d ⟨hserved, hsigns⟩ => d.spdmSigned_of_served _ _ hserved hsigns

end Sys2Proof.Machine
end

section
/-!
PROOFS. Random numbers, self-tests, tampering, zeroisation, the lifecycle and debug levels (R356 to R364, R380).
-/

namespace Sys2Proof.Machine

open Sys2Proof

/-- A window of entropy that fails is counted, and is an error: SOFT_ERROR, or with the third in a row HARD_ERROR (R356, Table 12.11). -/
theorem effEntropyHealthWindow_of_bad (d : Dev) :
    effEntropyHealthWindow false d =
      (let d := (d.count Obj.entropyHealthFailures 1).setBw fun b => { b with badWindows := b.badWindows + 1, entropyBad := true }
       if 3 ≤ d.bw.badWindows then d.hardError 0x500 else d.softError 0 0x500) :=
  if_neg Bool.false_ne_true

/-- A tamper on a device that is not Off is counted, and is a HARD_ERROR, or a new cause in one (R358). -/
theorem effTamper_of_detected (kinds : Nat) (d : Dev) (hkinds : kinds ≠ 0) (hboot : d.boot ≠ .off) :
    effTamper kinds d =
      (let d := d.count Obj.tamperCount 1
       if d.get Obj.bwState = 3 then d.errorState (0x800 + tamperKind kinds) else d.hardError (0x800 + tamperKind kinds)) :=
  if_neg (not_or.2 ⟨hkinds, hboot⟩)

/-- An event that is a change of the device completes on one that runs with `f`, where its effect is `f` under its condition. -/
theorem runs_of_lift {i : Instr} {c : Dev → Prop} {eff f : Dev → Dev} (arm : ∀ s : State, exec i s = lift eff s)
    (heff : ∀ d : Dev, d.powered = true → c d → eff d = f d) : Runs i c f := by
  intro s hpowered hc
  rw [arm, lift, heff s.dev hpowered hc]

/-- A running device has the recovery reset that Breakwater starts for HARD_ERROR, or that of R399 when no core runs (R380). -/
theorem effHardErrorReset_of_due (env : Env) (d : Dev) (hpowered : d.powered = true)
    (hdue : (d.get Obj.bwState = 3 ∧ d.bw.resetDue = true) ∨ d.runningCores = 0) :
    effHardErrorReset env d = (d.setBw fun b => { b with resetUsed := true, resetDue := false }).recoveryReset env :=
  if_pos (hdue.imp (fun ⟨hstate, hreset⟩ => ⟨hstate, hreset, .inl hpowered⟩) fun hcores => ⟨hpowered, hcores⟩)

/-- LIFECYCLE_CONFIRM is let through for what its session has armed (R360). -/
theorem actLifecycleConfirm_check_success (c : Call) (v : Nat) (d : Dev) (hallowed : lifecycleCheck c v d = Status.success)
    (harmed : d.bw.arming = some (callerSlot c.caller, v)) : actLifecycleConfirm.check c v d = Status.success := by
  simp only [actLifecycleConfirm, hallowed, if_pos harmed, firstStatus, if_true]

/-- DEBUG_AUTHORISE is let through for a role that may authorise the level, where the level is allowed and no D2 or D3 is held
(R363). -/
theorem actDebugAuthorise_check_success (c : Call) (v : Nat) (d : Dev)
    (hrole : levelRole v ≤ (d.callerRole c.caller).getD 0) (hallowed : d.levelAllowed v = true) (htop : d.topLevel < 2) :
    actDebugAuthorise.check c v d = Status.success :=
  (if_neg (Nat.not_lt.2 hrole)).trans ((if_neg (by simp [hallowed])).trans (if_neg (Nat.not_le.2 htop)))

/-- DEBUG_REVOKE is let through where no level is held, or one that the caller may end (R363). -/
theorem actDebugRevoke_check_success (c : Call) (v : Nat) (d : Dev)
    (hheld : d.bw.holders = [] ∨ d.bw.holders.any (d.revokes c) = true) : actDebugRevoke.check c v d = Status.success := by
  refine if_neg ?_
  rintro ⟨hsome, hnone⟩
  exact hheld.elim hsome fun hany => by simp [hany] at hnone

/-- Settles O55, command and event by event: under its condition each takes the branch that the statement writes out. -/
theorem lifecycleCompletes : Obligations.LifecycleCompletes := by
  unfold Obligations.LifecycleCompletes
  refine ⟨?reseed, ?goodWindow, ?badWindow, fun fails => ?periodicTest, fun c v => ?selfTest, fun kinds => ?tamper,
    fun kinds => ?tamperAgain, fun env => ?hardErrorReset, fun c v => ?zeroise, fun c v => ?arm, fun c v => ?confirm, ?lapse,
    fun c v => ?authorise, ?pendingLapse, fun c v => ?revoke⟩
  case reseed => exact runs_of_liveLift (fun _ => rfl) fun _ _ => rfl
  case goodWindow => exact runs_of_liveLift (fun _ => rfl) fun _ _ => rfl
  case badWindow => exact runs_of_liveLift (fun _ => rfl) fun d _ => effEntropyHealthWindow_of_bad d
  case periodicTest => exact runs_of_liveLift (fun _ => rfl) fun _ _ => rfl
  case selfTest => exact writes_of_messageRow (fun _ => rfl) (fun _ _ => rfl) (by dsimp only [actSelfTest]) fun _ => rfl
  case tamper =>
    exact runs_of_lift (fun _ => rfl) fun d _ ⟨hkinds, hboot, hstate⟩ =>
      (effTamper_of_detected kinds d (Fin.val_ne_zero_iff.2 hkinds) hboot).trans (if_neg hstate)
  case tamperAgain =>
    exact runs_of_lift (fun _ => rfl) fun d _ ⟨hkinds, hboot, hstate⟩ =>
      (effTamper_of_detected kinds d (Fin.val_ne_zero_iff.2 hkinds) hboot).trans (if_pos hstate)
  case hardErrorReset =>
    exact runs_of_lift (fun _ => rfl) fun d hpowered hdue => effHardErrorReset_of_due env d hpowered hdue
  case zeroise => exact writes_of_messageRow (fun _ => rfl) (fun _ _ => rfl) (by dsimp only [actZeroise]) fun _ => rfl
  case arm =>
    exact writes_of_writeRow (a := actLifecycleArm) (fun _ => rfl) (fun _ hallowed => hallowed) (by dsimp only [actLifecycleArm]) fun _ => rfl
  case confirm =>
    exact writes_of_messageRow (fun _ => rfl) (fun d ⟨hallowed, harmed⟩ => actLifecycleConfirm_check_success c _ d hallowed harmed)
      (by dsimp only [actLifecycleConfirm]) fun _ => rfl
  case lapse => exact runs_of_liveLift (fun _ => rfl) fun _ _ => rfl
  case authorise =>
    exact writes_of_writeRow (fun _ => rfl) (fun d ⟨hrole, hallowed, htop⟩ =>
      actDebugAuthorise_check_success c _ d hrole hallowed htop) (by dsimp only [actDebugAuthorise]) fun _ => rfl
  case pendingLapse => exact runs_of_liveLift (fun _ => rfl) fun _ hdocking => if_neg (by simp [hdocking])
  case revoke =>
    exact writes_of_messageRow (fun _ => rfl) (fun d ⟨_, hheld⟩ => actDebugRevoke_check_success c _ d hheld)
      (by dsimp only [actDebugRevoke]) fun _ => rfl

end Sys2Proof.Machine
end

section
/-!
PROOFS. The collector (R384, R385, R387, R394).
-/

namespace Sys2Proof.Machine

open Sys2Proof

/-- With no error given, the oldest on the error lines is collected (R384). -/
theorem effErrorReport_of_line (d : Dev) {e : Err} {rest : List Err} (hlines : d.lines = e :: rest) :
    effErrorReport none d = ({ d with lines := rest }).collect e := by
  simp only [effErrorReport, hlines]

/-- Settles O30: reports by where the error comes from, then the two acknowledgements. -/
theorem collectorCompletes : Obligations.CollectorCompletes := by
  unfold Obligations.CollectorCompletes
  refine ⟨fun e => ?given, fun e rest => ?oldest, fun u => ?stall, fun c k v => ?classAck, fun c v => ?sourceClear⟩
  case given => exact runs_of_liveLift (fun _ => rfl) fun _ _ => rfl
  case oldest => exact runs_of_liveLift (fun _ => rfl) fun d hlines => effErrorReport_of_line d hlines
  case stall => exact runs_of_liveLift (fun _ => rfl) fun _ _ => rfl
  case classAck =>
    exact writes_of_writeRow (fun _ => rfl) (fun _ hcounted => if_pos hcounted) (by dsimp only [actClassAck]) fun _ => rfl
  case sourceClear => exact writes_of_writeRow (fun _ => rfl) (fun _ _ => rfl) (by dsimp only [actSourceClear]) fun _ => rfl

end Sys2Proof.Machine
end

section
/-!
PROOFS. Fences and the salvage flush (R395, R396, R400, R402).
-/

namespace Sys2Proof.Machine

open Sys2Proof

/-- FENCE_UNIT is let through for a unit that is not fenced and may be (R400). -/
theorem actFenceUnit_check_success (c : Call) {v : Nat} (d : Dev) {u : FenceUnit} (hunit : unitArg v = some u)
    (hwhole : d.isFenced u = false) (hmay : d.mayFence u = true) : actFenceUnit.check c v d = Status.success := by
  simp only [actFenceUnit, hunit, hwhole, hmay, Bool.false_eq_true, if_false, if_true]

/-- FENCE_CLEAR is let through for a unit of the part (R400). -/
theorem actFenceClear_check_success (c : Call) {v : Nat} (d : Dev) {u : FenceUnit} (hunit : unitArg v = some u)
    (hpresent : absentUnit d.part u = false) : actFenceClear.check c v d = Status.success := by
  simp only [actFenceClear, hunit, hpresent, Bool.false_eq_true, if_false]

/-- The fence of a slice whose open requests have not ended ends them (R395). -/
theorem effFencedRequestTimeout_of_open (s : Fin 16) (d : Dev) {f : Fencing}
    (hfound : d.faults.fencing.find? (fun f => f.slice == s.val && !f.ended) = some f) :
    effFencedRequestTimeout (.slice s) d = d.endOpen f := by
  simp only [effFencedRequestTimeout, hfound]

/-- The fence of a slice whose requests have ended ends with the rehash (R396). -/
theorem effFenceRehashDone_of_ended (s : Nat) (d : Dev) {f : Fencing}
    (hfound : d.faults.fencing.find? (fun f => f.slice == s && f.ended) = some f) : effFenceRehashDone s d = d.endFencing f := by
  simp only [effFenceRehashDone, hfound]

/-- Settles O31, command and event by event. -/
theorem fencingCompletes : Obligations.FencingCompletes := by
  unfold Obligations.FencingCompletes
  refine ⟨fun c v u => ?fence, fun c v u => ?clear, fun s f => ?timeout, fun s f => ?rehash, fun lost => ?flush⟩
  case fence =>
    exact writes_of_operands (fun _ ⟨hunit, _⟩ => hunit) fun hunit => writes_of_writeRow (a := actFenceUnit) (fun _ => rfl)
      (fun d ⟨_, hwhole, hmay⟩ => actFenceUnit_check_success c d hunit hwhole hmay) (by simp only [actFenceUnit, hunit]) fun _ => rfl
  case clear =>
    exact writes_of_operands (fun _ ⟨hunit, _⟩ => hunit) fun hunit => writes_of_writeRow (a := actFenceClear) (fun _ => rfl)
      (fun d ⟨_, hpresent⟩ => actFenceClear_check_success c d hunit hpresent) (by simp only [actFenceClear, hunit]) fun _ => rfl
  case timeout => exact runs_of_liveLift (fun _ => rfl) fun d hfound => effFencedRequestTimeout_of_open s d hfound
  case rehash => exact runs_of_liveLift (fun _ => rfl) fun d hfound => effFenceRehashDone_of_ended s d hfound
  case flush => exact runs_of_liveLift (fun _ => rfl) fun _ hflushed => if_pos hflushed

end Sys2Proof.Machine
end

section
/-!
PROOFS. Transfers on a bus, bus clears and polled signals (R408 to R412).
-/

namespace Sys2Proof.Machine

open Sys2Proof

/-- An idle bus whose slot is there starts the next transfer that waits (R409). -/
theorem effBusTransfer_of_idle (b : Nat) (d : Dev) {j : SbJob} (hidle : d.get (Obj.busState b) = 0) (hnone : (d.bus b).job = none)
    (hnext : d.nextJob b = some j) (hpresent : (d.setBus b (Bus.started j)).busAbsent b = false) :
    effBusTransfer b d = ((d.setBus b (Bus.started j)).takeMode b).sendJob b j := by
  have hfree : ¬ (d.get (Obj.busState b) ≠ 0 ∨ (d.bus b).job.isSome = true) := by simp [hidle, hnone]
  simp only [effBusTransfer, if_neg hfree, hnext, hpresent, Bool.false_eq_true, if_false]

/-- A transfer ends by its result, but one that loses arbitration only for the third time (R409). -/
theorem effFarTransferDone_of_end (b code data : Nat) (d : Dev) {j : SbJob} (hjob : (d.bus b).job = some j) (hcode : code ≤ 7)
    (hlost : code = Far.arbLost → 2 ≤ (d.bus b).lost) : effFarTransferDone b code data d = d.transferEnds b code data := by
  have hlast : ¬ (code = Far.arbLost ∧ (d.bus b).lost < 2) := fun ⟨harb, hfew⟩ => absurd hfew (Nat.not_lt.2 (hlost harb))
  simp only [effFarTransferDone, hjob, if_neg (Nat.not_lt.2 hcode), if_neg hlast]

/-- A transfer that loses arbitration up to twice is sent again (R409). -/
theorem effFarTransferDone_of_lost (b data : Nat) (d : Dev) {j : SbJob} (hjob : (d.bus b).job = some j) (hfew : (d.bus b).lost < 2) :
    effFarTransferDone b Far.arbLost data d = (d.setBus b fun x => { x with lost := x.lost + 1 }).sendJob b j := by
  have hcode : ¬ 7 < Far.arbLost := by decide
  simp only [effFarTransferDone, hjob, if_neg hcode, hfew, and_self, if_true]

/-- A bus clear that works frees a STUCK bus (R410). -/
theorem effBusClear_of_cleared (b : Nat) (d : Dev) (hstuck : d.get (Obj.busState b) = 2) :
    effBusClear b true d = d.put (Obj.busState b) 0 := by
  simp only [effBusClear, if_true, Dev.putIf, hstuck, beq_self_eq_true]

/-- A bus clear that does not work leaves the bus STUCK, and reports one that was not STUCK before (R410). -/
theorem effBusClear_of_stuck (b : Nat) (d : Dev) (hworked : d.get (Obj.busState b) ≠ 2) :
    effBusClear b false d = ((d.stuckAll b).put (Obj.busState b) 2).sbErr (0x200 + b) 0xFFFF (sbReport 4 Far.busStuck b 0 0 0 0) := by
  simp only [effBusClear, Bool.false_eq_true, if_false, if_neg hworked]

/-- A first sample is noted, and changes no signal (R411). -/
theorem effSignalPoll_of_first (b sample : Nat) (d : Dev) (hfirst : (d.bus b).sample = none)
    (hquiet : (d.setBus b fun x => { x with sample := some sample, alertAt := x.alertAt }).alertDue b (d.get (Obj.sbSignals b))
      (d.get (Obj.sbSignals b)) = false) :
    effSignalPoll b sample d = d.setBus b fun x => { x with sample := some sample, alertAt := x.alertAt } := by
  have hstays : ¬ (b < 48 ∧ bitAt (d.get (Obj.sbSignals b)) 0 = true ∧ (!bitAt (d.get (Obj.sbSignals b)) 0) = true) := by simp
  simp only [effSignalPoll, hfirst, if_true, if_neg hstays, hquiet, Bool.false_eq_true, if_false]

/-- Settles O56, event by event: a transfer by its result, a bus clear by whether it works. -/
theorem busesComplete : Obligations.BusesComplete := by
  unfold Obligations.BusesComplete
  refine ⟨fun b j => ?start, fun b code data j => ?ends, fun b data j => ?again, fun b j => ?timeout, fun b => ?cleared,
    fun b => ?stuck, fun b sample => ?poll, fun b addr => ?interrupt⟩
  case start =>
    exact runs_of_liveLift (fun _ => rfl) fun d ⟨hidle, hnone, hnext, hpresent⟩ => effBusTransfer_of_idle b d hidle hnone hnext hpresent
  case ends =>
    exact runs_of_liveLift (fun _ => rfl) fun d ⟨hjob, hcode, hlost⟩ => effFarTransferDone_of_end b code data d hjob hcode hlost
  case again => exact runs_of_liveLift (fun _ => rfl) fun d ⟨hjob, hfew⟩ => effFarTransferDone_of_lost b data d hjob hfew
  case timeout =>
    exact runs_of_liveLift (fun _ => rfl) fun d hjob =>
      effFarTransferDone_of_end b Far.clockTimeout 0 d hjob (by decide) fun harb => absurd harb (by decide)
  case cleared => exact runs_of_liveLift (fun _ => rfl) fun d hstuck => effBusClear_of_cleared b d hstuck
  case stuck => exact runs_of_liveLift (fun _ => rfl) fun d hworked => effBusClear_of_stuck b d hworked
  case poll => exact runs_of_liveLift (fun _ => rfl) fun d ⟨hfirst, hquiet⟩ => effSignalPoll_of_first b sample d hfirst hquiet
  case interrupt => exact runs_of_liveLift (fun _ => rfl) fun _ halert => if_pos halert

end Sys2Proof.Machine
end

section
/-!
PROOFS. A host's accesses to windows, window configuration, and sensors (R413 to R426).
-/

namespace Sys2Proof.Machine

open Sys2Proof

/-- A read of an enabled window that nothing refuses takes its read slot (R418, R419). -/
theorem effWindowDataRead_of_enabled (w : Nat) (a : WinRead) (d : Dev) (hreached : d.winReached w = true)
    (henabled : d.get (Obj.winEnable w) ≠ 0) (hclear : d.winRefusal w 64 a.offset a.len = 0) :
    effWindowDataRead w a d = d.slotRead w a :=
  (if_neg (by simp [hreached])).trans ((if_neg henabled).trans (if_neg (by simp [hclear])))

/-- A read of a disabled window is answered with 0 (R413). -/
theorem effWindowDataRead_of_disabled (w : Nat) (a : WinRead) (d : Dev) (hreached : d.winReached w = true)
    (hdisabled : d.get (Obj.winEnable w) = 0) : effWindowDataRead w a d = d.winAnswer w a.tag 0 :=
  (if_neg (by simp [hreached])).trans (if_pos hdisabled)

/-- A write of an enabled window that nothing refuses waits in its queue, where there is room (R416, R417). -/
theorem effWindowDataWrite_of_room (w : Nat) (a : WinWrite) (d : Dev) (hreached : d.winReached w = true)
    (henabled : d.get (Obj.winEnable w) ≠ 0) (hclear : d.winRefusal w 256 a.offset a.len = 0) (hroom : (d.win w).queuedWrites < 8) :
    effWindowDataWrite w a d =
      d.setWin w fun x => { x with
        queue := x.queue ++ [{ write := true, offset := a.offset, len := a.len
                               pieces := farPieces (d.get (Obj.winPage w)) a.offset a.len
                                 (swapData (d.get (Obj.winSwap w)) a.len a.data) }] } := by
  have howned : ¬ ((!d.winReached w) = true ∨ d.get (Obj.winEnable w) = 0) := by simp [hreached, henabled]
  simp only [effWindowDataWrite, if_neg howned, hclear, Nat.not_le.2 hroom, and_false, if_false, ne_eq, not_true_eq_false]

/-- A read that is held is answered with ones when its hold ends (R420). -/
theorem effWinHoldExpiry_of_held (w tag : Nat) (d : Dev) (hheld : (d.win w).holding = some tag) :
    effWinHoldExpiry w d = (d.setWin w fun x => { x with holding := none }).winAnswer w tag (onesOf (d.win w).len) := by
  simp only [effWinHoldExpiry, hheld]

/-- The read of a slot that is FAILED, and never claimed, is logged with its code (R421). -/
theorem effDiscardTimerExpiry_of_failed (w : Nat) (d : Dev) (hfailed : (d.win w).st = 3) :
    effDiscardTimerExpiry w d = d.logRead w (d.win w).code 0 :=
  (if_neg (by simp [hfailed])).trans (if_pos hfailed)

/-- WIN_ENABLE is let through unless it enables a window whose frame another has (R413). -/
theorem actWinEnable_check_success (w : Nat) (c : Call) (v : Nat) (d : Dev) (hframe : v = 1 → d.frameTaken w = false) :
    (actWinEnable w).check c v d = Status.success := by
  refine if_neg ?_
  rintro ⟨hone, htaken⟩
  simp [hframe hone] at htaken

/-- An enabled sensor whose bus is free and whose read is good takes its value, where it needs no VOUT_MODE (R425, R426). -/
theorem effSensorRead_of_good (n code data : Nat) (d : Dev) (henabled : d.get (Obj.sensorEnable n) ≠ 0)
    (hfree : d.busFree (d.get (Obj.sensorBus n)) = true) (hgood : d.sensorCode n code = Far.ok)
    (hformat : (d.sensorSends n (d.get (Obj.sensorCommand n)) 2 Far.ok).get (Obj.sensorFormat n) ≠ 1) :
    effSensorRead n code data d = (d.sensorSends n (d.get (Obj.sensorCommand n)) 2 Far.ok).sensorGood n data := by
  have hstarts : ¬ (d.get (Obj.sensorEnable n) = 0 ∨ (!d.busFree (d.get (Obj.sensorBus n))) = true) := by simp [henabled, hfree]
  simp only [effSensorRead, if_neg hstarts, hgood, ne_eq, not_true_eq_false, if_false, hformat, false_and]

/-- An enabled LINEAR16 sensor whose bus is free takes a linear VOUT_MODE (R425). -/
theorem effVoutModeRead_of_linear (n code data : Nat) (d : Dev) (henabled : d.get (Obj.sensorEnable n) ≠ 0)
    (hformat : d.get (Obj.sensorFormat n) = 1) (hfree : d.busFree (d.get (Obj.sensorBus n)) = true)
    (hgood : d.sensorCode n code = Far.ok) (hlinear : voutLinear data = true) :
    effVoutModeRead n code data d = (d.sensorSends n 0x20 1 Far.ok).setSensor n fun x => { x with vout := some (data % 256) } := by
  have hstarts : ¬ (d.get (Obj.sensorEnable n) = 0 ∨ d.get (Obj.sensorFormat n) ≠ 1 ∨
      (!d.busFree (d.get (Obj.sensorBus n))) = true) := by simp [henabled, hformat, hfree]
  simp only [effVoutModeRead, if_neg hstarts, hgood, ne_eq, not_true_eq_false, if_false, hlinear, if_true]

/-- Settles O57, event and command by command: under its condition each takes the branch that the statement writes out. -/
theorem windowsAndSensorsComplete : Obligations.WindowsAndSensorsComplete := by
  unfold Obligations.WindowsAndSensorsComplete
  refine ⟨fun w a => ?read, fun w a => ?readDisabled, fun w a => ?write, fun w => ?errorClear, fun w tag => ?holdExpiry,
    fun w => ?discardReady, fun w => ?discardFailed, fun c w v => ?enable, fun n code data => ?sensor, fun n code data => ?voutMode⟩
  case read =>
    exact runs_of_liveLift (fun _ => rfl) fun d ⟨hreached, henabled, hclear⟩ =>
      effWindowDataRead_of_enabled w a d hreached henabled hclear
  case readDisabled =>
    exact runs_of_liveLift (fun _ => rfl) fun d ⟨hreached, hdisabled⟩ => effWindowDataRead_of_disabled w a d hreached hdisabled
  case write =>
    exact runs_of_liveLift (fun _ => rfl) fun d ⟨hreached, henabled, hclear, hroom⟩ =>
      effWindowDataWrite_of_room w a d hreached henabled hclear hroom
  case errorClear => exact runs_of_liveLift (fun _ => rfl) fun _ hreached => if_pos hreached
  case holdExpiry => exact runs_of_liveLift (fun _ => rfl) fun d hheld => effWinHoldExpiry_of_held w tag d hheld
  case discardReady => exact runs_of_liveLift (fun _ => rfl) fun _ hready => if_pos hready
  case discardFailed => exact runs_of_liveLift (fun _ => rfl) fun d hfailed => effDiscardTimerExpiry_of_failed w d hfailed
  case enable =>
    exact writes_of_writeRow (fun _ => rfl) (fun d hframe => actWinEnable_check_success w c _ d hframe)
      (by dsimp only [actWinEnable]) fun _ => rfl
  case sensor =>
    exact runs_of_liveLift (fun _ => rfl) fun d ⟨henabled, hfree, hgood, hformat⟩ =>
      effSensorRead_of_good n code data d henabled hfree hgood hformat
  case voutMode =>
    exact runs_of_liveLift (fun _ => rfl) fun d ⟨henabled, hformat, hfree, hgood, hlinear⟩ =>
      effVoutModeRead_of_linear n code data d henabled hformat hfree hgood hlinear

end Sys2Proof.Machine
end

section
/-!
PROOFS. Counters, bandwidth windows, telemetry and traces (R431 to R440).
-/

namespace Sys2Proof.Machine

open Sys2Proof

/-- A bandwidth window that was not restarted shows its two rates, and begins again (R434). -/
theorem effBwWindowEnd_of_running (q : Nat) (d : Dev) (hrunning : d.obs.restarted.contains q = false) :
    effBwWindowEnd q d =
      (d.putAll [(Obj.bwRx q, bandwidth (Tab.get 0 d.obs.rx q) (d.get (Obj.bwWindow q))),
        (Obj.bwTx q, bandwidth (Tab.get 0 d.obs.tx q) (d.get (Obj.bwWindow q)))]).restartWindow q false :=
  congrArg (Dev.restartWindow q false) (if_neg (ne_true_of_eq_false hrunning))

/-- While telemetry is disabled the end of its period only starts the slices' counts anew (R437). -/
theorem effTelemetryPeriod_of_disabled (d : Dev) (hdisabled : d.get Obj.tlmEnable ≠ 1) :
    effTelemetryPeriod d = d.setObs fun o => { o with period := [] } :=
  congrArg (Dev.setObs fun o => { o with period := [] }) (if_neg hdisabled)

/-- While telemetry is enabled its period ends with a set of records (R437). -/
theorem effTelemetryPeriod_of_enabled (d : Dev) (henabled : d.get Obj.tlmEnable = 1) :
    effTelemetryPeriod d = (d.tlmSet.foldl (fun d r => d.tlmKeep r) d).setObs fun o => { o with period := [] } :=
  congrArg (Dev.setObs fun o => { o with period := [] }) (if_pos henabled)

/-- Settles O58, command and event by event. -/
theorem countersComplete : Obligations.CountersComplete := by
  unfold Obligations.CountersComplete
  refine ⟨fun c u k v => ?value, fun c u v => ?overflow, fun c u k v => ?config, fun c u k v => ?filter, fun c v => ?enable,
    fun q => ?windowEnd, fun c q v => ?windowWrite, fun c i v => ?initClear, ?periodDisabled, ?periodEnabled,
    fun c v => ?traceStart, fun c v => ?traceStop⟩
  case value => exact writes_of_writeRow (fun _ => rfl) (fun _ _ => rfl) (by dsimp only [storeAct]) fun _ => rfl
  case overflow => exact writes_of_writeRow (fun _ => rfl) (fun _ _ => rfl) (by dsimp only [storeAct]) fun _ => rfl
  case config =>
    exact writes_of_writeRow (a := actCtrConfig (ctrBlock u) _) (fun _ => rfl) (fun _ hevent => if_pos hevent)
      (by dsimp only [actCtrConfig]) fun _ => rfl
  case filter =>
    exact writes_of_writeRow (a := actCtrFilter _) (fun _ => rfl) (fun _ hpriv => if_pos hpriv) (by dsimp only [actCtrFilter])
      fun _ => rfl
  case enable =>
    exact writes_of_writeRow (a := storeAct Obj.countEnable) (fun _ => rfl) (fun _ _ => rfl) (by dsimp only [storeAct]) fun _ => rfl
  case windowEnd => exact runs_of_liveLift (fun _ => rfl) fun d hrunning => effBwWindowEnd_of_running q d hrunning
  case windowWrite => exact writes_of_writeRow (fun _ => rfl) (fun _ _ => rfl) (by dsimp only [actBwWindow]) fun _ => rfl
  case initClear => exact writes_of_writeRow (fun _ => rfl) (fun _ _ => rfl) (by dsimp only [actInitClear]) fun _ => rfl
  case periodDisabled => exact runs_of_liveLift (fun _ => rfl) effTelemetryPeriod_of_disabled
  case periodEnabled => exact runs_of_liveLift (fun _ => rfl) effTelemetryPeriod_of_enabled
  case traceStart =>
    exact writes_of_writeRow (a := actTraceStart) (fun _ => rfl) (fun _ hlevel => hlevel) (by dsimp only [actTraceStart]) fun _ => rfl
  case traceStop => exact writes_of_writeRow (fun _ => rfl) (fun _ _ => rfl) (by dsimp only [actTraceStop]) fun _ => rfl

end Sys2Proof.Machine
end

section
/-!
PROOFS. The test access port (R441, R442, R450).
-/

namespace Sys2Proof.Machine

open Sys2Proof

/-- The instruction register holds a code. -/
def Dev.setTap (code : Nat) (d : Dev) : Dev := d.setObs fun o => { o with tap := code }

/-- A test is in effect by its code, where tests are allowed (R441). -/
theorem Dev.scanned_setTap (code : Nat) (d : Dev) : (d.setTap code).scanned = (tapTest code && d.testAllowed) := rfl

/-- A device on which tests are not allowed has none in effect. -/
theorem Dev.scanned_of_not_allowed {d : Dev} (hallowed : d.testAllowed = false) : d.scanned = false := by
  rw [Dev.scanned, hallowed, Bool.and_false]

/-- A test that takes effect holds the quays (R441). -/
theorem Dev.putTap_of_scanned (code : Nat) (d : Dev) (htest : (d.setTap code).scanned = true) :
    d.putTap code = (d.setTap code).scanHolds :=
  if_pos htest

/-- With no test in effect, neither before nor now, an instruction is loaded and nothing else. -/
theorem Dev.putTap_of_not_scanned (code : Nat) (d : Dev) (hnow : (d.setTap code).scanned = false) (hbefore : d.scanned = false) :
    d.putTap code = d.setTap code := by
  have hends : (d.setTap code).scanEnds d.scanned = d.setTap code := if_neg (by simp [hbefore])
  exact (if_neg (ne_true_of_eq_false hnow)).trans hends

/-- With a test in effect before and none now, the quays train again (R441). -/
theorem Dev.putTap_of_ended (code : Nat) (d : Dev) (hnow : (d.setTap code).scanned = false) (hbefore : d.scanned = true) :
    d.putTap code = (d.setTap code).forEach ((List.range 128).filter fun q => d.qstate q == 1) Dev.tryTrain := by
  have hends : (d.setTap code).scanEnds d.scanned =
      (d.setTap code).forEach ((List.range 128).filter fun q => (d.setTap code).qstate q == 1) Dev.tryTrain :=
    if_pos (by rw [hbefore, hnow]; rfl)
  exact (if_neg (ne_true_of_eq_false hnow)).trans hends

/-- A change through the port takes place whenever VAUX is good (R441). -/
theorem Dev.tapLive_of_on (f : Dev → Dev) {d : Dev} (hboot : d.boot ≠ .off) : d.tapLive f = f d :=
  if_neg hboot

/-- A test instruction takes effect where tests are allowed (R441). -/
theorem exec_of_effTap_allowed {i : Instr} {code : Nat} {s : State} (arm : exec i s = lift (effTap code) s)
    (hboot : s.dev.boot ≠ .off) (hallowed : s.dev.testAllowed = true) (htest : tapTest code = true) :
    exec i s = .next { s with dev := (s.dev.setTap code).scanHolds } :=
  exec_of_lift arm ((Dev.tapLive_of_on _ hboot).trans
    (s.dev.putTap_of_scanned code (by rw [Dev.scanned_setTap, htest, hallowed, Bool.and_self])))

/-- A test instruction acts as BYPASS where tests are not allowed (R441). -/
theorem exec_of_effTap_not_allowed {i : Instr} {code : Nat} {s : State} (arm : exec i s = lift (effTap code) s)
    (hboot : s.dev.boot ≠ .off) (hallowed : s.dev.testAllowed = false) :
    exec i s = .next { s with dev := s.dev.setTap code } :=
  exec_of_lift arm ((Dev.tapLive_of_on _ hboot).trans
    (s.dev.putTap_of_not_scanned code (by rw [Dev.scanned_setTap, hallowed, Bool.and_false]) (Dev.scanned_of_not_allowed hallowed)))

/-- With no test in effect an instruction that starts none is loaded and nothing else. -/
theorem Dev.putTap_of_no_test (code : Nat) (d : Dev) (htest : tapTest code = false) (hbefore : d.scanned = false) :
    d.putTap code = d.setTap code :=
  d.putTap_of_not_scanned code (by rw [Dev.scanned_setTap, htest, Bool.false_and]) hbefore

/-- With no test in effect SAMPLE takes a boundary (R441). -/
theorem effSamplePreload_of_no_test (v : Nat) (d : Dev) (hboot : d.boot ≠ .off) (hbefore : d.scanned = false) :
    effSamplePreload v d =
      ((d.setObs fun o => { o with tap := 0x01, boundary := v }).send (.proto 6 1 0 d.draw)).drawn := by
  rw [effSamplePreload, Dev.tapLive_of_on _ hboot, d.putTap_of_no_test 0x01 rfl hbefore]
  rfl

/-- With no test in effect IDCODE selects the identity, and sends it (R441). -/
theorem effIdcode_of_no_test (d : Dev) (hboot : d.boot ≠ .off) (hbefore : d.scanned = false) :
    effIdcode d = (d.setTap 0x02).send (.proto 6 2 0 (idcode d.part)) := by
  rw [effIdcode, Dev.tapLive_of_on _ hboot, d.putTap_of_no_test 0x02 rfl hbefore]

/-- With no test in effect a debug access that reads nothing is answered by its status (R442). -/
theorem effDebugAccess_of_no_read (a : Nat) (d : Dev) (hboot : d.boot ≠ .off) (hbefore : d.scanned = false)
    (hread : bits a 94 2 ≠ 1) :
    effDebugAccess a d =
      (let st := d.debugStatus (bits a 32 32)
       let captured := bits a 94 2 * 2 ^ 94 + st * 2 ^ 92 + bits a 32 32 * 2 ^ 32 + bits a 0 32
       (d.setObs fun o => { o with tap := 0x10, debug := captured }).send (.proto 6 0x10 st captured)) := by
  rw [effDebugAccess, Dev.tapLive_of_on _ hboot]
  simp only [hread, false_and, if_false, d.putTap_of_no_test 0x10 rfl hbefore]
  rfl

/-- Settles O59: the test instructions by whether tests are allowed, BYPASS by whether a test is in effect, and the others with
none in effect. -/
theorem testPortCompletes : Obligations.TestPortCompletes := by
  unfold Obligations.TestPortCompletes
  refine ⟨fun s hboot hallowed => ?allowed, fun s hboot hallowed => ?notAllowed, fun s hboot htest => ?ended,
    fun s hboot htest => ?noTest⟩
  case allowed =>
    exact ⟨exec_of_effTap_allowed rfl hboot hallowed rfl, exec_of_effTap_allowed rfl hboot hallowed rfl,
      exec_of_effTap_allowed rfl hboot hallowed rfl, exec_of_effTap_allowed rfl hboot hallowed rfl,
      exec_of_effTap_allowed rfl hboot hallowed rfl⟩
  case notAllowed =>
    exact ⟨exec_of_effTap_not_allowed rfl hboot hallowed, exec_of_effTap_not_allowed rfl hboot hallowed,
      exec_of_effTap_not_allowed rfl hboot hallowed, exec_of_effTap_not_allowed rfl hboot hallowed,
      exec_of_effTap_not_allowed rfl hboot hallowed⟩
  case ended =>
    exact exec_of_lift rfl ((Dev.tapLive_of_on _ hboot).trans (s.dev.putTap_of_ended 0xFF rfl htest))
  case noTest =>
    exact ⟨exec_of_lift rfl ((Dev.tapLive_of_on _ hboot).trans (s.dev.putTap_of_no_test 0xFF rfl htest)),
      exec_of_lift rfl ((Dev.tapLive_of_on _ hboot).trans (s.dev.putTap_of_no_test 0x02 rfl htest)),
      exec_of_lift rfl (effIdcode_of_no_test s.dev hboot htest),
      fun v => exec_of_lift rfl (effSamplePreload_of_no_test v s.dev hboot htest),
      fun a hread => exec_of_lift rfl (effDebugAccess_of_no_read a s.dev hboot htest hread)⟩

end Sys2Proof.Machine
end
